-- ==== Sys2Proof/Word.lean ====
section
/-! DEFINITION. The widths of the part's words: frame bytes, record fields (00_scope, "Units and ranges"; R57, R172). -/

namespace Sys2Proof

abbrev Byte := BitVec 8
abbrev Half := BitVec 16
abbrev Word := BitVec 32

end Sys2Proof
end

