-- ==== Sys2Proof/Syntax.lean ====
section
/-! DEFINITION. The commands the part takes: `Instr`, one constructor per row of spec/opcode_table.json, and the data
their operands are made of. The table gives the rows no operands; those here are read from each row's rule (log 4). -/

namespace Sys2Proof

/-- The two pantograph positions of a station (00_scope, "Slot"). -/
inductive Slot where
  | zero | one
  deriving DecidableEq, Repr

/-- Two like things, one per slot. -/
structure Pair (α : Type) where
  zero : α
  one : α
  deriving DecidableEq, Repr

/-- The four supply systems (00_scope). -/
inductive Supply where
  | ac25 | ac15 | dc3 | dc15
  deriving DecidableEq, Repr

/-- R14: the six values of the confirmed system. -/
inductive Confirmed where
  | noSystem | system (y : Supply) | indeterminate
  deriving DecidableEq, Repr

/-- R8, R10, R11: the classes of a window, and NO_WINDOW before the first one. -/
inductive WindowClass where
  | dead | dc15 | dc3 | reverse | ac15 | ac25 | unknown | clipped | void | noWindow
  deriving DecidableEq, Repr

/-- R20: the five positions of the system selector. -/
inductive Position where
  | park | system (y : Supply)
  deriving DecidableEq, Repr

/-- What an isolator's auxiliary contact shows (chapter 2, "The pantograph isolators"). -/
inductive Contact where
  | opened | closed | neither
  deriving DecidableEq, Repr

inductive HeadType where
  | headA | headB
  deriving DecidableEq, Repr

/-- A set of head types: "HEAD-A 1, HEAD-B 2, added together" (R72, R94). -/
structure HeadSet where
  a : Bool
  b : Bool
  deriving DecidableEq, Repr

inductive Duty where
  | idle | collect | scrape
  deriving DecidableEq, Repr

/-- R39's lift states as frames and records show them. -/
inductive LiftCode where
  | down | rising | up | lowering | dropped
  deriving DecidableEq, Repr

inductive SelectorCode where
  | park | ac25 | ac15 | dc3 | dc15 | moving | unknown | fault
  deriving DecidableEq, Repr

inductive IsolatorCode where
  | opened | closing | closed | opening | fault
  deriving DecidableEq, Repr

/-- R28: the five states of the breaker. -/
inductive BreakerState where
  | opened | closing | closed | opening | lockout
  deriving DecidableEq, Repr

/-- The codes of the Roof Sequencer's states (chapter 8, "Codes and records"). -/
inductive SeqCode where
  | dormant | prepare | raising | connecting | sensing | reselect | closing | running | opening | coasting
  | isolating | lowering | gap | held
  deriving DecidableEq, Repr

/-- Chapter 10, "The station mode". -/
inductive Mode where
  | start | listen | join | ready | muting | muted | safe
  deriving DecidableEq, Repr

inductive BidKind where
  | collect | scrape
  deriving DecidableEq, Repr

inductive Direction where
  | aLeads | bLeads
  deriving DecidableEq, Repr

inductive DeskClaim where
  | none | requesting | owning
  deriving DecidableEq, Repr

inductive IceMode where
  | auto | off | force
  deriving DecidableEq, Repr

/-- R71: the conditions an ALERT reports. -/
inductive AlertCode where
  | dropped | held | roofFault | switchgearFault | noSupply | duplicate
  deriving DecidableEq, Repr

/-- R71: an alert's code and slot field; `none` is 255. -/
structure Alert where
  code : AlertCode
  slot : Option Slot
  deriving DecidableEq, Repr

/-- R60: the fields of one slot in a STATE_ROOF. -/
structure RoofSlot where
  dA : Half
  head : HeadType
  lift : LiftCode
  duty : Duty
  locked : Bool
  latch : Bool
  deriving DecidableEq, Repr

/-- R60: the open bid fields of a STATE_ROOF. -/
structure OpenBid where
  kind : BidKind
  slot : Slot
  number : Byte
  committed : Bool
  deriving DecidableEq, Repr

/-- R60: the payload of a STATE_ROOF. An absent bid and an absent alert (code 0, slot 255) are `none`. -/
structure RoofPayload where
  mode : Mode
  seq : SeqCode
  powerless : Bool
  odoStale : Bool
  confirmed : Confirmed
  selector : SelectorCode
  breaker : BreakerState
  isolators : Pair IsolatorCode
  slots : Pair RoofSlot
  arcRate : Byte
  iceLevel : Byte
  heatUnits : Byte
  bid : Option OpenBid
  alert : Option Alert
  deriving DecidableEq, Repr

/-- R69: the payload of a STATE_CAB. -/
structure CabPayload where
  claim : DeskClaim
  permit : Bool
  iceMode : IceMode
  direction : Direction
  speed : Half
  odometer : Word
  length : Half
  expected : Option Supply
  deriving DecidableEq, Repr

/-- R70: the payload of a BID. -/
structure BidPayload where
  kind : BidKind
  slot : Slot
  dfront : Half
  number : Byte
  deriving DecidableEq, Repr

inductive NoticeKind where
  | phaseGap | systemGap | lowerZone
  deriving DecidableEq, Repr

/-- R72, R111: one route notice as a ROUTE frame gives it. -/
structure Notice where
  id : Byte
  kind : NoticeKind
  start : Word
  stop : Word
  beyond : Option Supply
  heads : Option HeadSet
  deriving DecidableEq, Repr

/-- R72: the verbs of an ORDER. -/
inductive Verb where
  | lock | unlock | clearFault | prefer | resume | resetArm | reset | mute | unmute
  deriving DecidableEq, Repr

/-- R68: the eight kinds of frame with their payloads. -/
inductive Frame where
  | stateRoof (p : RoofPayload)
  | stateCab (p : CabPayload)
  | bid (b : BidPayload)
  | cede (number : Byte)
  | alert (x : Alert)
  | route (n : Notice)
  | cancel (id : Byte)
  | order (v : Verb) (mask : Byte) (arg : Half)
  deriving DecidableEq, Repr

/-- The selector's five end switches, each `true` while closed. -/
structure Switches where
  park : Bool
  ac25 : Bool
  ac15 : Bool
  dc3 : Bool
  dc15 : Bool
  deriving DecidableEq, Repr

/-- The levels at the part's roof field inputs (00_scope, "The roof field lines"). -/
structure Pins where
  selector : Switches
  isolators : Pair Contact
  breakerClosed : Bool
  up : Pair Bool
  down : Pair Bool
  add : Pair Bool
  temperature : Int
  deriving DecidableEq, Repr

/-- R37: the first reflection of a roof test that exceeded the threshold. -/
structure Reflection where
  positive : Bool
  count : Fin 512
  deriving DecidableEq, Repr

/-- The commands, one constructor per row of spec/opcode_table.json, in the table's order. -/
inductive Instr where
  | powerOnReset (pins : Pins)
  | sampleFrame (code : BitVec 16) (parity : Bool)
  | lossTimerExpiry
  | silenceTimerExpiry
  | surgeMaskExpiry
  | selectorTravelEnd
  | selectorTravelTimeout
  | selectorEndSwitchChange (position : Position) (closed : Bool)
  | isolatorClosed (slot : Slot)
  | isolatorOpened (slot : Slot)
  | isolatorTimeout (slot : Slot)
  | isolatorContactConflict (slot : Slot) (contact : Contact)
  | breakerClosed
  | breakerCloseTimeout
  | breakerOpened
  | breakerOpenTimeout
  | breakerContactConflict
  | breakerTrip
  | roofTestCompletion (reflection : Option Reflection)
  | slotUp (slot : Slot) (closed : Bool)
  | riseTimeout (slot : Slot)
  | slotDown (slot : Slot) (closed : Bool)
  | lowerTimeout (slot : Slot)
  | slotDropped (slot : Slot) (operated : Bool)
  | lock (dst src mask : Byte) (arg : Half)
  | unlock (dst src mask : Byte) (arg : Half)
  | clearFaultSlots (dst src mask : Byte) (arg : Half)
  | clearFaultSwitchgear (dst src mask : Byte) (arg : Half)
  | prefer (dst src mask : Byte) (arg : Half)
  | resume (dst src mask : Byte) (arg : Half)
  | mute (dst src mask : Byte) (arg : Half)
  | unmute (dst src mask : Byte) (arg : Half)
  | resetArm (dst src mask : Byte) (arg : Half)
  | reset (dst src mask : Byte) (arg : Half) (temperature : Int)
  | armingTimerExpiry
  | stateTimerExpiry
  | attemptStart
  | collision (bit : Nat)
  | jamEnd
  | backoffExpiry
  | frameSent
  | framingError (bytes : List Byte)
  | unknownKind (dst src kind : Byte) (payload : List Byte)
  | stateRoof (dst src : Byte) (p : RoofPayload)
  | stateCab (dst src : Byte) (p : CabPayload)
  | peerAgeExpiry (address : Nat)
  | peerRemovalExpiry (address : Nat)
  | bid (dst src : Byte) (b : BidPayload)
  | cede (dst src number : Byte)
  | peerBidTimerExpiry (address : Nat)
  | alert (dst src : Byte) (x : Alert)
  | authorityHoldExpiry
  | odoStale
  | bidWindowExpiry
  | bidSpacingExpiry
  | route (dst src : Byte) (n : Notice)
  | cancel (dst src id : Byte)
  | noticeReviewTimerExpiry
  | seqRetryExpiry
  | testRetryExpiry
  | powerlessTimerExpiry
  | noSupplyTimerExpiry
  | recloseHoldExpiry
  | seqReviewTimerExpiry
  | arcPulse (slot : Slot) (micros : Nat)
  | iceIntervalEnd (reading : Int)
  | iceReviewTimerExpiry
  | configAttemptEnd (buffer : List Byte)
  | listenTimerExpiry
  | joinTimerExpiry
  | moderationCountEnd
  | status
  | events (n : Half)
  | ack (k : Half)
  | peers
  | notices
  | config
  | counters
  | badFrame (b0 b1 b2 b3 b4 : Byte)
  | unknownCommand (code : Byte) (arg : Half)
  | serviceByteGapExpiry
  | serviceReplyEnd
  | serviceByte (b : Byte)
  deriving DecidableEq, Repr

end Sys2Proof
end

