-- ==== Sys2Proof/Config.lean ====
section
/-! DEFINITION. The free values: what the manual leaves open. None of these has a body, so nothing can be proved of one
beyond what the place that reads it says. Each has a row in notes/assumptions. -/

namespace Sys2Proof

/-- R64: the draws of the random generator, "each value equally likely" (log 5). Arguments: the seed of R58 and R64, station
address and time base, none while unseeded; an index, one for each draw. The place that reads it takes it modulo the size of the
range of R64. -/
opaque Config.backoffDraw : Option (Nat × Nat) → Nat → Nat

/-- R87 with 00_scope's unsigned 32-bit odometer: the manual does not say what the extrapolated front odometer is when
base odometer and extrapolation together pass 4,294,967,295 (log 6). Arguments: base odometer, extrapolation. -/
opaque Config.odometerBeyond : Nat → Nat → Word

/-- R111, R127, R139: heads are permitted "by a profile"; the manual does not say which heads are permitted while no
profile is in force (log 7). Argument: whether the head is HEAD-B. -/
opaque Config.headWithoutProfile : Bool → Bool

/-- R164: CONFIG_BAD's data1 is "the byte offset of the failing field"; where one failing check concerns several fields the
manual does not say which of them it names (log 8). Argument: the offsets of those fields. -/
opaque Config.fieldChoice : List Nat → Nat

/-- R32: BREAKER_TRIP's data1 is the milliseconds since the previous trip; where these are 2^32 or more the manual does not say
what the four bytes of the field hold (log 49). Argument: those milliseconds. -/
opaque Config.tripAgeBeyond : Nat → Word

end Sys2Proof
end

