-- ==== Sys2Proof/Machine/State.lean ====
section
/-! DEFINITION. The state of the part: one structure for each block of 00_scope ("Blocks of the part"), the queue of waiting
commands, and the state right after a power-on reset. Plain data throughout. -/

namespace Sys2Proof.Machine

/-- Why a command stops the machine: nothing does. The spec gives every command an effect in every state, so this type has
no constructor, and no claim about a next state hides a stop. Safe. -/
inductive Fault where
  deriving DecidableEq, Repr

/-- Why a command has no meaning in this model. -/
inductive Refusal where
  /-- Raised by an arm of `exec` whose command has no meaning yet; no arm raises it now. Safe: nothing can be proved of a
  run that meets it. -/
  | notModelled (mnemonic : String)
  deriving DecidableEq, Repr

/-- Milliseconds left of a running timer; `none` while it is stopped. -/
abbrev Timer := Option Nat

/-! ### The Line Classifier (01) -/

/-- The state R17 lists. The silence timer runs exactly while a loss run is in progress (R3). -/
structure Classifier where
  count : Nat
  sum : Int
  squares : Nat
  crossings : Nat
  clip : Bool
  surge : Bool
  lossTimer : Timer
  silenceTimer : Timer
  armed : Bool
  surgeMask : Timer
  maskedSurges : Nat
  latest : WindowClass
  reported : Int
  run : Option (WindowClass × Nat)
  voids : Nat
  confirmed : Confirmed
  badSamples : Nat
  deriving DecidableEq, Repr

/-! ### The Peer View (05) -/

/-- R75: the last STATE payload of a peer; its kind is the entry's node kind. -/
inductive StatePayload where
  | roof (p : RoofPayload)
  | cab (p : CabPayload)
  deriving DecidableEq, Repr

/-- R79: a peer's pending bid with the time it was received. -/
structure PeerBid where
  bid : BidPayload
  time : Nat
  deriving DecidableEq, Repr

/-- R75: one entry of the peer table, with its timers (R77, R79). -/
structure Peer where
  address : Nat
  last : StatePayload
  fresh : Bool
  heard : Nat
  ageTimer : Timer
  removalTimer : Timer
  bid : Option PeerBid
  bidTimer : Timer
  alert : Option (Alert × Nat)
  deriving DecidableEq, Repr

/-- R83: the authority hold. -/
inductive Hold where
  | present | holding | lost
  deriving DecidableEq, Repr

/-- R86: the geometry store. -/
structure Geometry where
  known : Bool
  direction : Direction
  speed : Nat
  length : Nat
  baseOdometer : Nat
  baseTime : Nat
  odoStale : Bool
  refusalRun : Bool
  deriving DecidableEq, Repr

/-- The peer table in increasing order of address, the authority record (R82), the hold (R83) and the geometry (R86). -/
structure PeerView where
  table : List Peer
  authority : Option Nat
  conflict : Bool
  hold : Hold
  holdTimer : Timer
  geometry : Geometry
  deriving DecidableEq, Repr

/-! ### The loaded configuration (10) -/

/-- R94, R162: one line profile. -/
structure Profile where
  maxCollect : Nat
  minSpacing : Nat
  scrapeSpacing : Nat
  scrapeAllowed : Bool
  heads : HeadSet
  f0 : Nat
  kmu : Nat
  fmin : Nat
  fmax : Nat
  scrapeAdd : Nat
  deriving DecidableEq, Repr

/-- R162: the values of an accepted configuration block, and its 256 bytes (R177). -/
structure Loaded where
  bytes : List Byte
  station : Nat
  heads : Pair HeadType
  dA : Pair Nat
  p0 : Pair Nat
  gain : Pair Nat
  lroof : Nat
  t1 : Nat
  t2 : Nat
  t3 : Nat
  hysteresis : Nat
  iceTemp : Int
  heatBudget : Nat
  moderation : Nat
  ac25 : Profile
  ac15 : Profile
  dc3 : Profile
  dc15 : Profile
  deriving DecidableEq, Repr

/-- What the blocks' reactions inside one event read and never write: time base, inputs, classifier, peer view, loaded
configuration. -/
structure Env where
  now : Nat
  pins : Pins
  cls : Classifier
  pv : PeerView
  cfg : Option Loaded
  deriving DecidableEq, Repr

/-! ### Requests between blocks -/

/-- Who waits for an answer (R19, R41, R43). `visit` numbers the sequencer's stay in a state and phase (R124). -/
inductive Requester where
  | sequencer (visit : Nat)
  | lift (slot : Slot)
  | bidUnit
  | iceUnit
  | startup
  | peerView
  deriving DecidableEq, Repr

/-- R123 to R140: the requests whose answers the Roof Sequencer or the Lift Drive waits for. -/
inductive Request where
  | moveSelector (y : Supply)
  | closeIsolator (i : Slot)
  | openIsolator (i : Slot)
  | closeBreaker
  | openBreaker
  | roofTest
  | lower (i : Slot)
  deriving DecidableEq, Repr

/-- R38: the result of a roof test. -/
inductive TestResult where
  | none | normal | broken | earth | noEcho | invalid
  deriving DecidableEq, Repr

/-- R19: the answers to a request; a roof test is answered with its result (R38). -/
inductive Answer where
  | done | failed | refused | tested (r : TestResult)
  deriving DecidableEq, Repr

/-! ### Switchgear Interlock and Roof Test Unit (02) -/

/-- R20. -/
inductive SelectorState where
  | rest (p : Position)
  | moving (target : Supply)
  | unknown
  | fault
  deriving DecidableEq, Repr

/-- 02, "Codes": fault kinds. -/
inductive FaultKind where
  | travelTimeout | contactConflict | closeTimeout | openTimeout
  deriving DecidableEq, Repr

structure Selector where
  state : SelectorState
  timer : Timer
  waiters : List Requester
  deriving DecidableEq, Repr

/-- R24, R26: `opening false` is the awaiting-breaker phase, `opening true` has the open coil driven. -/
inductive IsolatorState where
  | opened | closing | closed | opening (driven : Bool) | fault
  deriving DecidableEq, Repr

structure Isolator where
  state : IsolatorState
  timer : Timer
  closeWaiters : List Requester
  openWaiters : List Requester
  deriving DecidableEq, Repr

/-- R28, R33: the breaker, its timer, its requesters and its trip history. `closeTimeout` is the time of a close timeout that left
the breaker OPEN at once (R29's race, log 43). -/
structure Breaker where
  state : BreakerState
  timer : Timer
  closeWaiters : List Requester
  openWaiters : List Requester
  lastTrip : Option Nat
  closeTimeout : Option Nat
  deriving DecidableEq, Repr

/-- R36, R38: the test in progress with its requesters, and the result record. -/
structure RoofTest where
  running : Bool
  waiters : List Requester
  result : TestResult
  count : Nat
  distance : Nat
  deriving DecidableEq, Repr

/-! ### Lift Drive (03) -/

inductive LoweringPhase where
  | awaitingIsolator | venting
  deriving DecidableEq, Repr

/-- R39: the lift state; the lowering phase is present only while LOWERING. -/
inductive LiftState where
  | down | rising | up | lowering (phase : LoweringPhase) | dropped
  deriving DecidableEq, Repr

/-- R39: the slot record, its timers, and its requesters. -/
structure SlotRec where
  lift : LiftState
  duty : Duty
  locked : Bool
  latch : Bool
  force : Nat
  pressure : Nat
  setProfile : Option Supply
  head : HeadType
  dA : Nat
  p0 : Nat
  gain : Nat
  riseTimer : Timer
  lowerTimer : Timer
  raiseWaiting : Bool
  lowerWaiters : List Requester
  deriving DecidableEq, Repr

/-! ### Consist Link Controller (04) -/

/-- R59: who is answered for a queue entry: the Bid Unit for a BID of that number, the Start-up Controller for the final
STATE_ROOF of R167; no other requester acts on its answer. -/
inductive TxRequester where
  | bid (number : Nat)
  | final
  | other
  deriving DecidableEq, Repr

structure TxEntry where
  frame : Frame
  requesters : List TxRequester
  deriving DecidableEq, Repr

/-- R62; `late` is the lateness of the collision whose jam is being sent (R63), `slots` the slot times drawn (R64). -/
inductive Access where
  | deferring
  | onWire
  | jamming (late : Bool)
  | backoff (slots : Nat)
  deriving DecidableEq, Repr

/-- R62, R64: the head entry with its access state and the attempts it has made. -/
structure TxHead where
  entry : TxEntry
  access : Access
  attempts : Nat
  deriving DecidableEq, Repr

/-- R59: the answers to a frame's requester. -/
inductive TxAnswer where
  | sent | discarded | withdrawn | closed
  deriving DecidableEq, Repr

/-- R58 to R74. The queue is the head and, behind it, the waiting entries in order of offer. -/
structure Link where
  address : Option Nat
  gateOpen : Bool
  stateTimer : Timer
  head : Option TxHead
  waiting : List TxEntry
  seed : Option (Nat × Nat)
  lastAlert : Option Alert
  framesSent : Nat
  collisions : Nat
  lateCollisions : Nat
  discards : Nat
  crcErrors : Nat
  unknownKinds : Nat
  deriving DecidableEq, Repr

/-! ### Bid Unit (06) -/

inductive BidPhase where
  | offered | window | committed
  deriving DecidableEq, Repr

/-- R93; the requester is the Roof Sequencer for COLLECT and the Ice Unit for SCRAPE. -/
structure HeldBid where
  kind : BidKind
  slot : Slot
  dfront : Nat
  number : Nat
  phase : BidPhase
  deriving DecidableEq, Repr

/-- R96: what the requester of a bid is told. -/
inductive Outcome where
  | opened | notOpened | dropped | ceded | lapsed | won | raised | failed
  deriving DecidableEq, Repr

structure BidUnit where
  bid : Option HeldBid
  owedCede : Option Nat
  windowTimer : Timer
  spacingTimer : Timer
  collectRequest : Option Slot
  scrapeRequest : Option Slot
  nextNumber : Nat
  profile : Option Supply
  deriving DecidableEq, Repr

/-! ### Notice Queue (07) -/

/-- R111: a held notice; `pointReached` is the scraper-point flag the Ice Unit keeps for it (R157), which leaves with it. -/
structure HeldNotice where
  notice : Notice
  late : Bool
  pointReached : Bool
  deriving DecidableEq, Repr

/-- R111, R117: the held notices in start order, the current-notice mark, the review timer. -/
structure NoticeQueue where
  held : List HeldNotice
  current : Option Byte
  reviewTimer : Timer
  deriving DecidableEq, Repr

/-! ### Roof Sequencer (08) -/

inductive PreparePhase where
  | clearing | testing | selecting
  deriving DecidableEq, Repr

inductive GapPhase where
  | testing | selecting | waiting
  deriving DecidableEq, Repr

/-- Chapter 8, "Codes and records". -/
inductive HeldReason where
  | roofFault | roofTestInvalid | selectorFault | isolatorFault | breakerFault | lockout | secondMismatch
  | indeterminate | passageBroken
  deriving DecidableEq, Repr

/-- R123: state, with the phase and the HELD reason where they are present. -/
inductive SeqState where
  | dormant
  | prepare (p : PreparePhase)
  | raising
  | connecting
  | sensing
  | reselect
  | closing
  | running
  | opening
  | coasting
  | isolating
  | lowering
  | gap (g : GapPhase)
  | held (r : HeldReason)
  deriving DecidableEq, Repr

/-- R123, with the requests of the present stay that are unanswered and the refused request the retry timer repeats (R124). -/
structure Sequencer where
  state : SeqState
  target : Option Supply
  collector : Option Slot
  committed : Bool
  notice : Option HeldNotice
  reselectUsed : Bool
  tripMarker : Bool
  testCount : Nat
  powerless : Bool
  retryTimer : Timer
  testRetryTimer : Timer
  powerlessTimer : Timer
  noSupplyTimer : Timer
  recloseHold : Timer
  reviewTimer : Timer
  visit : Nat
  awaiting : List Request
  retry : Option (Request × Nat)
  deriving DecidableEq, Repr

/-! ### Ice Unit (09) -/

/-- R155, R156: the heaters, in the order in which they are kept: the collector's head, the scraper's head, the insulator. -/
inductive Heater where
  | collectorHead (i : Slot)
  | scraperHead (i : Slot)
  | insulator
  deriving DecidableEq, Repr

structure IceUnit where
  arcs : Pair Nat
  intervalTimer : Timer
  ownRate : Nat
  trainRate : Nat
  level : Nat
  fallCount : Nat
  forced : Option Nat
  lastTemp : Option Int
  readingTaken : Bool
  heaters : List Heater
  shed : List Heater
  candidate : Option (Nat × Slot)
  reviewTimer : Timer
  deriving DecidableEq, Repr

/-! ### Start-up Controller (10) -/

/-- R163, R164: the load in progress (its attempt, 1 to 3), accepted, or rejected with the reason. -/
inductive LoadState where
  | reading (attempt : Nat)
  | accepted
  | rejected (reason : Nat)
  deriving DecidableEq, Repr

structure Startup where
  mode : Mode
  load : LoadState
  listenTimer : Timer
  joinTimer : Timer
  pendingClose : Bool
  armedBy : Option Nat
  armingTimer : Timer
  deriving DecidableEq, Repr

/-! ### Event Ring and Service Port (11) -/

/-- The event codes of chapter 11. -/
inductive EventCode where
  | samplesLost | surge | reversePolarity | systemConfirmed
  | switchgearFault | breakerForcedOpen | breakerTrip | breakerLockout | switchgearCleared | roofTest
  | raiseFail | lowerFail | slotDropped | slotLock | slotCleared | preferredSlot
  | txFull | linkDiscard
  | peerJoined | peerMoved | peerStale | peerRemoved | authorityChange | authorityConflict | authorityLost
  | frameRefused | odoStale | odoRebased | directionChange | directionRefused
  | bidOpened | bidCeded | bidWon | retracted | activeProfile
  | noticeAccepted | noticeLate | noticeRefused | noticeStale | noticeEvicted | noticeCancelled | noticeCurrent
  | noticeRetired | noticeFlushed
  | seqState | systemMismatch | powerless | noSupply | resumeRefused
  | iceLevel | heatShed | scraperCandidate | tempInvalid
  | configLoaded | configBad | mode | duplicateAddress | orderIgnored | resetArmed | resetDisarmed | reset
  | overrun
  deriving DecidableEq, Repr

/-- A record as a block hands it to the ring: the fields of R172 but for sequence and time. -/
structure LogEntry where
  code : EventCode
  subject : Byte
  data0 : Half
  data1 : Word
  mode : Byte
  seqState : Byte
  deriving DecidableEq, Repr

/-- R172: a record of the ring. -/
structure Record where
  seq : Half
  time : Word
  entry : LogEntry
  deriving DecidableEq, Repr

/-- R172 to R174; records oldest first. `firstDropped` is the first-dropped code, 0 when there has been none. -/
structure Ring where
  records : List Record
  sequence : Half
  dropped : Nat
  firstDropped : Byte
  busy : Bool
  moderation : Nat
  deriving DecidableEq, Repr

/-- R175: the bytes gathered of a command, the byte-gap timer, and the reply being sent. -/
structure Port where
  gathered : List Byte
  gapTimer : Timer
  reply : Option (List Byte)
  deriving DecidableEq, Repr

/-! ### Reports inside one event (00_scope, "Requests between blocks"; log 1) -/

/-- What one block tells another within an event. -/
inductive Report where
  | answered (who : Requester) (q : Request) (a : Answer)
  | raiseAnswered (i : Slot) (a : Answer)
  | txAnswered (number : Nat) (a : TxAnswer)
  | finalLeft
  | outcome (k : BidKind) (o : Outcome)
  | slotChanged (i : Slot)
  | preferredChanged
  | selectorFault
  | isolatorFault
  | breakerFault
  | breakerForced (reason : Nat)
  | lockout
  | trip
  | breakerOpened
  | confirmedChanged
  | profileChanged
  | permitChanged
  | holdLost
  | modeChanged
  | muteTaken
  | lockAll
  | noticesChanged
  | currentRetired
  | flushed
  | cabTaken
  | odoStale
  deriving DecidableEq, Repr

/-- The reports under way, and the reviews the Ice Unit and the Bid Unit owe at the end of the event (R105, R157). -/
structure Inbox where
  reports : List Report
  iceDue : Bool
  evalDue : Bool
  deriving DecidableEq, Repr

/-- The blocks that react inside an event, with the reports and the records of the event in progress. -/
structure Act where
  selector : Selector
  isolators : Pair Isolator
  breaker : Breaker
  test : RoofTest
  slots : Pair SlotRec
  preferred : Option Slot
  link : Link
  bids : BidUnit
  notices : NoticeQueue
  seq : Sequencer
  ice : IceUnit
  startup : Startup
  inbox : Inbox
  logs : List LogEntry
  deriving DecidableEq, Repr

/-- The part: the commands that wait, what reactions read, what reacts, the event ring, the service port, and the index of
the next free value (log 25). -/
structure State where
  pending : List Instr
  env : Env
  act : Act
  ring : Ring
  port : Port
  freeIndex : Nat
  deriving DecidableEq, Repr

/-! ### After a power-on reset -/

/-- The levels of the inputs in `State.reset` (DESIGN CHOICE, log 3): a roof at rest, both heads housed, every device open, the
selector at PARK, 0 °C. `POWER_ON_RESET` takes any other levels as its operand. -/
def Pins.atRest : Pins :=
  { selector := ⟨true, false, false, false, false⟩
    isolators := ⟨.opened, .opened⟩
    breakerClosed := false
    up := ⟨false, false⟩
    down := ⟨true, true⟩
    add := ⟨false, false⟩
    temperature := 0 }

/-- R17. -/
def Classifier.reset : Classifier :=
  { count := 0, sum := 0, squares := 0, crossings := 0, clip := false, surge := false
    lossTimer := some 2, silenceTimer := none, armed := false, surgeMask := none, maskedSurges := 0
    latest := .noWindow, reported := 0, run := none, voids := 0, confirmed := .noSystem, badSamples := 0 }

/-- R92; `now` is the time of the reset's end. -/
def PeerView.reset (now : Nat) : PeerView :=
  { table := [], authority := none, conflict := false, hold := .lost, holdTimer := none
    geometry :=
      { known := false, direction := .aLeads, speed := 0, length := 0, baseOdometer := 0, baseTime := now
        odoStale := true, refusalRun := false } }

/-- R35: an isolator that awaits the breaker. -/
def Isolator.reset : Isolator :=
  { state := .opening false, timer := none, closeWaiters := [], openWaiters := [] }

/-- R35. -/
def Breaker.reset : Breaker :=
  { state := .opening, timer := some 100, closeWaiters := [], openWaiters := [], lastTrip := none
    closeTimeout := none }

/-- R38. -/
def RoofTest.reset : RoofTest :=
  { running := false, waiters := [], result := .none, count := 0, distance := 0 }

/-- R54 for a slot found housed, before a configuration is loaded. -/
def SlotRec.reset : SlotRec :=
  { lift := .down, duty := .idle, locked := true, latch := false, force := 0, pressure := 0, setProfile := none
    head := .headA, dA := 0, p0 := 0, gain := 0, riseTimer := none, lowerTimer := none, raiseWaiting := false
    lowerWaiters := [] }

/-- R74; a link reset keeps the address. -/
def Link.reset (address : Option Nat) : Link :=
  { address := address, gateOpen := false, stateTimer := none, head := none, waiting := [], seed := none
    lastAlert := none, framesSent := 0, collisions := 0, lateCollisions := 0, discards := 0, crcErrors := 0
    unknownKinds := 0 }

/-- R110. -/
def BidUnit.reset : BidUnit :=
  { bid := none, owedCede := none, windowTimer := none, spacingTimer := none, collectRequest := none
    scrapeRequest := none, nextNumber := 0, profile := none }

/-- R122. -/
def NoticeQueue.reset : NoticeQueue :=
  { held := [], current := none, reviewTimer := some 10 }

/-- R146. -/
def Sequencer.reset : Sequencer :=
  { state := .dormant, target := none, collector := none, committed := false, notice := none, reselectUsed := false
    tripMarker := false, testCount := 0, powerless := false, retryTimer := none, testRetryTimer := none
    powerlessTimer := none, noSupplyTimer := none, recloseHold := none, reviewTimer := some 10, visit := 0
    awaiting := [], retry := none }

/-- R161, before the temperature reading at the reset's end. -/
def IceUnit.reset : IceUnit :=
  { arcs := ⟨0, 0⟩, intervalTimer := some 1000, ownRate := 0, trainRate := 0, level := 0, fallCount := 0, forced := none
    lastTemp := none, readingTaken := false, heaters := [], shed := [], candidate := none, reviewTimer := some 10 }

/-- R171. -/
def Startup.reset : Startup :=
  { mode := .start, load := .reading 1, listenTimer := none, joinTimer := none, pendingClose := false, armedBy := none
    armingTimer := none }

/-- R178. -/
def Ring.reset : Ring :=
  { records := [], sequence := 0, dropped := 0, firstDropped := 0, busy := false, moderation := 0 }

/-- R175: nothing gathered, no reply. -/
def Port.reset : Port := { gathered := [], gapTimer := none, reply := none }

def Inbox.empty : Inbox := { reports := [], iceDue := false, evalDue := false }

/-- The part right after a power-on reset with its inputs as `Pins.atRest` has them. The breaker's contact shows OPEN and so do
the isolators', so all three are OPEN at the reset's own event (R26, R30, R35); the selector is found at PARK (R35), both
slots are found housed (R54), and the temperature reading of 0 °C is taken (R161). -/
def State.reset : State :=
  { pending := []
    env := { now := 0, pins := Pins.atRest, cls := Classifier.reset, pv := PeerView.reset 0, cfg := none }
    act :=
      { selector := { state := .rest .park, timer := none, waiters := [] }
        isolators :=
          ⟨{ Isolator.reset with state := .opened }, { Isolator.reset with state := .opened }⟩
        breaker := { Breaker.reset with state := .opened, timer := none }
        test := RoofTest.reset
        slots := ⟨SlotRec.reset, SlotRec.reset⟩
        preferred := none
        link := Link.reset none
        bids := BidUnit.reset
        notices := NoticeQueue.reset
        seq := Sequencer.reset
        ice := { IceUnit.reset with lastTemp := some 0, readingTaken := true }
        startup := Startup.reset
        inbox := Inbox.empty
        logs := [] }
    ring := Ring.reset
    port := Port.reset
    freeIndex := 0 }

end Sys2Proof.Machine
end

