-- ==== Sys2Proof/Machine/Codes.lean ====
section
/-! DEFINITION. The codes of states, results, kinds and events, each from the table of the chapter that owns it. -/

namespace Sys2Proof

def Slot.code : Slot → Nat
  | .zero => 0
  | .one => 1

/-- Slot fields of records and alerts: the slot, or 255 where no slot is named. -/
def optSlotCode : Option Slot → Nat
  | none => 255
  | some i => Slot.code i

def slotOfCode : Nat → Option Slot
  | 0 => some .zero
  | 1 => some .one
  | _ => none

/-- The other slot of the station. -/
def Slot.other : Slot → Slot
  | .zero => .one
  | .one => .zero

/-- 01, "Codes for classes and systems"; the selector's system positions have the same codes (02, "Codes"). -/
def Supply.code : Supply → Nat
  | .ac25 => 1
  | .ac15 => 2
  | .dc3 => 3
  | .dc15 => 4

/-- A system that may be none, as ACTIVE_PROFILE and SEQ_STATE give it: 0 for none. -/
def optSupplyCode : Option Supply → Nat
  | none => 0
  | some y => Supply.code y

def supplyOfCode : Nat → Option Supply
  | 1 => some .ac25
  | 2 => some .ac15
  | 3 => some .dc3
  | 4 => some .dc15
  | _ => none

def Confirmed.code : Confirmed → Nat
  | .noSystem => 0
  | .system y => Supply.code y
  | .indeterminate => 5

def confirmedOfCode : Nat → Option Confirmed
  | 0 => some .noSystem
  | 1 => some (.system .ac25)
  | 2 => some (.system .ac15)
  | 3 => some (.system .dc3)
  | 4 => some (.system .dc15)
  | 5 => some .indeterminate
  | _ => none

def WindowClass.code : WindowClass → Nat
  | .dead => 0
  | .dc15 => 1
  | .dc3 => 2
  | .reverse => 3
  | .ac15 => 4
  | .ac25 => 5
  | .unknown => 6
  | .clipped => 7
  | .void => 8
  | .noWindow => 15

/-- 02, "Codes". -/
def Position.code : Position → Nat
  | .park => 0
  | .system y => Supply.code y

def Machine.SelectorState.toCode : Machine.SelectorState → SelectorCode
  | .rest .park => .park
  | .rest (.system .ac25) => .ac25
  | .rest (.system .ac15) => .ac15
  | .rest (.system .dc3) => .dc3
  | .rest (.system .dc15) => .dc15
  | .moving _ => .moving
  | .unknown => .unknown
  | .fault => .fault

def SelectorCode.code : SelectorCode → Nat
  | .park => 0
  | .ac25 => 1
  | .ac15 => 2
  | .dc3 => 3
  | .dc15 => 4
  | .moving => 5
  | .unknown => 6
  | .fault => 7

def selectorOfCode : Nat → Option SelectorCode
  | 0 => some .park
  | 1 => some .ac25
  | 2 => some .ac15
  | 3 => some .dc3
  | 4 => some .dc15
  | 5 => some .moving
  | 6 => some .unknown
  | 7 => some .fault
  | _ => none

def Machine.IsolatorState.toCode : Machine.IsolatorState → IsolatorCode
  | .opened => .opened
  | .closing => .closing
  | .closed => .closed
  | .opening _ => .opening
  | .fault => .fault

def IsolatorCode.code : IsolatorCode → Nat
  | .opened => 0
  | .closing => 1
  | .closed => 2
  | .opening => 3
  | .fault => 4

def isolatorOfCode : Nat → Option IsolatorCode
  | 0 => some .opened
  | 1 => some .closing
  | 2 => some .closed
  | 3 => some .opening
  | 4 => some .fault
  | _ => none

def BreakerState.code : BreakerState → Nat
  | .opened => 0
  | .closing => 1
  | .closed => 2
  | .opening => 3
  | .lockout => 4

def breakerOfCode : Nat → Option BreakerState
  | 0 => some .opened
  | 1 => some .closing
  | 2 => some .closed
  | 3 => some .opening
  | 4 => some .lockout
  | _ => none

def Machine.TestResult.code : Machine.TestResult → Nat
  | .none => 0
  | .normal => 1
  | .broken => 2
  | .earth => 3
  | .noEcho => 4
  | .invalid => 5

def Machine.FaultKind.code : Machine.FaultKind → Nat
  | .travelTimeout => 1
  | .contactConflict => 2
  | .closeTimeout => 3
  | .openTimeout => 4

/-- 03, "Codes and records". -/
def Machine.LiftState.toCode : Machine.LiftState → LiftCode
  | .down => .down
  | .rising => .rising
  | .up => .up
  | .lowering _ => .lowering
  | .dropped => .dropped

def LiftCode.code : LiftCode → Nat
  | .down => 0
  | .rising => 1
  | .up => 2
  | .lowering => 3
  | .dropped => 4

def liftOfCode : Nat → Option LiftCode
  | 0 => some .down
  | 1 => some .rising
  | 2 => some .up
  | 3 => some .lowering
  | 4 => some .dropped
  | _ => none

def Machine.LoweringPhase.code : Machine.LoweringPhase → Nat
  | .awaitingIsolator => 0
  | .venting => 1

def Duty.code : Duty → Nat
  | .idle => 0
  | .collect => 1
  | .scrape => 2

def dutyOfCode : Nat → Option Duty
  | 0 => some .idle
  | 1 => some .collect
  | 2 => some .scrape
  | _ => none

def HeadType.code : HeadType → Nat
  | .headA => 0
  | .headB => 1

def headOfCode : Nat → Option HeadType
  | 0 => some .headA
  | 1 => some .headB
  | _ => none

/-- HEAD-A 1, HEAD-B 2, added together (R72, R94). -/
def HeadSet.code (h : HeadSet) : Nat := (if h.a then 1 else 0) + (if h.b then 2 else 0)

def headSetOfCode : Nat → Option HeadSet
  | 0 => some ⟨false, false⟩
  | 1 => some ⟨true, false⟩
  | 2 => some ⟨false, true⟩
  | 3 => some ⟨true, true⟩
  | _ => none

def HeadSet.permits (h : HeadSet) : HeadType → Bool
  | .headA => h.a
  | .headB => h.b

/-- R70: COLLECT 1, SCRAPE 2. -/
def BidKind.code : BidKind → Nat
  | .collect => 1
  | .scrape => 2

def bidKindOfCode : Nat → Option BidKind
  | 1 => some .collect
  | 2 => some .scrape
  | _ => none

/-- R103: a committed bid raises its slot with the bid's kind as duty. -/
def BidKind.duty : BidKind → Duty
  | .collect => .collect
  | .scrape => .scrape

/-- Chapter 8, "Codes and records". -/
def Machine.SeqState.toCode : Machine.SeqState → SeqCode
  | .dormant => .dormant
  | .prepare _ => .prepare
  | .raising => .raising
  | .connecting => .connecting
  | .sensing => .sensing
  | .reselect => .reselect
  | .closing => .closing
  | .running => .running
  | .opening => .opening
  | .coasting => .coasting
  | .isolating => .isolating
  | .lowering => .lowering
  | .gap _ => .gap
  | .held _ => .held

def SeqCode.code : SeqCode → Nat
  | .dormant => 0
  | .prepare => 1
  | .raising => 2
  | .connecting => 3
  | .sensing => 4
  | .reselect => 5
  | .closing => 6
  | .running => 7
  | .opening => 8
  | .coasting => 9
  | .isolating => 10
  | .lowering => 11
  | .gap => 12
  | .held => 13

def seqOfCode : Nat → Option SeqCode
  | 0 => some .dormant
  | 1 => some .prepare
  | 2 => some .raising
  | 3 => some .connecting
  | 4 => some .sensing
  | 5 => some .reselect
  | 6 => some .closing
  | 7 => some .running
  | 8 => some .opening
  | 9 => some .coasting
  | 10 => some .isolating
  | 11 => some .lowering
  | 12 => some .gap
  | 13 => some .held
  | _ => none

def Machine.HeldReason.code : Machine.HeldReason → Nat
  | .roofFault => 1
  | .roofTestInvalid => 2
  | .selectorFault => 3
  | .isolatorFault => 4
  | .breakerFault => 5
  | .lockout => 6
  | .secondMismatch => 7
  | .indeterminate => 8
  | .passageBroken => 9

/-- Chapter 10, "The station mode". -/
def Mode.code : Mode → Nat
  | .start => 0
  | .listen => 1
  | .join => 2
  | .ready => 3
  | .muting => 4
  | .muted => 5
  | .safe => 6

def modeOfCode : Nat → Option Mode
  | 0 => some .start
  | 1 => some .listen
  | 2 => some .join
  | 3 => some .ready
  | 4 => some .muting
  | 5 => some .muted
  | 6 => some .safe
  | _ => none

/-- R69. -/
def DeskClaim.code : DeskClaim → Nat
  | .none => 0
  | .requesting => 1
  | .owning => 2

def deskClaimOfCode : Nat → Option DeskClaim
  | 0 => some .none
  | 1 => some .requesting
  | 2 => some .owning
  | _ => none

def IceMode.code : IceMode → Nat
  | .auto => 0
  | .off => 1
  | .force => 2

def iceModeOfCode : Nat → Option IceMode
  | 0 => some .auto
  | 1 => some .off
  | 2 => some .force
  | _ => none

def Direction.code : Direction → Nat
  | .aLeads => 0
  | .bLeads => 1

def directionOfCode : Nat → Option Direction
  | 0 => some .aLeads
  | 1 => some .bLeads
  | _ => none

/-- R71. -/
def AlertCode.code : AlertCode → Nat
  | .dropped => 1
  | .held => 2
  | .roofFault => 3
  | .switchgearFault => 4
  | .noSupply => 5
  | .duplicate => 6

def alertOfCode : Nat → Option AlertCode
  | 1 => some .dropped
  | 2 => some .held
  | 3 => some .roofFault
  | 4 => some .switchgearFault
  | 5 => some .noSupply
  | 6 => some .duplicate
  | _ => none

/-- R71's slot column: DROPPED names a slot, SWITCHGEAR_FAULT may, the others name none. -/
def Alert.slotFits (x : Alert) : Bool :=
  match x.code with
  | .dropped => x.slot.isSome
  | .switchgearFault => true
  | .held | .roofFault | .noSupply | .duplicate => x.slot.isNone

/-- R72. -/
def NoticeKind.code : NoticeKind → Nat
  | .phaseGap => 1
  | .systemGap => 2
  | .lowerZone => 3

def noticeKindOfCode : Nat → Option NoticeKind
  | 1 => some .phaseGap
  | 2 => some .systemGap
  | 3 => some .lowerZone
  | _ => none

/-- R72. -/
def Verb.code : Verb → Nat
  | .lock => 1
  | .unlock => 2
  | .clearFault => 3
  | .prefer => 4
  | .resume => 5
  | .resetArm => 6
  | .reset => 7
  | .mute => 8
  | .unmute => 9

def verbOfCode : Nat → Option Verb
  | 1 => some .lock
  | 2 => some .unlock
  | 3 => some .clearFault
  | 4 => some .prefer
  | 5 => some .resume
  | 6 => some .resetArm
  | 7 => some .reset
  | 8 => some .mute
  | 9 => some .unmute
  | _ => none

/-- R68. -/
def Frame.kind : Frame → Nat
  | .stateRoof _ => 1
  | .stateCab _ => 2
  | .bid _ => 3
  | .cede _ => 4
  | .alert _ => 5
  | .route _ => 6
  | .cancel _ => 7
  | .order _ _ _ => 8

/-- Chapter 11, "Event codes". -/
def Machine.EventCode.code : Machine.EventCode → Nat
  | .samplesLost => 10
  | .surge => 11
  | .reversePolarity => 12
  | .systemConfirmed => 13
  | .switchgearFault => 20
  | .breakerForcedOpen => 21
  | .breakerTrip => 22
  | .breakerLockout => 23
  | .switchgearCleared => 24
  | .roofTest => 25
  | .raiseFail => 30
  | .lowerFail => 31
  | .slotDropped => 32
  | .slotLock => 33
  | .slotCleared => 34
  | .preferredSlot => 35
  | .txFull => 40
  | .linkDiscard => 41
  | .peerJoined => 50
  | .peerMoved => 51
  | .peerStale => 52
  | .peerRemoved => 53
  | .authorityChange => 54
  | .authorityConflict => 55
  | .authorityLost => 56
  | .frameRefused => 57
  | .odoStale => 58
  | .odoRebased => 59
  | .directionChange => 60
  | .directionRefused => 61
  | .bidOpened => 70
  | .bidCeded => 71
  | .bidWon => 72
  | .retracted => 73
  | .activeProfile => 74
  | .noticeAccepted => 80
  | .noticeLate => 81
  | .noticeRefused => 82
  | .noticeStale => 83
  | .noticeEvicted => 84
  | .noticeCancelled => 85
  | .noticeCurrent => 86
  | .noticeRetired => 87
  | .noticeFlushed => 88
  | .seqState => 90
  | .systemMismatch => 91
  | .powerless => 92
  | .noSupply => 93
  | .resumeRefused => 94
  | .iceLevel => 100
  | .heatShed => 101
  | .scraperCandidate => 102
  | .tempInvalid => 103
  | .configLoaded => 110
  | .configBad => 111
  | .mode => 112
  | .duplicateAddress => 113
  | .orderIgnored => 114
  | .resetArmed => 115
  | .resetDisarmed => 116
  | .reset => 117
  | .overrun => 120

end Sys2Proof
end

