-- ==== Sys2Proof/Machine/Flags.lean ====
section
/-! DEFINITION. Flags, saturating counts and the small arithmetic of words that several blocks share. -/

namespace Sys2Proof

def Pair.get {α : Type} (p : Pair α) : Slot → α
  | .zero => p.zero
  | .one => p.one

def Pair.set {α : Type} (p : Pair α) (i : Slot) (x : α) : Pair α :=
  match i with
  | .zero => { p with zero := x }
  | .one => { p with one := x }

end Sys2Proof

namespace Sys2Proof.Machine

def n8 (x : Nat) : Byte := BitVec.ofNat 8 x
def n16 (x : Nat) : Half := BitVec.ofNat 16 x
def n32 (x : Nat) : Word := BitVec.ofNat 32 x
def i16 (x : Int) : Half := BitVec.ofInt 16 x
def i32 (x : Int) : Word := BitVec.ofInt 32 x

/-- "A flag, set or clear, takes one byte holding 1 or 0" (R177). -/
def flag (b : Bool) : Nat := if b then 1 else 0

/-- A value in the low byte and another in the high byte of a record's data. -/
def bytes2 (low high : Nat) : Nat := low + 256 * high

/-- A value in the low 16 bits and another in the high 16 bits of a record's data. -/
def halves2 (low high : Nat) : Nat := low + 65536 * high

/-- A count that stops at `top` (R2, R7, R13, R73, R147, R173). -/
def bump (top x : Nat) : Nat := min top (x + 1)

/-- R60: the condition flags, POWERLESS 1 and ODO_STALE 2 added together. -/
def conditionFlags (powerless odoStale : Bool) : Nat := flag powerless + 2 * flag odoStale

/-- A value held between two bounds (R51, R89). -/
def clamp (low high x : Nat) : Nat := min high (max low x)

/-- R3 and every timer: the time left after `n` ms more; a timer that has run out stays at 0 until its expiry is taken
(log 2). -/
def Timer.elapse (n : Nat) (t : Timer) : Timer := t.map (· - n)

/-- R177: a timer's milliseconds left, 0 when it is stopped. -/
def Timer.left (t : Timer) : Nat := t.getD 0

end Sys2Proof.Machine
end

