-- ==== Sys2Proof/Machine/Operands.lean ====
section
/-! DEFINITION. Frames and blocks of bytes: the link CRC (R57), the payloads of the eight kinds of frame and their checks
(R60, R68 to R72), the bits of a frame on the line (R56). Fields stand in the order of the rules' tables (log 11). -/

namespace Sys2Proof.Machine

/-! ### Bytes, least significant first (00_scope, "Byte order and layouts") -/

def le16 (x : Half) : List Byte := [x.extractLsb' 0 8, x.extractLsb' 8 8]

def le32 (x : Word) : List Byte := [x.extractLsb' 0 8, x.extractLsb' 8 8, x.extractLsb' 16 8, x.extractLsb' 24 8]

def join16 (b0 b1 : Byte) : Half := b1 ++ b0

def join32 (b0 b1 b2 b3 : Byte) : Word := b3 ++ b2 ++ b1 ++ b0

/-! ### The link CRC (R57)

Polynomial x¹⁶ + x¹² + x⁵ + 1, register preset to all ones, the bits in the order they are sent, the result not inverted. The
register is held with its first-sent bit lowest, so that its two bytes, low byte first, bring a receiver's register to 0
(DEDUCED, log 9). -/

def crcBit (reg : Half) (bit : Bool) : Half :=
  if reg.getLsbD 0 != bit then (reg >>> 1) ^^^ 0x8408 else reg >>> 1

/-- A byte's bits, least significant first (R56). -/
def byteBits (b : Byte) : List Bool :=
  [b.getLsbD 0, b.getLsbD 1, b.getLsbD 2, b.getLsbD 3, b.getLsbD 4, b.getLsbD 5, b.getLsbD 6, b.getLsbD 7]

def crcByte (reg : Half) (b : Byte) : Half := (byteBits b).foldl crcBit reg

def crcFrom (reg : Half) (bytes : List Byte) : Half := bytes.foldl crcByte reg

def crc (bytes : List Byte) : Half := crcFrom 0xFFFF bytes

/-! ### Payloads as bytes -/

def boolOfCode : Nat → Option Bool
  | 0 => some false
  | 1 => some true
  | _ => none

/-- R60, R71: the last alert fields; code 0 with slot 255 when there is none. -/
def alertBytes : Option Alert → List Byte
  | none => [0, 255]
  | some x => [n8 x.code.code, n8 (optSlotCode x.slot)]

/-- R60: the 32 bytes of a STATE_ROOF payload. -/
def roofBytes (p : RoofPayload) : List Byte :=
  [n8 p.mode.code, n8 p.seq.code, n8 (conditionFlags p.powerless p.odoStale), n8 p.confirmed.code,
    n8 p.selector.code, n8 p.breaker.code, n8 p.isolators.zero.code, n8 p.isolators.one.code]
  ++ le16 p.slots.zero.dA ++ le16 p.slots.one.dA
  ++ [n8 p.slots.zero.head.code, n8 p.slots.zero.lift.code, n8 p.slots.zero.duty.code,
    n8 p.slots.one.head.code, n8 p.slots.one.lift.code, n8 p.slots.one.duty.code,
    n8 (flag p.slots.zero.locked), n8 (flag p.slots.zero.latch),
    n8 (flag p.slots.one.locked), n8 (flag p.slots.one.latch),
    p.arcRate, p.iceLevel, p.heatUnits]
  ++ (match p.bid with
      | none => [0, 0, 0, 0, 0]
      | some b => [1, n8 b.kind.code, n8 b.slot.code, b.number, n8 (flag b.committed)])
  ++ alertBytes p.alert

/-- R69: the 14 bytes of a STATE_CAB payload. -/
def cabBytes (p : CabPayload) : List Byte :=
  [n8 p.claim.code, n8 (flag p.permit), n8 p.iceMode.code, n8 p.direction.code]
  ++ le16 p.speed ++ le32 p.odometer ++ le16 p.length
  ++ [n8 (flag p.expected.isSome), n8 (optSupplyCode p.expected)]

/-- R72: the 14 bytes of a ROUTE payload. -/
def noticeBytes (n : Notice) : List Byte :=
  [n.id, n8 n.kind.code] ++ le32 n.start ++ le32 n.stop
  ++ [n8 (flag n.beyond.isSome), n8 (optSupplyCode n.beyond), n8 (flag n.heads.isSome),
    n8 (match n.heads with | none => 0 | some h => h.code)]

def payloadBytes : Frame → List Byte
  | .stateRoof p => roofBytes p
  | .stateCab p => cabBytes p
  | .bid b => [n8 b.kind.code, n8 b.slot.code] ++ le16 b.dfront ++ [b.number]
  | .cede n => [n]
  | .alert x => [n8 x.code.code, n8 (optSlotCode x.slot)]
  | .route n => noticeBytes n
  | .cancel i => [i]
  | .order v m a => [n8 v.code, m] ++ le16 a

/-! ### Bytes as payloads (R68: coded fields hold one of their codes, numbered fields lie in their ranges) -/

/-- An alert's two bytes, which R71 must allow. -/
def alertOfBytes (c s : Byte) : Option Alert :=
  match alertOfCode c.toNat with
  | none => none
  | some code =>
    if s = 255 then some ⟨code, none⟩
    else (slotOfCode s.toNat).map fun i => ⟨code, some i⟩

def roofSlotOfBytes (d0 d1 h l u k f : Byte) : Option RoofSlot :=
  match headOfCode h.toNat, liftOfCode l.toNat, dutyOfCode u.toNat, boolOfCode k.toNat, boolOfCode f.toNat with
  | some head, some lift, some duty, some locked, some latch =>
    some { dA := join16 d0 d1, head := head, lift := lift, duty := duty, locked := locked, latch := latch }
  | _, _, _, _, _ => none

/-- R60, R69: "An absent bid must have all its bid fields 0." The outer option is the check, the inner one the presence. -/
def openBidOfBytes (present kind slot number phase : Byte) : Option (Option OpenBid) :=
  if present = 0 then
    if kind = 0 ∧ slot = 0 ∧ number = 0 ∧ phase = 0 then some none else none
  else if present = 1 then
    match bidKindOfCode kind.toNat, slotOfCode slot.toNat, boolOfCode phase.toNat with
    | some k, some i, some c => some (some { kind := k, slot := i, number := number, committed := c })
    | _, _, _ => none
  else none

/-- R71: code 0 with slot 255 is allowed in the last alert fields of a STATE_ROOF. -/
def lastAlertOfBytes (c s : Byte) : Option (Option Alert) :=
  if c = 0 then (if s = 255 then some none else none) else (alertOfBytes c s).map some

/-- A system code with its presence byte: 1 to 4 when present, 0 when absent (R69, R72). -/
def supplyOfBytes (present code : Byte) : Option (Option Supply) :=
  if present = 0 then (if code = 0 then some none else none)
  else if present = 1 then (supplyOfCode code.toNat).map some
  else none

def headSetOfBytes (present code : Byte) : Option (Option HeadSet) :=
  if present = 0 then (if code = 0 then some none else none)
  else if present = 1 then (headSetOfCode code.toNat).map some
  else none

def roofOfBytes : List Byte → Option RoofPayload
  | [md, sq, fl, cf, sl, br, i0, i1, a0, a1, c0, c1, h0, l0, u0, h1, l1, u1, k0, f0, k1, f1, arc, lev, heat,
      bp, bk, bs, bn, bf, ac, as] => do
    let mode ← modeOfCode md.toNat
    let seq ← seqOfCode sq.toNat
    let confirmed ← confirmedOfCode cf.toNat
    let selector ← selectorOfCode sl.toNat
    let breaker ← breakerOfCode br.toNat
    let iso0 ← isolatorOfCode i0.toNat
    let iso1 ← isolatorOfCode i1.toNat
    let s0 ← roofSlotOfBytes a0 a1 h0 l0 u0 k0 f0
    let s1 ← roofSlotOfBytes c0 c1 h1 l1 u1 k1 f1
    let b ← openBidOfBytes bp bk bs bn bf
    let x ← lastAlertOfBytes ac as
    if fl.toNat < 4 then
      pure
        { mode := mode, seq := seq, powerless := fl.getLsbD 0, odoStale := fl.getLsbD 1, confirmed := confirmed
          selector := selector, breaker := breaker, isolators := ⟨iso0, iso1⟩, slots := ⟨s0, s1⟩, arcRate := arc
          iceLevel := lev, heatUnits := heat, bid := b, alert := x }
    else none
  | _ => none

def cabOfBytes : List Byte → Option CabPayload
  | [cl, pe, im, di, s0, s1, o0, o1, o2, o3, n0, n1, xp, xc] => do
    let claim ← deskClaimOfCode cl.toNat
    let permit ← boolOfCode pe.toNat
    let ice ← iceModeOfCode im.toNat
    let dir ← directionOfCode di.toNat
    let expected ← supplyOfBytes xp xc
    pure
      { claim := claim, permit := permit, iceMode := ice, direction := dir, speed := join16 s0 s1
        odometer := join32 o0 o1 o2 o3, length := join16 n0 n1, expected := expected }
  | _ => none

def noticeOfBytes : List Byte → Option Notice
  | [id, kd, s0, s1, s2, s3, e0, e1, e2, e3, bp, bc, hp, hc] => do
    let kind ← noticeKindOfCode kd.toNat
    let beyond ← supplyOfBytes bp bc
    let heads ← headSetOfBytes hp hc
    pure
      { id := id, kind := kind, start := join32 s0 s1 s2 s3, stop := join32 e0 e1 e2 e3, beyond := beyond
        heads := heads }
  | _ => none

/-- R60, R69 to R72: the ranges of a frame's numbered fields, and R71's slot column. -/
def frameValid : Frame → Bool
  | .stateRoof p =>
    decide (p.slots.zero.dA.toNat ≤ 8000) && decide (p.slots.one.dA.toNat ≤ 8000) && decide (p.iceLevel.toNat ≤ 3)
      && decide (p.heatUnits.toNat ≤ 3)
      && (match p.alert with | none => true | some x => x.slotFits)
  | .stateCab _ => true
  | .bid b => decide (b.dfront.toNat ≤ 8000)
  | .cede _ => true
  | .alert x => x.slotFits
  | .route n => n.id != 0
  | .cancel i => i != 0
  | .order _ _ _ => true

/-- R68: the frame of a kind and a payload, or none where the kind, the length or a field will not do. -/
def decodeFrame (kind : Nat) (payload : List Byte) : Option Frame :=
  let f : Option Frame :=
    match kind, payload with
    | 1, bs => (roofOfBytes bs).map .stateRoof
    | 2, bs => (cabOfBytes bs).map .stateCab
    | 3, [k, i, d0, d1, n] =>
      match bidKindOfCode k.toNat, slotOfCode i.toNat with
      | some kd, some s => some (.bid { kind := kd, slot := s, dfront := join16 d0 d1, number := n })
      | _, _ => none
    | 4, [n] => some (.cede n)
    | 5, [c, s] => (alertOfBytes c s).map .alert
    | 6, bs => (noticeOfBytes bs).map .route
    | 7, [i] => some (.cancel i)
    | 8, [v, m, a0, a1] => (verbOfCode v.toNat).map fun w => .order w m (join16 a0 a1)
    | _, _ => none
  f.filter frameValid

/-! ### A frame on the line (R56, R57) -/

/-- R57: header, payload and CRC of a frame this station sends: destination 0, its own address as source. -/
def wireBytes (station : Nat) (f : Frame) : List Byte :=
  let body := [0, n8 station, n8 f.kind, n8 (payloadBytes f).length] ++ payloadBytes f
  body ++ le16 (crc body)

/-- R56: 1 and 0 alternately, beginning with 1. -/
def preambleBits : List Bool :=
  [true, false, true, false, true, false, true, false, true, false, true, false, true, false, true, false]

/-- R56: 1, 1, 0, 0, 1, 1, 0, 1. -/
def delimiterBits : List Bool := [true, true, false, false, true, true, false, true]

/-- The bits of a frame in the order they are sent. -/
def wireBits (station : Nat) (f : Frame) : List Bool :=
  preambleBits ++ delimiterBits ++ (wireBytes station f).flatMap byteBits

end Sys2Proof.Machine
end

