-- ==== Sys2Proof/Machine/Ops.lean ====
section
/-! DEFINITION. The operations all blocks share: records and the event ring (R172 to R174), reports and answers between blocks
(R19; log 1), the passing of time (log 2), and what blocks read of the peer view (R85 to R90). -/

namespace Sys2Proof.Machine

/-! ### Writing records -/

/-- R172: a record as its block writes it, stamped with the mode and the sequencer state at the writing. Time and sequence
number are given when the event's records join the ring (`Ring.write`). -/
def Act.log (c : EventCode) (subject : Nat) (data0 : Half) (data1 : Word) (a : Act) : Act :=
  { a with
    logs := a.logs ++
      [{ code := c, subject := n8 subject, data0 := data0, data1 := data1, mode := n8 a.startup.mode.code
         seqState := n8 a.seq.state.toCode.code }] }

/-- R172, R173: a record joins the ring, or is dropped and counted when 128 are held. -/
def Ring.write (now : Nat) (r : Ring) (e : LogEntry) : Ring :=
  if r.records.length < 128 then
    { r with
      records := r.records ++ [{ seq := r.sequence, time := n32 now, entry := e }]
      sequence := r.sequence + 1 }
  else
    { r with
      dropped := bump 4294967295 r.dropped
      firstDropped := if r.dropped = 0 then n8 e.code.code else r.firstDropped }

/-- R174: the busy flag is set when records are held, the counter is 0 and it is clear. -/
def Ring.attend (r : Ring) : Ring :=
  if r.records ≠ [] ∧ r.moderation = 0 then { r with busy := true } else r

/-- The records of one event join the ring in the order they were written, all with the event's time (R172). -/
def Ring.writeAll (now : Nat) (es : List LogEntry) (r : Ring) : Ring :=
  es.foldl (fun r e => (r.write now e).attend) r

/-! ### Reports and answers -/

/-- A report on its way; one that is already on its way is not sent twice, so that several changes at one event are reported
together (R46, R78). -/
def Act.push (r : Report) (a : Act) : Act :=
  if r ∈ a.inbox.reports then a else { a with inbox := { a.inbox with reports := a.inbox.reports ++ [r] } }

def Act.evalDue (a : Act) : Act := { a with inbox := { a.inbox with evalDue := true } }

def Act.iceDue (a : Act) : Act := { a with inbox := { a.inbox with iceDue := true } }

/-- R19, R41, R43: an answer to everyone who waits. -/
def Act.answerAll (who : List Requester) (q : Request) (ans : Answer) (a : Act) : Act :=
  who.foldl (fun a w => a.push (.answered w q ans)) a

/-! ### Accessors of the two slots' records -/

def Act.setSlot (i : Slot) (r : SlotRec) (a : Act) : Act := { a with slots := a.slots.set i r }

def Act.setIsolator (i : Slot) (r : Isolator) (a : Act) : Act := { a with isolators := a.isolators.set i r }

/-! ### Time (log 2) -/

def Classifier.elapse (n : Nat) (c : Classifier) : Classifier :=
  { c with
    lossTimer := Timer.elapse n c.lossTimer
    silenceTimer := Timer.elapse n c.silenceTimer
    surgeMask := Timer.elapse n c.surgeMask }

def Peer.elapse (n : Nat) (p : Peer) : Peer :=
  { p with
    ageTimer := Timer.elapse n p.ageTimer
    removalTimer := Timer.elapse n p.removalTimer
    bidTimer := Timer.elapse n p.bidTimer }

def PeerView.elapse (n : Nat) (v : PeerView) : PeerView :=
  { v with table := v.table.map (Peer.elapse n), holdTimer := Timer.elapse n v.holdTimer }

def Env.elapse (n : Nat) (e : Env) : Env :=
  { e with now := e.now + n, cls := e.cls.elapse n, pv := e.pv.elapse n }

def Isolator.elapse (n : Nat) (i : Isolator) : Isolator := { i with timer := Timer.elapse n i.timer }

def SlotRec.elapse (n : Nat) (r : SlotRec) : SlotRec :=
  { r with riseTimer := Timer.elapse n r.riseTimer, lowerTimer := Timer.elapse n r.lowerTimer }

def Sequencer.elapse (n : Nat) (q : Sequencer) : Sequencer :=
  { q with
    retryTimer := Timer.elapse n q.retryTimer
    testRetryTimer := Timer.elapse n q.testRetryTimer
    powerlessTimer := Timer.elapse n q.powerlessTimer
    noSupplyTimer := Timer.elapse n q.noSupplyTimer
    recloseHold := Timer.elapse n q.recloseHold
    reviewTimer := Timer.elapse n q.reviewTimer }

def Act.elapse (n : Nat) (a : Act) : Act :=
  { a with
    selector := { a.selector with timer := Timer.elapse n a.selector.timer }
    isolators := ⟨a.isolators.zero.elapse n, a.isolators.one.elapse n⟩
    breaker := { a.breaker with timer := Timer.elapse n a.breaker.timer }
    slots := ⟨a.slots.zero.elapse n, a.slots.one.elapse n⟩
    link := { a.link with stateTimer := Timer.elapse n a.link.stateTimer }
    bids :=
      { a.bids with
        windowTimer := Timer.elapse n a.bids.windowTimer
        spacingTimer := Timer.elapse n a.bids.spacingTimer }
    notices := { a.notices with reviewTimer := Timer.elapse n a.notices.reviewTimer }
    seq := a.seq.elapse n
    ice :=
      { a.ice with
        intervalTimer := Timer.elapse n a.ice.intervalTimer
        reviewTimer := Timer.elapse n a.ice.reviewTimer }
    startup :=
      { a.startup with
        listenTimer := Timer.elapse n a.startup.listenTimer
        joinTimer := Timer.elapse n a.startup.joinTimer
        armingTimer := Timer.elapse n a.startup.armingTimer } }

/-- R174: the moderation counter counts down by one each millisecond and stops at 0; when it reaches 0 the attention line
is asserted if records are held. -/
def Ring.elapse (n : Nat) (r : Ring) : Ring := Ring.attend { r with moderation := r.moderation - n }

/-- `n` milliseconds pass: the time base runs on and every running timer and the moderation counter run down. -/
def State.elapse (n : Nat) (s : State) : State :=
  { s with
    env := s.env.elapse n
    act := s.act.elapse n
    ring := s.ring.elapse n
    port := { s.port with gapTimer := Timer.elapse n s.port.gapTimer } }

/-- The expiry of a timer: nothing where it is not running ("the expiry finds no timer running"); otherwise what it still had
passes, and `k` says what its running out does (log 2). -/
def State.onExpiry (t : Timer) (k : State → State) (s : State) : State :=
  match t with
  | none => s
  | some left => k (s.elapse left)

/-! ### Train geometry (R87, R89, R90) -/

/-- R87: milliseconds since the base time, capped at 1,000. -/
def Geometry.age (now : Nat) (g : Geometry) : Nat := min 1000 (now - g.baseTime)

/-- R87: the extrapolated front odometer. Where base and extrapolation pass the 32 bits of an odometer the manual states no
value, and a free value stands (log 6). -/
def Geometry.front (now : Nat) (g : Geometry) : Nat :=
  let ext := g.speed * g.age now / 3600
  if g.baseOdometer + ext < 4294967296 then g.baseOdometer + ext
  else (Config.odometerBeyond g.baseOdometer ext).toNat

/-- R89: the Dfront of a slot whose distance from end A is `dA`, clamped to 0 to L. -/
def Geometry.dfront (g : Geometry) (dA : Nat) : Nat :=
  match g.direction with
  | .aLeads => min dA g.length
  | .bLeads => g.length - min dA g.length

/-- R90: the lead. -/
def Geometry.lead (g : Geometry) : Nat := max 500 (g.speed * 3000 / 3600)

def Env.front (e : Env) : Nat := e.pv.geometry.front e.now

def Env.dfront (e : Env) (dA : Nat) : Nat := e.pv.geometry.dfront dA

/-- R89: the track position of a slot; 0 when its Dfront exceeds the front odometer. -/
def Env.track (e : Env) (dA : Nat) : Nat := e.front - e.dfront dA

def Env.lead (e : Env) : Nat := e.pv.geometry.lead

/-- A point is reached by a position at or beyond the notice's start less the lead, or less twice the lead while ODO_STALE is
set; a start less than that counts as reached (R134, R160). -/
def Env.pointReached (e : Env) (start position : Nat) : Bool :=
  decide (start - e.lead ≤ position)
    || (e.pv.geometry.odoStale && decide (start - 2 * e.lead ≤ position))

/-! ### The controls of the authority cab (R85) -/

def PeerView.entry (v : PeerView) (address : Nat) : Option Peer := v.table.find? fun p => p.address = address

/-- The authority's last STATE_CAB, while the hold is PRESENT. -/
def PeerView.controls (v : PeerView) : Option CabPayload :=
  match v.hold, v.authority with
  | .present, some c =>
    match v.entry c with
    | some p => match p.last with
      | .cab x => some x
      | .roof _ => none
    | none => none
  | _, _ => none

def PeerView.permit (v : PeerView) : Bool :=
  match v.controls with
  | some x => x.permit
  | none => false

def PeerView.iceMode (v : PeerView) : IceMode :=
  match v.controls with
  | some x => x.iceMode
  | none => .auto

def PeerView.expected (v : PeerView) : Option Supply :=
  match v.controls with
  | some x => x.expected
  | none => none

/-! ### Profiles (R94) -/

def Loaded.profile (c : Loaded) : Supply → Profile
  | .ac25 => c.ac25
  | .ac15 => c.ac15
  | .dc3 => c.dc3
  | .dc15 => c.dc15

/-- The profile held for a system; none while no configuration is loaded. -/
def Env.profile (e : Env) : Option Supply → Option Profile
  | none => none
  | some y => e.cfg.map fun c => c.profile y

/-- Whether a head may run under a profile; while there is no profile the manual does not say (log 7). -/
def profilePermits (p : Option Profile) (h : HeadType) : Bool :=
  match p with
  | some q => q.heads.permits h
  | none => Config.headWithoutProfile (h == .headB)

/-- R95: the active profile's values. -/
def Act.active (e : Env) (a : Act) : Option Profile := e.profile a.bids.profile

/-- The station's own address, 0 while it has none. -/
def Act.station (a : Act) : Nat := a.link.address.getD 0

/-- R89 for the station's own slot. -/
def Act.dfront (e : Env) (a : Act) (i : Slot) : Nat := e.dfront (a.slots.get i).dA

def Act.track (e : Env) (a : Act) (i : Slot) : Nat := e.track (a.slots.get i).dA

end Sys2Proof.Machine
end

