-- ==== Sys2Proof/Machine/Link.lean ====
section
/-! DEFINITION. The Consist Link Controller's transmit lane (R58 to R65, R71): the queue, offers, withdrawals, the gate, and
what the head entry goes through. Its commands stand in LinkCommands.lean and Receive.lean. -/

namespace Sys2Proof.Machine

/-! ### The queue (R59) -/

def Link.length (k : Link) : Nat := (if k.head.isSome then 1 else 0) + k.waiting.length

def Link.setHead (h : Option TxHead) (k : Link) : Link := { k with head := h }

def TxEntry.isStateRoof (x : TxEntry) : Bool :=
  match x.frame with
  | .stateRoof _ => true
  | _ => false

/-- R62: an entry that becomes the head is DEFERRING and has made no attempt. -/
def TxEntry.asHead (x : TxEntry) : TxHead := { entry := x, access := .deferring, attempts := 0 }

/-- The entry behind the head becomes the head. -/
def Link.advance (k : Link) : Link :=
  match k.waiting with
  | [] => { k with head := none }
  | x :: rest => { k with head := some x.asHead, waiting := rest }

/-- R59: an entry joins at the tail. -/
def Link.enqueue (x : TxEntry) (k : Link) : Link :=
  match k.head with
  | none => { k with head := some x.asHead }
  | some _ => { k with waiting := k.waiting ++ [x] }

/-- R58: on the wire, from the first preamble bit of an attempt to its last CRC bit or the end of its jam. -/
def Access.onTheWire : Access → Bool
  | .onWire => true
  | .jamming _ => true
  | .deferring => false
  | .backoff _ => false

def Link.headOnTheWire (k : Link) : Bool :=
  match k.head with
  | some h => h.access.onTheWire
  | none => false

/-- R66: while the own entry is ON_WIRE the receive lane serves only as readback. -/
def Link.readback (k : Link) : Bool :=
  match k.head with
  | some h => h.access = .onWire
  | none => false

/-- The requesters of an entry are told the answer: the Bid Unit of its BID (R99), the Start-up Controller of the entry that
carries the final STATE_ROOF (R167). -/
def Act.answerTx (x : TxEntry) (ans : TxAnswer) (a : Act) : Act :=
  x.requesters.foldl
    (fun a r =>
      match r with
      | .bid n => a.push (.txAnswered n ans)
      | .final => a.push .finalLeft
      | .other => a)
    a

/-! ### Offers (R59, R60) -/

/-- R59: an offer at the tail; `true` where it is taken. While the gate is CLOSED it is refused and nothing is logged. -/
def Act.offerTail (f : Frame) (r : TxRequester) (a : Act) : Bool × Act :=
  if !a.link.gateOpen then (false, a)
  else if a.link.length < 8 then (true, { a with link := a.link.enqueue { frame := f, requesters := [r] } })
  else (false, a.log .txFull 255 (n16 f.kind) (n32 a.link.length))

/-- The first STATE_ROOF waiting behind the head takes the new frame; both offers' requesters are kept. -/
def replaceStateRoof (f : Frame) (r : TxRequester) : List TxEntry → Option (List TxEntry)
  | [] => none
  | x :: rest =>
    if x.isStateRoof then some ({ frame := f, requesters := x.requesters ++ [r] } :: rest)
    else (replaceStateRoof f r rest).map (x :: ·)

/-- R60: where the queue holds a STATE_ROOF that is not the head on the wire or in backoff, the new frame replaces that
entry's frame in place. Where the DEFERRING head and an entry behind it both are such, the head's is replaced, and of
several behind it the first (log 32). -/
def Link.replaceInPlace (f : Frame) (r : TxRequester) (k : Link) : Option Link :=
  match k.head with
  | some h =>
    if h.entry.isStateRoof && decide (h.access = .deferring) then
      some { k with head := some { h with entry := { frame := f, requesters := h.entry.requesters ++ [r] } } }
    else (replaceStateRoof f r k.waiting).map fun w => { k with waiting := w }
  | none => none

/-- R60's payload, composed at the event of the offer. -/
def Act.composeStateRoof (e : Env) (a : Act) : RoofPayload :=
  let slot (i : Slot) : RoofSlot :=
    let r := a.slots.get i
    { dA := n16 r.dA, head := r.head, lift := r.lift.toCode, duty := r.duty, locked := r.locked, latch := r.latch }
  { mode := a.startup.mode
    seq := a.seq.state.toCode
    powerless := a.seq.powerless
    odoStale := e.pv.geometry.odoStale
    confirmed := e.cls.confirmed
    selector := a.selector.state.toCode
    breaker := a.breaker.state
    isolators := ⟨a.isolators.zero.state.toCode, a.isolators.one.state.toCode⟩
    slots := ⟨slot .zero, slot .one⟩
    arcRate := n8 a.ice.ownRate
    iceLevel := n8 a.ice.level
    heatUnits := n8 a.ice.heaters.length
    bid :=
      a.bids.bid.map fun b =>
        { kind := b.kind, slot := b.slot, number := n8 b.number, committed := decide (b.phase = .committed) }
    alert := a.link.lastAlert }

/-- R60: a STATE_ROOF is offered. -/
def Act.offerStateRoof (r : TxRequester) (e : Env) (a : Act) : Bool × Act :=
  let f := Frame.stateRoof (a.composeStateRoof e)
  if !a.link.gateOpen then (false, a)
  else match a.link.replaceInPlace f r with
    | some k => (true, { a with link := k })
    | none => a.offerTail f r

/-- R71: an ALERT is offered; one that is taken sets the last alert record. -/
def Act.alert (c : AlertCode) (i : Option Slot) (a : Act) : Act :=
  let x : Alert := { code := c, slot := i }
  match a.offerTail (.alert x) .other with
  | (true, a) => { a with link := { a.link with lastAlert := some x } }
  | (false, a) => a

/-! ### Withdrawal (R61) -/

def TxEntry.isBid (n : Nat) (x : TxEntry) : Bool := x.requesters.any fun r => decide (r = .bid n)

/-- R61: the entry of the station's BID of that number is withdrawn; `none` where it is on the wire and the withdrawal is
refused. -/
def Link.withdrawBid (n : Nat) (k : Link) : Option Link :=
  match k.head with
  | none => some k
  | some h =>
    if h.entry.isBid n then (if h.access.onTheWire then none else some k.advance)
    else some { k with waiting := k.waiting.filter fun x => !x.isBid n }

/-! ### The gate (R58) -/

/-- R58: opening the gate seeds the random generator, offers a STATE_ROOF and starts the STATE timer. The gate can be OPEN only
while the station address is set. -/
def Act.openGate (e : Env) (a : Act) : Act :=
  match a.link.address with
  | none => a
  | some n =>
    let a := { a with link := { a.link with gateOpen := true, seed := some (n, e.now), stateTimer := some 50 } }
    (a.offerStateRoof .other e).2

/-- R58: closing the gate stops the STATE timer, and every entry not on the wire is removed and answered CLOSED. -/
def Act.closeGate (a : Act) : Act :=
  let k := a.link
  let kept := if k.headOnTheWire then k.head else none
  let gone := (if k.headOnTheWire then [] else (k.head.map (·.entry)).toList) ++ k.waiting
  let a := { a with link := { k with gateOpen := false, stateTimer := none, head := kept, waiting := [] } }
  gone.foldl (fun a x => a.answerTx x .closed) a

/-! ### The head entry (R62 to R65) -/

/-- R62: the idle gap has passed and the DEFERRING head starts an attempt. -/
def Act.attemptStart (a : Act) : Act :=
  match a.link.head with
  | some h =>
    if h.access = .deferring then
      { a with link := a.link.setHead (some { h with access := .onWire, attempts := h.attempts + 1 }) }
    else a
  | none => a

/-- R63: the bit at place `bit` of the frame, counted from its first preamble bit, reads 0. Only a bit sent as 1 can show a
mismatch; 24 bits of preamble and delimiter come before the first counted bit, and a mismatch at counted bit 32 or later
is late. -/
def Act.collide (bit : Nat) (a : Act) : Act :=
  match a.link.head with
  | some h =>
    if h.access = .onWire ∧ (wireBits a.station h.entry.frame)[bit]? = some true then
      { a with link := a.link.setHead (some { h with access := .jamming (decide (56 ≤ bit)) }) }
    else a
  | none => a

/-- R64: the slot times drawn after the n-th collision: 0 to 2^min(n, 8) − 1. -/
def backoffSlots (n draw : Nat) : Nat := draw % 2 ^ min n 8

/-- R58, R63, R64: the jam ends; the collision is counted, and the entry is removed behind a closed gate, discarded after its
twelfth attempt, or enters BACKOFF with the slot times drawn (DEFERRING at once for a draw of 0). -/
def Act.jamEnd (draw : Nat) (a : Act) : Act :=
  match a.link.head with
  | some h =>
    match h.access with
    | .jamming late =>
      let k := a.link
      let k :=
        { k with
          collisions := bump 65535 k.collisions
          lateCollisions := if late then bump 65535 k.lateCollisions else k.lateCollisions }
      if !k.gateOpen then ({ a with link := k.advance }).answerTx h.entry .closed
      else if 12 ≤ h.attempts then
        let a := { a with link := { k.advance with discards := bump 65535 k.discards } }
        let a :=
          if h.entry.isStateRoof then a else a.log .linkDiscard 255 (n16 h.entry.frame.kind) 0
        a.answerTx h.entry .discarded
      else
        let r := backoffSlots h.attempts draw
        let acc : Access := if r = 0 then .deferring else .backoff r
        { a with link := k.setHead (some { h with access := acc }) }
    | _ => a
  | none => a

/-- R64: the backoff wait ends. -/
def Act.backoffEnd (a : Act) : Act :=
  match a.link.head with
  | some h =>
    match h.access with
    | .backoff _ => { a with link := a.link.setHead (some { h with access := .deferring }) }
    | _ => a
  | none => a

/-- R65: the last CRC bit is sent without a mismatch. -/
def Act.frameSent (a : Act) : Act :=
  match a.link.head with
  | some h =>
    if h.access = .onWire then
      let k := a.link
      ({ a with link := { k.advance with framesSent := bump 65535 k.framesSent } }).answerTx h.entry .sent
    else a
  | none => a

/-- R60: the STATE timer restarts at 50 ms and a STATE_ROOF is offered. -/
def Act.stateTimerExpired (e : Env) (a : Act) : Act :=
  let a := { a with link := { a.link with stateTimer := some 50 } }
  (a.offerStateRoof .other e).2

end Sys2Proof.Machine
end

