-- ==== Sys2Proof/Machine/Switchgear.lean ====
section
/-! DEFINITION. The Switchgear Interlock and the Roof Test Unit (R19 to R38): requests, what the devices' contacts and timers
do, faults, trips, and the clearing of faults. A contact's level stands in `Env.pins`; each function acts on the change. -/

namespace Sys2Proof.Machine

/-! ### States read by the interlocks -/

/-- R19: "the breaker is open" means OPEN or LOCKOUT. -/
def BreakerState.isOpen : BreakerState → Bool
  | .opened | .lockout => true
  | .closing | .closed | .opening => false

def Act.breakerOpen (a : Act) : Bool := BreakerState.isOpen a.breaker.state

/-- Closing or closed: the states in which R31 opens the breaker. -/
def BreakerState.isLive : BreakerState → Bool
  | .closing | .closed => true
  | .opened | .opening | .lockout => false

def Act.bothIsolatorsOpen (a : Act) : Bool :=
  decide (a.isolators.zero.state = .opened) && decide (a.isolators.one.state = .opened)

/-- The system position the selector rests at. -/
def SelectorState.position : SelectorState → Option Supply
  | .rest (.system y) => some y
  | .rest .park => none
  | .moving _ => none
  | .unknown => none
  | .fault => none

def Switches.get (w : Switches) : Position → Bool
  | .park => w.park
  | .system .ac25 => w.ac25
  | .system .ac15 => w.ac15
  | .system .dc3 => w.dc3
  | .system .dc15 => w.dc15

def Switches.set (w : Switches) (p : Position) (b : Bool) : Switches :=
  match p with
  | .park => { w with park := b }
  | .system .ac25 => { w with ac25 := b }
  | .system .ac15 => { w with ac15 := b }
  | .system .dc3 => { w with dc3 := b }
  | .system .dc15 => { w with dc15 := b }

def positions : List Position := [.park, .system .ac25, .system .ac15, .system .dc3, .system .dc15]

/-- The positions whose end switches show closed. -/
def Switches.closedAt (w : Switches) : List Position := positions.filter (Switches.get w)

/-! ### Records of the switchgear (02, "Codes") -/

/-- SWITCHGEAR_FAULT is logged and sent as an alert (R22, R23, R27, R29, R30). `device`: 0 selector, 1 isolator, 2 breaker. -/
def Act.switchgearFault (i : Option Slot) (device : Nat) (k : FaultKind) (before : Nat) (a : Act) : Act :=
  (a.log .switchgearFault (optSlotCode i) (n16 (bytes2 device k.code)) (n32 before)).alert .switchgearFault i

/-! ### Opening (R26, R30, R31) -/

/-- R26: an isolator whose contact shows OPEN with the coil driven is OPEN; the timer stops and requesters are answered. -/
def Act.isolatorIsOpen (i : Slot) (a : Act) : Act :=
  let r := a.isolators.get i
  (a.setIsolator i { r with state := .opened, timer := none, openWaiters := [] }).answerAll r.openWaiters
    (.openIsolator i) .done

/-- R26: the open coil is driven and the timer started at 300 ms; a contact that already shows OPEN completes the opening at
once. -/
def Act.driveOpen (e : Env) (i : Slot) (a : Act) : Act :=
  let a := a.setIsolator i { a.isolators.get i with state := .opening true, timer := some 300 }
  if e.pins.isolators.get i = .opened then a.isolatorIsOpen i else a

/-- R26, R27: what an isolator does at the event the breaker reaches OPEN: an awaiting one has its coil driven, and a request
waiting on one in FAULT is answered DONE. -/
def Act.isolatorBreakerOpened (e : Env) (i : Slot) (a : Act) : Act :=
  let r := a.isolators.get i
  match r.state with
  | .opening false => a.driveOpen e i
  | .fault => (a.setIsolator i { r with openWaiters := [] }).answerAll r.openWaiters (.openIsolator i) .done
  | _ => a

/-- R30: the breaker becomes OPEN; waiting requesters are answered, the isolators that await it among them. -/
def Act.breakerReachesOpen (e : Env) (a : Act) : Act :=
  let w := a.breaker.openWaiters
  let a := { a with breaker := { a.breaker with state := .opened, timer := none, openWaiters := [] } }
  let a := (a.answerAll w .openBreaker .done).push .breakerOpened
  (a.isolatorBreakerOpened e .zero).isolatorBreakerOpened e .one

/-- R30: an open request to the breaker; `who` waits for the answer where it names a requester. -/
def Act.openBreaker (e : Env) (who : List Requester) (a : Act) : Act :=
  let b := a.breaker
  match b.state with
  | .opened | .lockout => a.answerAll who .openBreaker .done
  | .opening => { a with breaker := { b with openWaiters := b.openWaiters ++ who } }
  | .closing | .closed =>
    let a :=
      { a with
        breaker :=
          { b with state := .opening, timer := some 100, closeWaiters := [], openWaiters := b.openWaiters ++ who } }
    let a := a.answerAll b.closeWaiters .closeBreaker .failed
    if e.pins.breakerClosed then a else a.breakerReachesOpen e

/-- R31: the Switchgear Interlock opens a breaker that is CLOSING or CLOSED on its own account, for a reason of the table, and
notifies the Roof Sequencer with the reason. -/
def Act.forceOpen (e : Env) (reason : Nat) (a : Act) : Act :=
  if BreakerState.isLive a.breaker.state then
    ((a.log .breakerForcedOpen 255 (n16 reason) (n32 e.cls.confirmed.code)).push (.breakerForced reason)).openBreaker
      e []
  else a

/-- R26: an open request for an isolator. -/
def Act.openIsolator (e : Env) (i : Slot) (who : List Requester) (a : Act) : Act :=
  let r := a.isolators.get i
  match r.state with
  | .opened => a.answerAll who (.openIsolator i) .done
  | .closing =>
    let a := a.setIsolator i { r with closeWaiters := [], openWaiters := r.openWaiters ++ who }
    (a.answerAll r.closeWaiters (.closeIsolator i) .failed).driveOpen e i
  | .closed =>
    let a := a.setIsolator i { r with state := .opening false, timer := none, openWaiters := r.openWaiters ++ who }
    if a.breakerOpen then a.driveOpen e i else a.forceOpen e 4
  | .opening _ => a.setIsolator i { r with openWaiters := r.openWaiters ++ who }
  | .fault =>
    if a.breakerOpen then a.answerAll who (.openIsolator i) .done
    else a.setIsolator i { r with openWaiters := r.openWaiters ++ who }

/-! ### Faults of selector and isolators (R22, R23, R27) -/

/-- R22, R23: the selector enters FAULT; its waiting requesters are answered FAILED, and a breaker CLOSING or CLOSED is opened
(R31, reason 2). -/
def Act.selectorFaults (e : Env) (k : FaultKind) (a : Act) : Act :=
  let s := a.selector
  let a := { a with selector := { state := .fault, timer := none, waiters := [] } }
  let a := (a.switchgearFault none 0 k s.state.toCode.code).push .selectorFault
  let a :=
    match s.state with
    | .moving y => a.answerAll s.waiters (.moveSelector y) .failed
    | _ => a
  a.forceOpen e 2

/-- R23: a MOVING selector faults when a device contact leaves OPEN without a command. -/
def Act.selectorDisturbed (e : Env) (a : Act) : Act :=
  match a.selector.state with
  | .moving _ => a.selectorFaults e .contactConflict
  | _ => a

/-- R27: an isolator enters FAULT. The report goes before the selector's, so that R124's HELD reason is the isolator's. -/
def Act.isolatorFaults (e : Env) (i : Slot) (k : FaultKind) (a : Act) : Act :=
  let r := a.isolators.get i
  let a := a.setIsolator i { r with state := .fault, timer := none, closeWaiters := [] }
  let a := (a.switchgearFault (some i) 1 k r.state.toCode.code).push .isolatorFault
  let a := a.answerAll r.closeWaiters (.closeIsolator i) .failed
  let a := if a.breakerOpen then a.isolatorBreakerOpened e i else a.forceOpen e 3
  a.selectorDisturbed e

/-! ### The selector (R21 to R23) -/

/-- R22: the selector comes to rest at its target; the requesters waiting on the travel are answered DONE. -/
def Act.travelEnds (y : Supply) (a : Act) : Act :=
  let w := a.selector.waiters
  ({ a with selector := { state := .rest (.system y), timer := none, waiters := [] } }).answerAll w
    (.moveSelector y) .done

/-- R21: a move request for a system position. -/
def Act.moveSelector (e : Env) (y : Supply) (who : List Requester) (a : Act) : Act :=
  let take (a : Act) : Act :=
    if a.breakerOpen && a.bothIsolatorsOpen then
      let a := { a with selector := { state := .moving y, timer := some 4000, waiters := who } }
      if Switches.get e.pins.selector (.system y) then a.travelEnds y else a
    else a.answerAll who (.moveSelector y) .refused
  match a.selector.state with
  | .rest p => if p = .system y then a.answerAll who (.moveSelector y) .done else take a
  | .unknown => take a
  | .moving t =>
    if t = y then { a with selector := { a.selector with waiters := a.selector.waiters ++ who } }
    else a.answerAll who (.moveSelector y) .refused
  | .fault => a.answerAll who (.moveSelector y) .refused

/-- R22, R23: the end switch of `p` changed to `closed`; `e` has the switches as they stand after it. An UNKNOWN selector
stays UNKNOWN where a switch opens, even where that leaves one closed: R23 has no row for it (log 31). -/
def Act.endSwitch (e : Env) (p : Position) (closed : Bool) (a : Act) : Act :=
  match a.selector.state with
  | .rest q => if p = q then (if closed then a else a.selectorFaults e .contactConflict)
      else (if closed then a.selectorFaults e .contactConflict else a)
  | .moving y => if p = .system y ∧ closed then a.travelEnds y else a
  | .unknown =>
    if closed then
      (if Switches.closedAt e.pins.selector = [p] then
        { a with selector := { a.selector with state := .rest p } }
      else a.selectorFaults e .contactConflict)
    else a
  | .fault => a

/-- R22: the travel timer has expired. -/
def Act.travelTimeout (e : Env) (a : Act) : Act :=
  match a.selector.state with
  | .moving _ => a.selectorFaults e .travelTimeout
  | _ => a

/-! ### The isolators (R24, R25, R27) -/

/-- R24: the conditions of a close request beside the isolator's own state. -/
def Act.mayCloseIsolator (i : Slot) (a : Act) : Bool :=
  let r := a.slots.get i
  a.breakerOpen && a.selector.state.position.isSome && decide (r.lift = .up) && decide (r.duty = .collect)
    && decide ((a.isolators.get i.other).state = .opened) && !a.test.running

/-- R24: a close request for an isolator. -/
def Act.closeIsolator (i : Slot) (who : List Requester) (a : Act) : Act :=
  let r := a.isolators.get i
  match r.state with
  | .opened =>
    if a.mayCloseIsolator i then
      a.setIsolator i { r with state := .closing, timer := some 300, closeWaiters := r.closeWaiters ++ who }
    else a.answerAll who (.closeIsolator i) .refused
  | .closing => a.setIsolator i { r with closeWaiters := r.closeWaiters ++ who }
  | .closed => a.answerAll who (.closeIsolator i) .done
  | .opening _ | .fault => a.answerAll who (.closeIsolator i) .refused

/-- R25 to R27: the auxiliary contact of an isolator came to show `c`. -/
def Act.isolatorContact (e : Env) (i : Slot) (c : Contact) (a : Act) : Act :=
  let r := a.isolators.get i
  match r.state, c with
  | .closing, .closed =>
    (a.setIsolator i { r with state := .closed, timer := none, closeWaiters := [] }).answerAll r.closeWaiters
      (.closeIsolator i) .done
  | .opening true, .opened => a.isolatorIsOpen i
  | .opened, .closed => a.isolatorFaults e i .contactConflict
  | .closed, .opened => a.isolatorFaults e i .contactConflict
  | _, _ => a

/-- R25 to R27: the isolator timer has expired in CLOSING or in the travel phase of OPENING. -/
def Act.isolatorTimeout (e : Env) (i : Slot) (a : Act) : Act :=
  match (a.isolators.get i).state with
  | .closing | .opening true => a.isolatorFaults e i .travelTimeout
  | _ => a

/-! ### The breaker (R28 to R33) -/

/-- R28: the conditions of a close request beside the breaker's own state. -/
def Act.mayCloseBreaker (e : Env) (a : Act) : Bool :=
  (match a.selector.state.position with
    | some y => decide (e.cls.confirmed = .system y)
    | none => false)
  && ((decide (a.isolators.zero.state = .closed) && decide (a.isolators.one.state = .opened))
    || (decide (a.isolators.zero.state = .opened) && decide (a.isolators.one.state = .closed)))
  && e.pv.authority.isSome && e.pv.permit

/-- R28: a close request for the breaker. -/
def Act.closeBreaker (e : Env) (who : List Requester) (a : Act) : Act :=
  let b := a.breaker
  match b.state with
  | .opened =>
    if a.mayCloseBreaker e then
      { a with
        breaker := { b with state := .closing, timer := some 200, closeWaiters := b.closeWaiters ++ who } }
    else a.answerAll who .closeBreaker .refused
  | .closing => { a with breaker := { b with closeWaiters := b.closeWaiters ++ who } }
  | .closed => a.answerAll who .closeBreaker .done
  | .opening | .lockout => a.answerAll who .closeBreaker .refused

/-- R32: the milliseconds since the previous trip as BREAKER_TRIP's data1. Where they do not fit its four bytes the manual states
no value, and a free value stands (the model's choice, log 49). -/
def tripAge (since : Nat) : Word := if since < 4294967296 then n32 since else Config.tripAgeBeyond since

/-- R32, R33: a trip. The breaker becomes OPEN; with a trip less than 60,000 ms before it in the history it becomes LOCKOUT. -/
def Act.breakerTrips (e : Env) (a : Act) : Act :=
  let last := a.breaker.lastTrip
  let since := match last with | some t => e.now - t | none => 0
  let a := a.breakerReachesOpen e
  let a := a.log .breakerTrip 255 (n16 e.cls.confirmed.code) (tripAge since)
  if last.isSome ∧ since < 60000 then
    let a := { a with breaker := { a.breaker with state := .lockout, lastTrip := none, closeTimeout := none } }
    (a.log .breakerLockout 255 0 (n32 since)).push .lockout
  else
    let a := { a with breaker := { a.breaker with lastTrip := some e.now, closeTimeout := none } }
    a.push .trip

/-- R29, R30, R32: the breaker's auxiliary contact came to show CLOSED or OPEN. -/
def Act.breakerContact (e : Env) (closed : Bool) (a : Act) : Act :=
  let b := a.breaker
  match b.state, closed with
  | .closing, true =>
    ({ a with breaker := { b with state := .closed, timer := none, closeWaiters := [] } }).answerAll b.closeWaiters
      .closeBreaker .done
  | .opened, true =>
    let a := { a with breaker := { b with state := .opening, timer := some 100 } }
    ((a.switchgearFault none 2 .contactConflict b.state.code).push .breakerFault).selectorDisturbed e
  | .lockout, true =>
    ((a.switchgearFault none 2 .contactConflict b.state.code).push .breakerFault).selectorDisturbed e
  | .closed, false => a.breakerTrips e
  | .opening, false => a.breakerReachesOpen e
  | _, _ => a

/-- R29: the contact comes to show CLOSED. Where the close timeout that left the breaker OPEN was taken at the same time, the two
came together with the expiry first: the breaker is OPENING, with the timer the expiry restarted, and the change of the contact is
no fault (log 43). -/
def Act.breakerCloses (e : Env) (a : Act) : Act :=
  if a.breaker.state = .opened ∧ a.breaker.closeTimeout = some e.now then
    { a with breaker := { a.breaker with state := .opening, timer := some 100, closeTimeout := none } }
  else a.breakerContact e true

/-- R29: the breaker timer has expired in CLOSING. A contact that shows OPEN completes the opening at once (R30). -/
def Act.breakerCloseTimeout (e : Env) (a : Act) : Act :=
  let b := a.breaker
  match b.state with
  | .closing =>
    let a := { a with breaker := { b with state := .opening, timer := some 100, closeWaiters := [] } }
    let a := (a.switchgearFault none 2 .closeTimeout b.state.code).push .breakerFault
    let a := a.answerAll b.closeWaiters .closeBreaker .failed
    if e.pins.breakerClosed then a
    else
      let a := a.breakerReachesOpen e
      { a with breaker := { a.breaker with closeTimeout := some e.now } }
  | _ => a

/-- R30: the breaker timer has expired in OPENING; the breaker stays OPENING with no timer running. R19: the requesters waiting
on the breaker are answered FAILED; those of an isolator that awaits it go on waiting (log 30). -/
def Act.breakerOpenTimeout (a : Act) : Act :=
  let b := a.breaker
  match b.state with
  | .opening =>
    let a := { a with breaker := { b with timer := none, openWaiters := [] } }
    let a := (a.switchgearFault none 2 .openTimeout b.state.code).push .breakerFault
    a.answerAll b.openWaiters .openBreaker .failed
  | _ => a

/-! ### A change of the confirmed system (R31, reason 1) -/

/-- R31: a breaker CLOSING or CLOSED is opened when the confirmed system is not the selector's position. -/
def Act.supplyChecked (e : Env) (a : Act) : Act :=
  match a.selector.state.position with
  | some y => if e.cls.confirmed = .system y then a else a.forceOpen e 1
  | none => a.forceOpen e 1

/-! ### CLEAR_FAULT naming no slot (R34) -/

def Act.clearIsolator (e : Env) (i : Slot) (a : Act) : Bool × Act :=
  if (a.isolators.get i).state = .fault ∧ e.pins.isolators.get i = .opened then (true, a.isolatorIsOpen i)
  else (false, a)

/-- R34. A request still waiting on an isolator that the order brings to OPEN is answered DONE (log 27). -/
def Act.clearSwitchgear (e : Env) (a : Act) : Act :=
  let sel := decide (a.selector.state = .fault)
  let a := if sel then { a with selector := { a.selector with state := .unknown } } else a
  let (i0, a) := a.clearIsolator e .zero
  let (i1, a) := a.clearIsolator e .one
  let brk := decide (a.breaker.state = .lockout) && !e.pins.breakerClosed
  let a :=
    if brk then
      ({ a with breaker := { a.breaker with state := .opened, lastTrip := none } }).push .breakerOpened
    else a
  let what := flag sel + 2 * flag i0 + 4 * flag i1 + 8 * flag brk
  if what = 0 then a else a.log .switchgearCleared 255 (n16 what) 0

/-! ### The Roof Test Unit (R36 to R38) -/

/-- R38: the result record is written, ROOF_TEST logged, and the requesters answered with the result. -/
def Act.finishTest (r : TestResult) (count distance : Nat) (who : List Requester) (a : Act) : Act :=
  let a := { a with test := { running := false, waiters := [], result := r, count := count, distance := distance } }
  (a.log .roofTest 255 (n16 r.code) (n32 (halves2 distance count))).answerAll who .roofTest (.tested r)

/-- R36: a test request; one that arrives while a test is in progress is joined. -/
def Act.requestTest (who : List Requester) (a : Act) : Act :=
  if a.test.running || (a.breakerOpen && a.bothIsolatorsOpen) then
    { a with test := { a.test with running := true, waiters := a.test.waiters ++ who } }
  else a.finishTest .invalid 0 0 who

/-- R37: the result of a test that was taken, with the count and distance it records. -/
def decideTest (latest : WindowClass) (lroof : Nat) (x : Option Reflection) : TestResult × Nat × Nat :=
  let count := match x with | some r => r.count.val | none => 0
  let distance := count * 125
  if latest ≠ .dead then (.invalid, count, distance)
  else match x with
    | none => (.noEcho, 0, 0)
    | some r =>
      if !r.positive then (.earth, count, distance)
      else if lroof ≤ distance + 300 ∧ distance ≤ lroof + 300 then (.normal, count, distance)
      else (.broken, count, distance)

/-- R37: the test in progress completes. While no configuration is loaded Lroof is 0 (the model's choice, log 41). -/
def Act.completeTest (e : Env) (x : Option Reflection) (a : Act) : Act :=
  if a.test.running then
    let lroof := match e.cfg with | some c => c.lroof | none => 0
    let (r, count, distance) := decideTest e.cls.latest lroof x
    a.finishTest r count distance a.test.waiters
  else a

/-! ### Values after either reset (R35) -/

/-- R35: the selector is read from its end switches. -/
def selectorAtReset (w : Switches) : SelectorState :=
  match Switches.closedAt w with
  | [] => .unknown
  | [p] => .rest p
  | _ => .fault

/-- R35 on blocks whose other values are already those of the reset. The SWITCHGEAR_FAULT of a selector found with two or more
end switches closed carries the kind CONTACT_CONFLICT and the state code of FAULT (log 31). -/
def Act.resetSwitchgear (e : Env) (a : Act) : Act :=
  let st := selectorAtReset e.pins.selector
  let a :=
    { a with
      selector := { state := st, timer := none, waiters := [] }
      isolators := ⟨Isolator.reset, Isolator.reset⟩
      breaker := Breaker.reset
      test := RoofTest.reset }
  let a := if st = .fault then a.switchgearFault none 0 .contactConflict a.selector.state.toCode.code else a
  if e.pins.breakerClosed then a else a.breakerReachesOpen e

end Sys2Proof.Machine
end

