-- ==== Sys2Proof/Machine/Lift.lean ====
section
/-! DEFINITION. The Lift Drive (R39 to R55): force and pressure setpoints, raising, lowering, drops, the slot orders. -/

namespace Sys2Proof.Machine

/-! ### Force and pressure (R51, R52) -/

/-- R51, steps 1 to 4, for a speed `v` in whole km/h. -/
def forceOf (p : Profile) (v ice : Nat) (scrape : Bool) : Nat :=
  let f := (p.f0 * 1000 + p.kmu * (v * v) / 1000) / 1000
  let f := if 2 ≤ ice then f * 11 / 10 else f
  let f := if scrape then f + p.scrapeAdd else f
  clamp p.fmin p.fmax f

/-- R51, step 5. -/
def pressureOf (force p0 gain : Nat) : Nat := min 600 (p0 + force * gain / 100)

/-- R51 for one slot under the profile of the system `y`. -/
def SlotRec.compute (y : Supply) (p : Profile) (v ice : Nat) (r : SlotRec) : SlotRec :=
  let f := forceOf p v ice (decide (r.duty = .scrape))
  { r with force := f, pressure := pressureOf f r.p0 r.gain, setProfile := some y }

/-- R52: the setpoints of both slots are recomputed; while the active profile is none they are kept. -/
def Act.recompute (e : Env) (a : Act) : Act :=
  match a.bids.profile, a.active e with
  | some y, some p =>
    let v := e.pv.geometry.speed / 10
    { a with slots := ⟨a.slots.zero.compute y p v a.ice.level, a.slots.one.compute y p v a.ice.level⟩ }
  | _, _ => a

/-! ### Changes and their reports (R46) -/

/-- R46: a change of a slot record is reported to the Roof Sequencer (and the Start-up Controller, R167), and gives the Bid Unit
an evaluation and the Ice Unit a review. -/
def Act.slotChanged (i : Slot) (a : Act) : Act := ((a.push (.slotChanged i)).iceDue).evalDue

def Act.updateSlot (i : Slot) (f : SlotRec → SlotRec) (a : Act) : Act :=
  (a.setSlot i (f (a.slots.get i))).slotChanged i

/-- The answer to a requester that waits on a raise, where one does. -/
def Act.answerRaise (i : Slot) (ans : Answer) (a : Act) : Act :=
  let r := a.slots.get i
  if r.raiseWaiting then (a.setSlot i { r with raiseWaiting := false }).push (.raiseAnswered i ans) else a

/-- The duty becomes NONE; a change of duty recomputes the setpoints (R52). -/
def Act.clearDuty (e : Env) (i : Slot) (a : Act) : Act :=
  let r := a.slots.get i
  if r.duty = .idle then a else ((a.setSlot i { r with duty := .idle }).slotChanged i).recompute e

/-- Requesters waiting on a lower are answered. -/
def Act.answerLower (i : Slot) (ans : Answer) (a : Act) : Act :=
  let r := a.slots.get i
  (a.setSlot i { r with lowerWaiters := [] }).answerAll r.lowerWaiters (.lower i) ans

/-! ### Lowering (R43, R44) -/

/-- R44: the down switch closes in VENTING. -/
def Act.becomesDown (i : Slot) (a : Act) : Act :=
  (a.updateSlot i fun r => { r with lift := .down, lowerTimer := none }).answerLower i .done

/-- R43, R44: the valve is vented; a down switch that already shows closed is read at once (R40). -/
def Act.vent (e : Env) (i : Slot) (a : Act) : Act :=
  let a := a.updateSlot i fun r => { r with lift := .lowering .venting, lowerTimer := some 8000 }
  if e.pins.down.get i then a.becomesDown i else a

/-- R43: a lower request taken in RISING or UP. -/
def Act.startDown (e : Env) (i : Slot) (who : List Requester) (a : Act) : Act :=
  let a := (a.clearDuty e i).answerRaise i .failed
  let a := a.updateSlot i fun r => { r with riseTimer := none, lowerWaiters := r.lowerWaiters ++ who }
  if (a.isolators.get i).state = .opened then a.vent e i
  else (a.updateSlot i fun r => { r with lift := .lowering .awaitingIsolator }).openIsolator e i [.lift i]

/-- R43: a lower request. -/
def Act.lower (e : Env) (i : Slot) (who : List Requester) (a : Act) : Act :=
  let r := a.slots.get i
  match r.lift with
  | .down | .dropped => a.answerAll who (.lower i) .done
  | .lowering _ => a.setSlot i { r with lowerWaiters := r.lowerWaiters ++ who }
  | .rising | .up => a.startDown e i who

/-- R44: the Switchgear Interlock answered DONE to the isolator open request of R43. -/
def Act.isolatorOpenedForLift (e : Env) (i : Slot) (a : Act) : Act :=
  if (a.slots.get i).lift = .lowering .awaitingIsolator then a.vent e i else a

/-- R44: the down switch came to show closed or open. -/
def Act.downSwitch (i : Slot) (closed : Bool) (a : Act) : Act :=
  if (a.slots.get i).lift = .lowering .venting ∧ closed then a.becomesDown i else a

/-- R44: the lower timer has expired. -/
def Act.lowerTimeout (i : Slot) (a : Act) : Act :=
  if (a.slots.get i).lift = .lowering .venting then
    let a := a.setSlot i { a.slots.get i with lowerTimer := none }
    (a.log .lowerFail i.code 0 (n32 LoweringPhase.venting.code)).answerLower i .failed
  else a

/-! ### Drops (R45) -/

def Act.drop (e : Env) (i : Slot) (a : Act) : Act :=
  let before := a.slots.get i
  let a := a.setSlot i { before with riseTimer := none, lowerTimer := none }
  let a := if before.duty = .collect then a.openBreaker e [] else a
  let a := a.openIsolator e i []
  let a := (a.clearDuty e i).updateSlot i fun r => { r with latch := true, lift := .dropped }
  let a := (a.answerRaise i .failed).answerLower i .done
  (a.log .slotDropped i.code (n16 before.duty.code) (n32 before.lift.toCode.code)).alert .dropped (some i)

/-- R45: the ADD contact came to show operated or normal. -/
def Act.addContact (e : Env) (i : Slot) (operated : Bool) (a : Act) : Act :=
  match (a.slots.get i).lift with
  | .rising | .up | .lowering _ => if operated then a.drop e i else a
  | .down | .dropped => a

/-! ### Raising (R41, R42) -/

/-- R42: the up switch closes in RISING. -/
def Act.becomesUp (i : Slot) (a : Act) : Act :=
  (a.updateSlot i fun r => { r with lift := .up, riseTimer := none }).answerRaise i .done

/-- R41: a raise request. The ADD contact is read before the up switch (log 17). -/
def Act.raise (e : Env) (i : Slot) (d : Duty) (a : Act) : Act :=
  let r := a.slots.get i
  if r.lift = .down ∧ !r.locked ∧ !r.latch then
    let a :=
      (a.updateSlot i fun r => { r with duty := d, lift := .rising, riseTimer := some 10000, raiseWaiting := true })
    let a := a.recompute e
    if e.pins.add.get i then a.drop e i
    else if e.pins.up.get i then a.becomesUp i
    else a
  else a.push (.raiseAnswered i .refused)

/-- R42: the up switch came to show closed or open. -/
def Act.upSwitch (i : Slot) (closed : Bool) (a : Act) : Act :=
  if (a.slots.get i).lift = .rising ∧ closed then a.becomesUp i else a

/-- R42: the rise timer has expired. -/
def Act.riseTimeout (e : Env) (i : Slot) (a : Act) : Act :=
  let r := a.slots.get i
  if r.lift = .rising then
    let a := a.log .raiseFail i.code (n16 r.duty.code) 0
    let a := (a.updateSlot i fun r => { r with latch := true }).clearDuty e i
    (a.answerRaise i .failed).startDown e i []
  else a

/-! ### Slot orders (R47 to R50) -/

/-- The slots a mask names: bit 0 slot 0, bit 1 slot 1; the other six bits name nothing. -/
def maskNames (mask : Byte) : Slot → Bool
  | .zero => mask.getLsbD 0
  | .one => mask.getLsbD 1

/-- R47 for one slot. SLOT_LOCK is written before what the lower request brings about, a BREAKER_FORCED_OPEN among it (the model's
choice, log 44). -/
def Act.lockSlot (e : Env) (src : Nat) (i : Slot) (a : Act) : Act :=
  let r := a.slots.get i
  let a :=
    if r.locked then a
    else (a.updateSlot i fun r => { r with locked := true }).log .slotLock i.code 1 (n32 src)
  match r.lift with
  | .rising | .up => a.lower e i []
  | .down | .lowering _ | .dropped => a

/-- R48 for one slot. -/
def Act.unlockSlot (src : Nat) (i : Slot) (a : Act) : Act :=
  if (a.slots.get i).locked then
    (a.updateSlot i fun r => { r with locked := false }).log .slotLock i.code 0 (n32 src)
  else a

/-- R49 for one slot. -/
def Act.clearSlot (e : Env) (i : Slot) (a : Act) : Act :=
  let r := a.slots.get i
  match r.lift with
  | .dropped =>
    if e.pins.down.get i then (a.updateSlot i fun r => { r with lift := .down }).log .slotCleared i.code 1 0 else a
  | .down => if r.latch then (a.updateSlot i fun r => { r with latch := false }).log .slotCleared i.code 2 0 else a
  | .rising | .up | .lowering _ => a

/-- One operation on each slot a mask names. That slot 0 is acted on, and logged, first is the model's choice (log 35). -/
def Act.onMask (mask : Byte) (f : Slot → Act → Act) (a : Act) : Act :=
  let a := if maskNames mask .zero then f .zero a else a
  if maskNames mask .one then f .one a else a

/-- R47: LOCK; addressed to destination 0 with both slots it is the lock-all, reported to the Roof Sequencer. -/
def Act.lockOrder (e : Env) (dst src : Nat) (mask : Byte) (a : Act) : Act :=
  let a := a.onMask mask (fun i a => a.lockSlot e src i)
  if dst = 0 ∧ maskNames mask .zero ∧ maskNames mask .one then a.push .lockAll else a

/-- R48. -/
def Act.unlockOrder (src : Nat) (mask : Byte) (a : Act) : Act := a.onMask mask (fun i a => a.unlockSlot src i)

/-- R34, R49: CLEAR_FAULT acts on the slots its mask names, or on the Switchgear Interlock where it names none. -/
def Act.clearFaultOrder (e : Env) (mask : Byte) (a : Act) : Act :=
  if maskNames mask .zero || maskNames mask .one then a.onMask mask (fun i a => a.clearSlot e i)
  else a.clearSwitchgear e

/-- R50: what the preference becomes; a mask that names both slots leaves it. -/
def preferredAfter (mask : Byte) (old : Option Slot) : Option Slot :=
  match maskNames mask .zero, maskNames mask .one with
  | true, false => some .zero
  | false, true => some .one
  | false, false => none
  | true, true => old

/-- R50. -/
def Act.preferOrder (src : Nat) (mask : Byte) (a : Act) : Act :=
  let new := preferredAfter mask a.preferred
  if new = a.preferred then a
  else
    (({ a with preferred := new }).log .preferredSlot 255 (n16 (optSlotCode new)) (n32 src)).push .preferredChanged

/-! ### Configuration and resets (R54, R55, R162) -/

/-- R162: head type, dA, P0 and gain of a slot as loaded. -/
def SlotRec.load (c : Loaded) (i : Slot) (r : SlotRec) : SlotRec :=
  { r with head := c.heads.get i, dA := c.dA.get i, p0 := c.p0.get i, gain := c.gain.get i }

/-- R54, with the values that R55 keeps taken from `old`. -/
def slotAtReset (pins : Pins) (i : Slot) (latch : Bool) (old : SlotRec) : SlotRec :=
  let housed := pins.down.get i && !pins.up.get i
  { SlotRec.reset with
    lift := if housed then .down else .lowering .venting
    lowerTimer := if housed then none else some 8000
    latch := latch, head := old.head, dA := old.dA, p0 := old.p0, gain := old.gain }

end Sys2Proof.Machine
end

