-- ==== Sys2Proof/Machine/Bids.lean ====
section
/-! DEFINITION. The Bid Unit (R93 to R110): the active profile, what counts in the view, admissibility, the life of a bid,
settle-down. -/

namespace Sys2Proof.Machine

/-! ### The active profile (R95) -/

/-- R95, rule 1: the system beyond a SYSTEM_GAP that is passed in GAP, RAISING or CONNECTING. -/
def Sequencer.gapBeyond (q : Sequencer) : Option Supply :=
  match q.state with
  | .gap _ | .raising | .connecting =>
    match q.notice with
    | some h => if h.notice.kind = .systemGap then h.notice.beyond else none
    | none => none
  | _ => none

/-- R95: the first of its rules that applies; none while no profile is held. -/
def Act.chosenProfile (e : Env) (a : Act) : Option Supply :=
  if e.cfg.isNone then none
  else match a.seq.gapBeyond with
    | some y => some y
    | none => match e.cls.confirmed with
      | .system y => some y
      | .noSystem | .indeterminate => e.pv.expected

/-- R95: the active profile is recomputed; a change is logged and reported, and the setpoints follow (R52). -/
def Act.recomputeProfile (e : Env) (a : Act) : Act :=
  let new := a.chosenProfile e
  let old := a.bids.profile
  if new = old then a
  else
    let a := { a with bids := { a.bids with profile := new } }
    let a := a.log .activeProfile 255 (n16 (optSupplyCode new)) (n32 (optSupplyCode old))
    let a := if new.isSome then a.recompute e else a
    ((a.push .profileChanged).iceDue).evalDue

/-! ### The view (R97) -/

/-- A pantograph or a bid as it is ranked: its Dfront, its station and its slot. -/
structure Placed where
  dfront : Nat
  address : Nat
  slot : Slot
  deriving DecidableEq, Repr

/-- The slots of a station whose duty is `d`, with the Dfront each has at the event. -/
def placedSlots (address : Nat) (d : Duty) (duty : Slot → Duty) (dfront : Slot → Nat) : List Placed :=
  [Slot.zero, Slot.one].filterMap fun i =>
    if duty i = d then some { dfront := dfront i, address := address, slot := i } else none

/-- The roof entries of the peer table, FRESH or STALE. -/
def PeerView.roofs (v : PeerView) : List (Nat × RoofPayload) :=
  v.table.filterMap fun p =>
    match p.last with
    | .roof q => some (p.address, q)
    | .cab _ => none

def Act.ownPlaced (e : Env) (d : Duty) (a : Act) : List Placed :=
  placedSlots a.station d (fun i => (a.slots.get i).duty) (fun i => a.dfront e i)

def Env.peersPlaced (e : Env) (d : Duty) : List Placed :=
  e.pv.roofs.flatMap fun (n, q) =>
    placedSlots n d (fun i => (q.slots.get i).duty) (fun i => e.dfront (q.slots.get i).dA.toNat)

/-- R97: the COLLECT, or SCRAPE, pantographs in view. -/
def Act.inView (e : Env) (d : Duty) (a : Act) : List Placed := a.ownPlaced e d ++ e.peersPlaced d

/-- R97: the pending bids in view, with their kinds. -/
def PeerView.pendings (v : PeerView) : List (BidKind × Placed) :=
  v.table.filterMap fun p =>
    match p.last, p.bid with
    | .roof _, some b =>
      some (b.bid.kind, { dfront := b.bid.dfront.toNat, address := p.address, slot := b.bid.slot })
    | _, _ => none

/-- R97: equal kind and equal Dfront: the lower station address, and within one station slot 0. -/
def Placed.tieBefore (x y : Placed) : Bool :=
  decide (x.address < y.address) || (decide (x.address = y.address) && decide (x.slot.code < y.slot.code))

/-- R97: `x` has a higher precedence than `y`, both of kind `k`. -/
def Placed.outranks (k : BidKind) (x y : Placed) : Bool :=
  if x.dfront = y.dfront then x.tieBefore y
  else match k with
    | .collect => decide (y.dfront < x.dfront)
    | .scrape => decide (x.dfront < y.dfront)

/-- R97: a bid outranks a bid. -/
def bidOutranks (x y : BidKind × Placed) : Bool :=
  match x.1, y.1 with
  | .collect, .scrape => true
  | .scrape, .collect => false
  | .collect, .collect => x.2.outranks .collect y.2
  | .scrape, .scrape => x.2.outranks .scrape y.2

/-- The difference of two Dfronts, without sign. -/
def Placed.distance (x y : Placed) : Nat := (x.dfront - y.dfront) + (y.dfront - x.dfront)

/-- The bid for a slot as it is tested and ranked: the slot's Dfront at the event and the own address. -/
def Act.bidPlace (e : Env) (i : Slot) (a : Act) : Placed :=
  { dfront := a.dfront e i, address := a.station, slot := i }

/-! ### Admissibility (R100, R101) -/

/-- R100, condition 1, and R101, condition 4. -/
def Act.slotRaisable (i : Slot) (a : Act) : Bool :=
  let r := a.slots.get i
  !r.locked && !r.latch && decide (r.lift = .down)

/-- R100, conditions 2 to 6. -/
def Act.collectFits (e : Env) (p : Profile) (i : Slot) (pending : List (BidKind × Placed)) (a : Act) : Bool :=
  let own := a.bidPlace e i
  let up := a.inView e .collect
  let above := (pending.filter fun b => decide (b.1 = .collect) && b.2.outranks .collect own).map (·.2)
  profilePermits (some p) (a.slots.get i).head
    && (a.ownPlaced e .collect).isEmpty
    && decide (up.length + above.length < p.maxCollect)
    && ((up ++ above).all fun x => decide (p.minSpacing ≤ x.distance own))
    && ((a.inView e .scrape).all fun x => decide (x.dfront + p.scrapeSpacing ≤ own.dfront))

/-- R101, conditions 1 to 3, 5 and 6. -/
def Act.scrapeFits (e : Env) (p : Profile) (i : Slot) (pending : List (BidKind × Placed)) (a : Act) : Bool :=
  let own := a.bidPlace e i
  let collects := (pending.filter fun b => decide (b.1 = .collect)).map (·.2)
  p.scrapeAllowed
    && decide (a.ice.level = 3)
    && decide (a.link.address.map (fun n => (n, i)) = a.ice.candidate)
    && (a.inView e .scrape).isEmpty
    && (pending.all fun b => !(decide (b.1 = .scrape) && b.2.outranks .scrape own))
    && ((a.inView e .collect ++ collects).all fun x => decide (own.dfront + p.scrapeSpacing ≤ x.dfront))

/-- R100 and R101 without the slot's own state. -/
def Act.fits (e : Env) (k : BidKind) (i : Slot) (pending : List (BidKind × Placed)) (a : Act) : Bool :=
  match a.active e, k with
  | some p, .collect => a.collectFits e p i pending
  | some p, .scrape => a.scrapeFits e p i pending
  | none, _ => false

/-- R100, R101 with the pending bids given. -/
def Act.admissible (e : Env) (k : BidKind) (i : Slot) (pending : List (BidKind × Placed)) (a : Act) : Bool :=
  a.slotRaisable i && a.fits e k i pending

/-- R98, R103: mode READY and permit RAISE. -/
def Act.mayBid (e : Env) (a : Act) : Bool := decide (a.startup.mode = .ready) && e.pv.permit

/-! ### Ceding (R102) -/

def HeldBid.ownPhase (b : HeldBid) : Bool := decide (b.phase ≠ .committed)

/-- R102, reasons 2 and 3: the reason for which an evaluation would cede a bid of that kind and slot now (log 21). -/
def Act.viewReason (e : Env) (b : HeldBid) (a : Act) : Option Nat :=
  if !e.pv.permit || !a.fits e b.kind b.slot e.pv.pendings then some 2
  else if !a.slotRaisable b.slot then some 3
  else none

/-- R102: how a bid is ceded, for a reason of the table. -/
def Act.cedeFor (b : HeldBid) (reason : Nat) (a : Act) : Act :=
  let (announced, a) : Bool × Act :=
    match b.phase with
    | .offered =>
      match a.link.withdrawBid b.number with
      | some k => (false, { a with link := k })
      | none => (true, { a with bids := { a.bids with owedCede := some b.number } })
    | .window | .committed => (true, (a.offerTail (.cede (n8 b.number)) .other).2)
  let a := { a with bids := { a.bids with bid := none, windowTimer := none, spacingTimer := some 100 } }
  let a := a.log .bidCeded b.slot.code (n16 (bytes2 reason b.number)) (n32 (flag announced))
  (a.push (.outcome b.kind .ceded)).evalDue

/-- R102: the bid held in OFFERED or WINDOW is ceded for the first reason of the table that the event meets (log 21). -/
def Act.cede (e : Env) (reason : Nat) (a : Act) : Act :=
  match a.bids.bid with
  | some b =>
    if b.ownPhase then
      let r := match a.viewReason e b with | some v => min v reason | none => reason
      a.cedeFor b r
    else a
  | none => a

/-! ### Requests (R96) -/

def Act.holdsBid (k : BidKind) (a : Act) : Bool :=
  match a.bids.bid with
  | some b => decide (b.kind = k)
  | none => false

def Act.setRequest (k : BidKind) (r : Option Slot) (a : Act) : Act :=
  match k with
  | .collect => { a with bids := { a.bids with collectRequest := r } }
  | .scrape => { a with bids := { a.bids with scrapeRequest := r } }

def BidUnit.request (b : BidUnit) : BidKind → Option Slot
  | .collect => b.collectRequest
  | .scrape => b.scrapeRequest

/-- R96: a request is withdrawn. -/
def Act.withdrawRequest (e : Env) (k : BidKind) (a : Act) : Act :=
  let a := (a.setRequest k none).evalDue
  if a.holdsBid k then a.cede e 4 else a

/-- R96: a request is placed; one for another slot than the held bid's acts on that bid as a withdrawal. -/
def Act.placeRequest (e : Env) (k : BidKind) (i : Slot) (a : Act) : Act :=
  let a := (a.setRequest k (some i)).evalDue
  match a.bids.bid with
  | some b => if b.kind = k ∧ b.slot ≠ i then a.cede e 4 else a
  | none => a

/-! ### Opening a bid (R98) -/

def Act.openBid (e : Env) (k : BidKind) (i : Slot) (a : Act) : Act :=
  let n := a.bids.nextNumber
  let d := a.dfront e i
  let f : Frame := .bid { kind := k, slot := i, dfront := n16 d, number := n8 n }
  match a.offerTail f (.bid n) with
  | (true, a) =>
    let held : HeldBid := { kind := k, slot := i, dfront := d, number := n, phase := .offered }
    let a := { a with bids := { a.bids with bid := some held, nextNumber := (n + 1) % 256 } }
    (a.log .bidOpened i.code (n16 (bytes2 k.code n)) (n32 d)).push (.outcome k .opened)
  | (false, a) => a.push (.outcome k .notOpened)

/-- R98 for one of the two requests. -/
def Act.tryRequest (e : Env) (k : BidKind) (a : Act) : Act :=
  match a.bids.bid, a.bids.spacingTimer, a.bids.request k with
  | none, none, some i => if a.mayBid e && a.admissible e k i e.pv.pendings then a.openBid e k i else a
  | _, _, _ => a

/-! ### The transmit queue's answers (R99) -/

def Act.bidTxAnswered (n : Nat) (ans : TxAnswer) (a : Act) : Act :=
  let mine : Option HeldBid :=
    match a.bids.bid with
    | some b => if b.phase = .offered ∧ b.number = n then some b else none
    | none => none
  let owed := decide (a.bids.owedCede = some n)
  match ans, mine with
  | .sent, some b =>
    { a with bids := { a.bids with bid := some { b with phase := .window }, windowTimer := some 150 } }
  | .sent, none =>
    if owed then
      (({ a with bids := { a.bids with owedCede := none } }).offerTail (.cede (n8 n)) .other).2
    else a
  | .discarded, some b | .closed, some b =>
    ({ a with bids := { a.bids with bid := none } }).push (.outcome b.kind .dropped)
  | .discarded, none | .closed, none =>
    if owed then { a with bids := { a.bids with owedCede := none } } else a
  | .withdrawn, _ => a

/-! ### The window's end and the raise (R103, R104) -/

/-- R103. The requester learns of WON before the slot's own reports of the raise. -/
def Act.windowExpired (e : Env) (a : Act) : Act :=
  let a := { a with bids := { a.bids with windowTimer := none } }
  match a.bids.bid with
  | some b =>
    if b.phase = .window then
      if a.mayBid e && a.admissible e b.kind b.slot e.pv.pendings then
        let a := { a with bids := { a.bids with bid := some { b with phase := .committed } } }
        let a := (a.push (.outcome b.kind .won)).raise e b.slot b.kind.duty
        a.log .bidWon b.slot.code (n16 (bytes2 b.kind.code b.number)) (n32 b.dfront)
      else ({ a with bids := { a.bids with bid := none } }).push (.outcome b.kind .lapsed)
    else a
  | none => a

/-- R104: the Lift Drive's answer to a raise. -/
def Act.bidRaiseAnswered (i : Slot) (ans : Answer) (a : Act) : Act :=
  match a.bids.bid with
  | some b =>
    if b.phase = .committed ∧ b.slot = i then
      let told := if ans = .done then Outcome.raised else Outcome.failed
      ({ a with bids := { a.bids with bid := none } }).push (.outcome b.kind told)
    else a
  | none => a

/-! ### Settle-down (R106, R107) -/

/-- A retraction: the lower request and RETRACTED with its reason (R106, R159, R160). -/
def Act.retract (e : Env) (i : Slot) (reason : Nat) (who : Requester) (a : Act) : Act :=
  let d := (a.slots.get i).duty
  (a.lower e i [who]).log .retracted i.code (n16 d.code) (n32 reason)

/-- R106: the reason for which the own collector is retracted. -/
def collectorReason (p : Profile) (view : List Placed) (own : Placed) : Option Nat :=
  let higher := view.filter fun x => x.outranks .collect own
  if p.maxCollect < higher.length + 1 then some 1
  else if higher.any fun x => decide (x.distance own < p.minSpacing) then some 2
  else none

/-- R107: the reason for which the own scraper is retracted. -/
def scraperReason (p : Profile) (scrapers collectors : List Placed) (own : Placed) : Option Nat :=
  if scrapers.any fun x => x.outranks .scrape own then some 3
  else if collectors.any fun x => decide (x.dfront < own.dfront + p.scrapeSpacing) then some 4
  else none

/-- R106, R107: settle-down of the station's slots of one duty. -/
def Act.settleDuty (e : Env) (d : Duty) (reason : Act → Profile → Placed → Option Nat) (a : Act) : Act :=
  (a.ownPlaced e d).foldl
    (fun a x =>
      match a.active e with
      | none => a
      | some p =>
        match reason a p x with
        | some r => a.retract e x.slot r .bidUnit
        | none => a)
    a

/-- R106, R107: settle-down, collectors before scrapers: a scraper that stood too near only the own collector just retracted
stays up (the model's choice, log 42). -/
def Act.settleDown (e : Env) (a : Act) : Act :=
  let a := a.settleDuty e .collect fun a p x => collectorReason p (a.inView e .collect) x
  a.settleDuty e .scrape fun a p x => scraperReason p (a.inView e .scrape) (a.inView e .collect) x

/-! ### Evaluation (R105) -/

def Act.evaluate (e : Env) (a : Act) : Act :=
  let a := { a with inbox := { a.inbox with evalDue := false } }
  let a := a.recomputeProfile e
  let a :=
    match a.bids.bid with
    | some b =>
      if b.ownPhase then
        match a.viewReason e b with
        | some r => a.cedeFor b r
        | none => a
      else a
    | none => a
  let a := a.settleDown e
  (a.tryRequest e .collect).tryRequest e .scrape

/-! ### Frames, modes and authority (R102, R108) -/

/-- R102, reason 1: a BID of another station is delivered. It is counted as its sender's pending bid, whatever the sender's address
and entry (the model's reading, log 39). -/
def Act.bidDelivered (e : Env) (src : Nat) (b : BidPayload) (a : Act) : Act :=
  let a := a.evalDue
  match a.bids.bid with
  | some h =>
    let theirs : BidKind × Placed := (b.kind, { dfront := b.dfront.toNat, address := src, slot := b.slot })
    let pending := (e.pv.pendings.filter fun x => decide (x.2.address ≠ src)) ++ [theirs]
    if h.ownPhase && bidOutranks theirs (h.kind, a.bidPlace e h.slot)
        && !a.admissible e h.kind h.slot pending then a.cede e 1
    else a
  | none => a

/-- R108: the mode leaves READY, or the authority hold becomes LOST. It acts before the Roof Sequencer's withdrawal at the same
event, so the reason is 5 where R102's table would give 4 (log 21). -/
def Act.bidsEnd (e : Env) (a : Act) : Act :=
  match a.bids.bid with
  | some b =>
    if b.ownPhase then a.cede e 5
    else ({ a with bids := { a.bids with bid := none } }).push (.outcome b.kind .failed)
  | none => a

end Sys2Proof.Machine
end

