-- ==== Sys2Proof/Machine/Notices.lean ====
section
/-! DEFINITION. The Notice Queue (R111 to R122): taking and cancelling notices, the mark, retirement, flush. -/

namespace Sys2Proof.Machine

/-! ### Reading the queue (R111, R118) -/

/-- R111: two notices overlap when each one's start lies before the other's end. -/
def Notice.overlaps (x y : Notice) : Bool :=
  decide (x.start.toNat < y.stop.toNat) && decide (y.start.toNat < x.stop.toNat)

def NoticeQueue.find (q : NoticeQueue) (id : Byte) : Option HeldNotice := q.held.find? fun h => h.notice.id = id

def NoticeQueue.isCurrent (q : NoticeQueue) (id : Byte) : Bool := decide (q.current = some id)

/-- R118: the current notice. -/
def NoticeQueue.currentNotice (q : NoticeQueue) : Option HeldNotice :=
  match q.current with
  | some id => q.find id
  | none => none

/-- R118: the next notice. -/
def NoticeQueue.next (q : NoticeQueue) : Option HeldNotice :=
  match q.currentNotice with
  | some c => q.held.find? fun h => decide (c.notice.stop.toNat ≤ h.notice.start.toNat)
  | none => q.held.head?

/-- R111: whether a head may run on the wire beyond a notice. -/
def Act.headBeyond (e : Env) (n : Notice) (h : HeadType) (a : Act) : Bool :=
  match n.heads, n.kind, n.beyond with
  | some s, _, _ => s.permits h
  | none, .systemGap, some y => profilePermits (e.profile (some y)) h
  | none, _, _ => profilePermits (a.active e) h

/-- R111: the front position, the track position of the frontmost own slot. -/
def Act.frontPosition (e : Env) (a : Act) : Nat := max (a.track e .zero) (a.track e .one)

/-- R111: the rear position. -/
def Act.rearPosition (e : Env) (a : Act) : Nat := min (a.track e .zero) (a.track e .one)

/-! ### Changing the queue -/

/-- R115: a notice takes the place its start gives it. -/
def insertByStart (h : HeldNotice) : List HeldNotice → List HeldNotice
  | [] => [h]
  | x :: rest =>
    if h.notice.start.toNat < x.notice.start.toNat then h :: x :: rest else x :: insertByStart h rest

def withoutId (id : Byte) (l : List HeldNotice) : List HeldNotice := l.filter fun h => h.notice.id != id

def Act.setHeld (l : List HeldNotice) (a : Act) : Act := { a with notices := { a.notices with held := l } }

/-- NOTICE_REFUSED (R112, R114, R116). -/
def Act.noticeRefused (id : Byte) (reason : Nat) (start : Word) (a : Act) : Act :=
  a.log .noticeRefused id.toNat (n16 reason) start

/-- R112: the reason for which a notice is refused for its form. -/
def NoticeQueue.formReason (q : NoticeQueue) (n : Notice) : Option Nat :=
  if n.stop.toNat ≤ n.start.toNat ∨ n.start.toNat + 20000 < n.stop.toNat then some 1
  else if n.heads = some ⟨false, false⟩ then some 2
  else if q.isCurrent n.id then some 3
  else none

/-- R115: the insertion, among the held notices `others` that stay. -/
def Act.insertNotice (n : Notice) (late : Bool) (others : List HeldNotice) (a : Act) : Act :=
  let replaced := (a.notices.find n.id).isSome
  let a := a.setHeld (insertByStart { notice := n, late := late, pointReached := false } others)
  (a.log (if late then .noticeLate else .noticeAccepted) n.id.toNat (n16 (flag replaced)) n.start).push
    .noticesChanged

/-- R114: overlap, then capacity. -/
def Act.admitNotice (n : Notice) (late : Bool) (a : Act) : Act :=
  let others := withoutId n.id a.notices.held
  if others.any fun h => Notice.overlaps n h.notice then a.noticeRefused n.id 4 n.start
  else if others.length < 6 then a.insertNotice n late others
  else match others.getLast? with
    | some far =>
      if n.start.toNat < far.notice.start.toNat ∧ !a.notices.isCurrent far.notice.id then
        (a.log .noticeEvicted far.notice.id.toNat (n16 far.notice.kind.code) far.notice.start).insertNotice n late
          others.dropLast
      else a.noticeRefused n.id 5 n.start
    | none => a.insertNotice n late others

/-- R112 to R115: an admitted ROUTE. -/
def Act.routeTaken (e : Env) (n : Notice) (a : Act) : Act :=
  match a.notices.formReason n with
  | some r => a.noticeRefused n.id r n.start
  | none =>
    let n := if n.kind = .systemGap then n else { n with beyond := none }
    if n.stop.toNat < a.rearPosition e then a.log .noticeStale n.id.toNat (n16 n.kind.code) n.stop
    else a.admitNotice n (decide (n.start.toNat ≤ a.frontPosition e))

/-- R116: an admitted CANCEL. -/
def Act.cancelTaken (id : Byte) (a : Act) : Act :=
  match a.notices.find id with
  | none => a.noticeRefused id 6 0
  | some h =>
    if a.notices.isCurrent id then a.noticeRefused id 3 0
    else
      ((a.setHeld (withoutId id a.notices.held)).log .noticeCancelled id.toNat (n16 h.notice.kind.code)
        h.notice.start).push .noticesChanged

/-! ### The mark (R117) -/

/-- R117: a mark request; the copy of the record, or `none` where it is refused. -/
def Act.markNotice (id : Byte) (a : Act) : Option HeldNotice × Act :=
  match a.notices.find id with
  | none => (none, a)
  | some h =>
    if a.notices.isCurrent id then (some h, a)
    else
      let a := { a with notices := { a.notices with current := some id } }
      (some h, (a.log .noticeCurrent id.toNat (n16 id.toNat) h.notice.start).push .noticesChanged)

/-- R117: a clear request. -/
def Act.clearMark (a : Act) : Act :=
  if a.notices.current.isNone then a
  else ({ a with notices := { a.notices with current := none } }).push .noticesChanged

/-! ### Retirement and flush (R119, R120) -/

/-- R119: whether a notice retires, for the rear position of the review. -/
def HeldNotice.passed (rear : Nat) (h : HeldNotice) : Bool := decide (h.notice.stop.toNat + 50 < rear)

def Act.logRetired (current : Option Byte) (h : HeldNotice) (a : Act) : Act :=
  a.log .noticeRetired h.notice.id.toNat (n16 (flag (decide (current = some h.notice.id)))) h.notice.stop

/-- R119: a review for retirement; the nearest notice is removed first. -/
def Act.reviewNotices (e : Env) (a : Act) : Act :=
  let rear := a.rearPosition e
  let gone := a.notices.held.filter (HeldNotice.passed rear)
  if gone.isEmpty then a
  else
    let current := a.notices.current
    let lost := gone.any fun h => decide (current = some h.notice.id)
    let a := a.setHeld (a.notices.held.filter fun h => !h.passed rear)
    let a := if lost then { a with notices := { a.notices with current := none } } else a
    let a := gone.foldl (fun a h => a.logRetired current h) a
    let a := if lost then a.push .currentRetired else a
    a.push .noticesChanged

/-- R120: the flush at an accepted change of direction. -/
def Act.flushNotices (e : Env) (a : Act) : Act :=
  let n := a.notices.held.length
  let a := { a with notices := { a.notices with held := [], current := none } }
  ((a.log .noticeFlushed 0 (n16 n) (n32 e.front)).push .flushed).push .noticesChanged

end Sys2Proof.Machine
end

