-- ==== Sys2Proof/Machine/Ice.lean ====
section
/-! DEFINITION. The Ice Unit (R147 to R161): arcs, temperature, level, heat, the scraper candidate, the scraper's request and
retractions. -/

namespace Sys2Proof.Machine

def Act.setIce (x : IceUnit) (a : Act) : Act := { a with ice := x }

/-! ### Arcs (R147) -/

/-- R147: a pulse of the given length in µs. -/
def Act.arcPulse (i : Slot) (micros : Nat) (a : Act) : Act :=
  let r := a.slots.get i
  if 50 ≤ micros ∧ r.lift = .up ∧ r.duty = .collect then
    a.setIce { a.ice with arcs := a.ice.arcs.set i (bump 255 (a.ice.arcs.get i)) }
  else a

/-! ### The level (R151 to R154) -/

/-- R159: every own slot with duty SCRAPE is retracted for a reason. -/
def Act.retractScrapers (e : Env) (which : Slot → Act → Bool) (reason : Nat) (a : Act) : Act :=
  let one (i : Slot) (a : Act) : Act :=
    if (a.slots.get i).duty = .scrape ∧ which i a then a.retract e i reason .iceUnit else a
  one .one (one .zero a)

/-- R154, R159: a change of the ice level and what it brings about. -/
def Act.setLevel (e : Env) (new cause : Nat) (a : Act) : Act :=
  let old := a.ice.level
  if new = old then a
  else
    let a := a.setIce { a.ice with level := new }
    let a := a.log .iceLevel 255 (n16 (bytes2 new old)) (n32 (halves2 cause a.ice.trainRate))
    let a := ((a.recompute e).iceDue).evalDue
    if old = 3 then a.retractScrapers e (fun _ _ => true) 5 else a

/-- R151: the forced value and the cause of ICE_LEVEL, or none; without a configuration only the forcing to 3 applies (R152). -/
def Act.forcing (e : Env) (a : Act) : Option (Nat × Nat) :=
  match e.pv.iceMode, e.cfg, a.ice.lastTemp with
  | .force, _, _ => some (3, 5)
  | _, none, _ => none
  | .off, some _, _ => some (0, 4)
  | .auto, some c, some t => if c.iceTemp < t then some (0, 3) else none
  | .auto, some _, none => none

/-- R151: the forcing is recomputed. -/
def Act.reforce (e : Env) (a : Act) : Act :=
  match a.forcing e with
  | none => a.setIce { a.ice with forced := none }
  | some (v, cause) =>
    if a.ice.forced = some v then a
    else (a.setIce { a.ice with forced := some v, fallCount := 0 }).setLevel e v cause

/-- R151: the ice mode changed. -/
def Act.iceModeChanged (e : Env) (a : Act) : Act := a.reforce e

/-- R152: threshold T(n). -/
def Loaded.threshold (c : Loaded) : Nat → Nat
  | 1 => c.t1
  | 2 => c.t2
  | _ => c.t3

/-- R152: the highest n for which the rate is at least Tn. -/
def Loaded.levelFor (c : Loaded) (rate : Nat) : Nat :=
  if c.t3 ≤ rate then 3 else if c.t2 ≤ rate then 2 else if c.t1 ≤ rate then 1 else 0

/-- R152: the fall bound of a level. -/
def Loaded.fallBound (c : Loaded) (level : Nat) : Nat := max 1 (c.threshold level - c.hysteresis)

/-- R152: the level at an interval end at which it is not forced. -/
def Act.evaluateLevel (e : Env) (c : Loaded) (a : Act) : Act :=
  let l := a.ice.level
  let rate := a.ice.trainRate
  if l < 3 ∧ c.threshold (l + 1) ≤ rate then
    (a.setIce { a.ice with fallCount := 0 }).setLevel e (c.levelFor rate) 1
  else if 1 ≤ l ∧ rate < c.fallBound l then
    if 30 ≤ a.ice.fallCount + 1 then (a.setIce { a.ice with fallCount := 0 }).setLevel e (l - 1) 2
    else a.setIce { a.ice with fallCount := a.ice.fallCount + 1 }
  else a.setIce { a.ice with fallCount := 0 }

/-- R150: a reading of the temperature input. -/
def Act.takeReading (t : Int) (a : Act) : Act :=
  if -50 ≤ t ∧ t ≤ 100 then a.setIce { a.ice with lastTemp := some t, readingTaken := true }
  else
    let first := a.ice.readingTaken
    let a := a.setIce { a.ice with readingTaken := false }
    if first then a.log .tempInvalid 255 (i16 t) 0 else a

/-- R149: the arc rates of the FRESH roof entries. -/
def PeerView.freshRates (v : PeerView) : List Nat :=
  v.table.filterMap fun p =>
    match p.last with
    | .roof q => if p.fresh then some q.arcRate.toNat else none
    | .cab _ => none

/-- R148 to R152: an interval end. A level that is forced, or that was forced up to this interval end, is not evaluated: R152
applies from the next interval end (R151). -/
def Act.intervalEnd (e : Env) (a : Act) : Act :=
  let own := max a.ice.arcs.zero a.ice.arcs.one
  let before := a.ice.forced
  let a :=
    a.setIce
      { a.ice with
        arcs := ⟨0, 0⟩, intervalTimer := some 1000, ownRate := own
        trainRate := e.pv.freshRates.foldl max own }
  let a := (a.takeReading e.pins.temperature).reforce e
  match e.cfg with
  | some c => if before.isNone && a.ice.forced.isNone then a.evaluateLevel e c else a
  | none => a

/-- R153: an ALERT DROPPED of another station is delivered. -/
def Act.peerDropped (e : Env) (a : Act) : Act :=
  if 1 ≤ a.ice.level ∧ a.ice.forced = none then (a.setIce { a.ice with fallCount := 0 }).setLevel e 3 6 else a

/-! ### Heat (R155, R156) -/

/-- R155: the heaters asked for, in the order in which they are kept. -/
def Act.heatDemand (a : Act) : List Heater :=
  let heads (d : Duty) (f : Slot → Heater) : List Heater :=
    ([Slot.zero, Slot.one].filter fun i => decide ((a.slots.get i).duty = d)).map f
  (if 1 ≤ a.ice.level then heads .collect .collectorHead ++ heads .scrape .scraperHead else [])
    ++ (if 2 ≤ a.ice.level then [.insulator] else [])

/-- R156: heatBudget divided by the number of roof stations in view. -/
def Env.heatShare (e : Env) : Nat :=
  match e.cfg with
  | some c => c.heatBudget / (1 + e.pv.roofs.length)
  | none => 0

/-- HEAT_SHED's codes: 1 insulator, 2 scraper head, 4 collector head. -/
def Heater.code : Heater → Nat
  | .insulator => 1
  | .scraperHead _ => 2
  | .collectorHead _ => 4

/-- R155, R156: the heat is re-reckoned. -/
def Act.reheat (e : Env) (a : Act) : Act :=
  let demand := a.heatDemand
  let share := e.heatShare
  let shed := demand.drop share
  let old := a.ice.shed
  let a := a.setIce { a.ice with heaters := demand.take share, shed := shed }
  if shed = old then a
  else
    a.log .heatShed 255 (n16 (shed.foldl (fun n h => n + h.code) 0)) (n32 (halves2 share demand.length))

/-! ### The scraper candidate (R157) -/

/-- R157: a slot of the train as it is judged. -/
structure TrainSlot where
  place : Placed
  head : HeadType
  locked : Bool
  latch : Bool
  duty : Duty
  deriving DecidableEq, Repr

/-- The slots of the train: the own two and those of each roof entry. -/
def Act.trainSlots (e : Env) (a : Act) : List TrainSlot :=
  let own (i : Slot) : TrainSlot :=
    let r := a.slots.get i
    { place := a.bidPlace e i, head := r.head, locked := r.locked, latch := r.latch, duty := r.duty }
  let peer (n : Nat) (q : RoofPayload) (i : Slot) : TrainSlot :=
    let r := q.slots.get i
    { place := { dfront := e.dfront r.dA.toNat, address := n, slot := i }, head := r.head, locked := r.locked
      latch := r.latch, duty := r.duty }
  [own .zero, own .one] ++ e.pv.roofs.flatMap fun (n, q) => [peer n q .zero, peer n q .one]

/-- The frontmost of some slots: the smallest Dfront, ties under R89. -/
def frontmost : List TrainSlot → Option TrainSlot
  | [] => none
  | x :: rest =>
    match frontmost rest with
    | none => some x
    | some y => if y.place.outranks .scrape x.place then some y else some x

/-- R160, R139: a notice requires a scraper with that head lowered; the same is asked of every slot in LOWERING. -/
def Act.requiresLowered (e : Env) (n : Notice) (h : HeadType) (a : Act) : Bool :=
  decide (n.kind = .lowerZone) || !a.headBeyond e n h

/-- R160: the scraper point of a notice is reached at a track position. -/
def scraperPointReached (e : Env) (h : HeldNotice) (position : Nat) : Bool :=
  h.late || e.pointReached h.notice.start.toNat position

/-- R157: the conditions a slot must meet to be the candidate. -/
def Act.mayScrape (e : Env) (p : Profile) (nearest : Nat) (x : TrainSlot) (a : Act) : Bool :=
  p.heads.permits x.head && !x.locked && !x.latch && decide (x.duty ≠ .collect)
    && decide (x.place.dfront + p.scrapeSpacing ≤ nearest)
    && a.notices.held.all fun h => !(h.pointReached && a.requiresLowered e h.notice x.head)

/-- R157: the candidate as it is recomputed. -/
def Act.chosenCandidate (e : Env) (a : Act) : Option TrainSlot :=
  match a.active e, (a.inView e .collect).map (·.dfront) with
  | some p, d :: ds =>
    if a.ice.level = 3 ∧ p.scrapeAllowed ∧ e.pv.geometry.known then
      frontmost ((a.trainSlots e).filter fun x => a.mayScrape e p (ds.foldl min d) x)
    else none
  | _, _ => none

def TrainSlot.name (x : TrainSlot) : Nat × Slot := (x.place.address, x.place.slot)

/-- R157: the candidate is recomputed; a change is logged and reported to the Bid Unit. Where it becomes none the record's Dfront
is 0 (log 37). -/
def Act.recandidate (e : Env) (a : Act) : Act :=
  let x := a.chosenCandidate e
  let new := x.map TrainSlot.name
  if new = a.ice.candidate then a
  else
    let address := match x with | some y => y.place.address | none => 0
    let dfront := match x with | some y => y.place.dfront | none => 0
    let slot := x.map fun y => y.place.slot
    ((a.setIce { a.ice with candidate := new }).log .scraperCandidate address (n16 (optSlotCode slot))
      (n32 dfront)).evalDue

/-- R158: the slot for which the Ice Unit wants a SCRAPE request to stand. It is wanted no more from the commit on, at which the
RISING slot takes duty SCRAPE (the model's reading of R158's second condition, log 40). -/
def Act.scrapeWanted (a : Act) : Option Slot :=
  match a.ice.candidate, a.link.address with
  | some (n, i), some own =>
    if n = own ∧ a.slots.zero.duty ≠ .scrape ∧ a.slots.one.duty ≠ .scrape then some i else none
  | _, _ => none

/-- R158: the SCRAPE request is placed or withdrawn. -/
def Act.rerequest (e : Env) (a : Act) : Act :=
  match a.scrapeWanted with
  | some i => if a.bids.scrapeRequest = some i then a else a.placeRequest e .scrape i
  | none => if a.bids.scrapeRequest.isSome then a.withdrawRequest e .scrape else a

/-- The Ice Unit's review at the end of an event: heat, candidate, request. -/
def Act.reviewIce (e : Env) (a : Act) : Act :=
  let a := { a with inbox := { a.inbox with iceDue := false } }
  ((a.reheat e).recandidate e).rerequest e

/-! ### Scraper points (R157, R160) -/

/-- R157: the scraper-point flags that the train's frontmost slot sets. -/
def Act.setPointFlags (e : Env) (a : Act) : Act :=
  match frontmost (a.trainSlots e) with
  | none => a
  | some x =>
    let position := e.front - x.place.dfront
    a.setHeld
      (a.notices.held.map fun h =>
        if scraperPointReached e h position then { h with pointReached := true } else h)

/-- R160: whether a notice retracts the scraper of an own slot. -/
def Act.noticeRetracts (e : Env) (i : Slot) (a : Act) : Bool :=
  (a.notices.currentNotice.toList ++ a.notices.next.toList).any fun h =>
    a.requiresLowered e h.notice (a.slots.get i).head && scraperPointReached e h (a.track e i)

/-- R157, R160: what the Ice Unit does at a review-timer expiry or a notice report. -/
def Act.iceNotices (e : Env) (a : Act) : Act :=
  ((a.setPointFlags e).retractScrapers e (fun i a => a.noticeRetracts e i) 6).iceDue

end Sys2Proof.Machine
end

