-- ==== Sys2Proof/Machine/Sequencer.lean ====
section
/-! DEFINITION. The Roof Sequencer (R123 to R146): its requests, the entry of each state, and what it does at each report and
timer. Each state's entry function is written after those of the states it may pass on to at once. -/

namespace Sys2Proof.Machine

def Act.setSeq (q : Sequencer) (a : Act) : Act := { a with seq := q }

/-! ### Requests (R124) -/

/-- R124: a request made for the present state and phase, whose answer is awaited. -/
def Act.ask (e : Env) (q : Request) (a : Act) : Act :=
  let who := [Requester.sequencer a.seq.visit]
  let a := a.setSeq { a.seq with awaiting := a.seq.awaiting ++ [q] }
  match q with
  | .moveSelector y => a.moveSelector e y who
  | .closeIsolator i => a.closeIsolator i who
  | .openIsolator i => a.openIsolator e i who
  | .closeBreaker => a.closeBreaker e who
  | .openBreaker => a.openBreaker e who
  | .roofTest => a.requestTest who
  | .lower i => a.lower e i who

/-- The id of the notice copy, 0 for none. -/
def Sequencer.copyId (q : Sequencer) : Nat :=
  match q.notice with
  | some h => h.notice.id.toNat
  | none => 0

/-- The sequencer's report of a change of its state or current notice: the active profile is recomputed (R95), the Ice Unit
reviews, the Bid Unit evaluates (R105, R123). -/
def Act.seqReported (e : Env) (a : Act) : Act := ((a.recomputeProfile e).iceDue).evalDue

/-- The notice copy is taken or dropped. -/
def Act.setCopy (e : Env) (n : Option HeldNotice) (a : Act) : Act :=
  (a.setSeq { a.seq with notice := n }).seqReported e

/-! ### Leaving and entering a state (R123, R129) -/

/-- R129 on leaving RAISING; the no-supply timer stops on leaving SENSING (log 19). -/
def Act.leaveState (e : Env) (a : Act) : Act :=
  match a.seq.state with
  | .raising =>
    (a.setSeq { a.seq with powerlessTimer := none, powerless := false, committed := false }).withdrawRequest e
      .collect
  | .sensing => a.setSeq { a.seq with noSupplyTimer := none }
  | _ => a

/-- A new state or phase: answers to the requests of the one before are late from here on. -/
def Act.goTo (st : SeqState) (a : Act) : Act :=
  a.setSeq { a.seq with state := st, visit := a.seq.visit + 1, awaiting := [] }

/-- R123: a change of state with its entry actions; SEQ_STATE is logged with the record as they leave it (log 12). `why` is the
HELD reason or DORMANT cause, 0 otherwise. -/
def Act.enter (e : Env) (st : SeqState) (why : Nat) (entry : Act → Act) (a : Act) : Act :=
  let old := a.seq.state.toCode.code
  let a := entry ((a.leaveState e).goTo st)
  let a :=
    a.log .seqState a.seq.copyId (n16 (bytes2 st.toCode.code old))
      (n32 (bytes2 (optSupplyCode a.seq.target) why))
  a.seqReported e

/-- R125, R143: every timer of the sequencer but the review timer is stopped. -/
def Sequencer.stopTimers (q : Sequencer) : Sequencer :=
  { q with
    retryTimer := none, testRetryTimer := none, powerlessTimer := none, noSupplyTimer := none, recloseHold := none
    retry := none }

/-- R125: DORMANT, for a cause. -/
def Act.enterDormant (e : Env) (cause : Nat) (a : Act) : Act :=
  a.enter e .dormant cause fun a =>
    let a := a.withdrawRequest e .collect
    let a := ((a.openBreaker e []).openIsolator e .zero []).openIsolator e .one []
    let a := (a.lower e .zero []).lower e .one []
    let a := a.clearMark
    a.setSeq
      { a.seq.stopTimers with
        notice := none, powerless := false, committed := false, reselectUsed := false, tripMarker := false
        target := none, collector := none }

/-- R143: HELD, for a reason. -/
def Act.enterHeld (e : Env) (r : HeldReason) (a : Act) : Act :=
  a.enter e (.held r) r.code fun a =>
    let a := (a.withdrawRequest e .collect).openBreaker e []
    let a := a.clearMark
    let a := a.setSeq { a.seq.stopTimers with notice := none, powerless := false, tripMarker := false }
    a.alert .held none

/-- R128: PREPARE, in CLEARING. -/
def Act.enterPrepare (e : Env) (a : Act) : Act :=
  a.enter e (.prepare .clearing) 0 fun a =>
    let a := a.setSeq { a.seq with testCount := 0 }
    ((a.ask e .openBreaker).ask e (.openIsolator .zero)).ask e (.openIsolator .one)

/-- R130: CONNECTING. -/
def Act.enterConnecting (e : Env) (a : Act) : Act :=
  a.enter e .connecting 0 fun a =>
    match a.seq.collector with
    | some i => a.ask e (.closeIsolator i)
    | none => a

/-- R133: CLOSING. -/
def Act.enterClosing (e : Env) (a : Act) : Act := a.enter e .closing 0 fun a => a.ask e .closeBreaker

/-- R133, R145: RUNNING; the copy of a notice that has retired is dropped. -/
def Act.enterRunning (e : Env) (a : Act) : Act :=
  a.enter e .running 0 fun a =>
    a.setSeq
      { a.seq with
        tripMarker := false, reselectUsed := false
        notice := if a.notices.current.isNone then none else a.seq.notice }

/-! ### Choosing the collector (R127) -/

def SlotRec.collecting (r : SlotRec) : Bool := decide (r.lift = .up) && decide (r.duty = .collect)

/-- R138, R140: a slot's track position lies beyond a notice's end + 50 dm. -/
def Act.beyond (e : Env) (n : Notice) (i : Slot) (a : Act) : Bool := decide (n.stop.toNat + 50 < a.track e i)

/-- R127, R137: the heads beyond of the notice copy decide when present, otherwise the profile of the target system. -/
def Act.headForTarget (e : Env) (target : Option Supply) (h : HeadType) (a : Act) : Bool :=
  match a.seq.notice with
  | some c => match c.notice.heads with
    | some s => s.permits h
    | none => profilePermits (e.profile target) h
  | none => profilePermits (e.profile target) h

/-- R127. -/
def Act.eligible (e : Env) (target : Option Supply) (i : Slot) (a : Act) : Bool :=
  let r := a.slots.get i
  !r.locked && !r.latch && (decide (r.lift = .down) || r.collecting) && a.headForTarget e target r.head
    && (match a.seq.notice with
        | some c => a.beyond e c.notice i
        | none => true)

/-- R127: the first of its three choices that applies. -/
def Act.chooseCollector (e : Env) (a : Act) : Option Slot :=
  let ok (i : Slot) : Bool := a.eligible e a.seq.target i
  match [Slot.zero, Slot.one].find? fun i => (a.slots.get i).collecting && ok i with
  | some i => some i
  | none => match a.preferred.filter ok with
    | some i => some i
    | none =>
      if ok .zero ∧ (!ok .one ∨ a.dfront e .one ≤ a.dfront e .zero) then some .zero
      else if ok .one then some .one
      else none

def Act.collectingNow (i : Option Slot) (a : Act) : Bool :=
  match i with
  | some i => (a.slots.get i).collecting
  | none => false

def Act.setCollector (i : Option Slot) (a : Act) : Act := a.setSeq { a.seq with collector := i }

/-- The COLLECT request follows the choice: placed, or withdrawn where none is chosen. -/
def Act.requestCollector (e : Env) (a : Act) : Act :=
  match a.seq.collector with
  | some i => a.placeRequest e .collect i
  | none => a.withdrawRequest e .collect

/-! ### RAISING (R129) -/

/-- R129: RAISING; CONNECTING at once where the chosen slot is UP with duty COLLECT. -/
def Act.enterRaising (e : Env) (a : Act) : Act :=
  let a :=
    a.enter e .raising 0 fun a =>
      let a := a.setSeq { a.seq with collector := a.chooseCollector e, powerlessTimer := some 10000 }
      if a.collectingNow a.seq.collector then a else a.requestCollector e
  if a.collectingNow a.seq.collector then a.enterConnecting e else a

/-- R129: the collector is chosen again; `always` after a FAILED raise, when the request is placed afresh in any case. A choice
that is UP with duty COLLECT connects (log 14). -/
def Act.rechoose (e : Env) (always : Bool) (a : Act) : Act :=
  let new := a.chooseCollector e
  if a.collectingNow new then (a.setCollector new).enterConnecting e
  else if new = a.seq.collector ∧ !always then a
  else (a.setCollector new).requestCollector e

/-! ### SENSING and RESELECT (R131, R132) -/

/-- R132: RESELECT. -/
def Act.enterReselect (e : Env) (y : Supply) (a : Act) : Act :=
  let a :=
    a.enter e .reselect 0 fun a =>
      let a := a.setSeq { a.seq with reselectUsed := true, target := some y }
      match a.seq.collector with
      | none => a
      | some i =>
        let a := a.ask e (.openIsolator i)
        if profilePermits (e.profile (some y)) (a.slots.get i).head then a
        else (a.lower e i []).setCollector none
  if a.seq.awaiting.isEmpty then a.enterPrepare e else a

/-- R131: the announced system. -/
def Act.announced (e : Env) (a : Act) : Option Supply :=
  match a.seq.notice with
  | some c => match c.notice.beyond with
    | some y => some y
    | none => e.pv.expected
  | none => e.pv.expected

/-- R131: CLOSING, with SYSTEM_MISMATCH where the announced system differs. It is written before the SEQ_STATE of CLOSING, while the
state is still the old one (the model's choice, log 44). -/
def Act.closeFor (e : Env) (y : Supply) (a : Act) : Act :=
  let a :=
    match a.announced e with
    | some x => if x = y then a else a.log .systemMismatch a.seq.copyId (n16 y.code) (n32 x.code)
    | none => a
  a.enterClosing e

/-- R131: the table, read at entry, at each change of the confirmed system and at the end of the reclose hold. -/
def Act.sense (e : Env) (a : Act) : Act :=
  match e.cls.confirmed with
  | .noSystem => a
  | .indeterminate => a.enterHeld e .indeterminate
  | .system y =>
    if a.selector.state.position = some y then (if a.seq.recloseHold.isSome then a else a.closeFor e y)
    else if a.seq.reselectUsed then a.enterHeld e .secondMismatch
    else a.enterReselect e y

/-- R131: the no-supply timer starts when the confirmed system is found NONE and stops when it is not. -/
def Act.noSupplyTimed (e : Env) (a : Act) : Act :=
  a.setSeq { a.seq with noSupplyTimer := if e.cls.confirmed = .noSystem then some 10000 else none }

/-- R131: SENSING. -/
def Act.enterSensing (e : Env) (a : Act) : Act :=
  (a.enter e .sensing 0 fun a => a.noSupplyTimed e).sense e

/-! ### Passing a notice (R137 to R140) -/

/-- R140: the wait of GAP in WAITING. -/
def Act.gapWait (e : Env) (a : Act) : Act :=
  match a.seq.notice, a.seq.collector with
  | some c, some i =>
    if a.beyond e c.notice i then
      (if (a.slots.get i).collecting ∧ a.headBeyond e c.notice (a.slots.get i).head then a.enterConnecting e
      else a.enterRaising e)
    else a
  | _, _ => a.enterRaising e

/-- R140: GAP, in WAITING. -/
def Act.enterGapWaiting (e : Env) (a : Act) : Act := (a.enter e (.gap .waiting) 0 id).gapWait e

/-- A roof test request, which increments the test count (R128). -/
def Act.askTest (e : Env) (a : Act) : Act :=
  (a.setSeq { a.seq with testCount := a.seq.testCount + 1 }).ask e .roofTest

/-- R140: GAP; the system beyond is selected first where it differs from the selector's position. -/
def Act.enterGap (e : Env) (a : Act) : Act :=
  match a.seq.notice with
  | some c =>
    match c.notice.kind, c.notice.beyond with
    | .systemGap, some y =>
      if a.selector.state.position = some y then a.enterGapWaiting e
      else
        a.enter e (.gap .testing) 0 fun a =>
          (a.setSeq { a.seq with target := some y, testCount := 0 }).askTest e
    | _, _ => a.enterGapWaiting e
  | none => a.enterGapWaiting e

/-- R43: RISING or UP, the lift states in which a lower request is taken. -/
def SlotRec.raised (r : SlotRec) : Bool := decide (r.lift = .rising) || decide (r.lift = .up)

/-- R160: the slot is LOWERING at the Ice Unit's request. -/
def SlotRec.iceLowers (r : SlotRec) : Bool :=
  match r.lift with
  | .lowering _ => r.lowerWaiters.contains .iceUnit
  | .down | .rising | .up | .dropped => false

/-- R139: the slots RISING or UP that must come down for a notice. -/
def Act.mustLower (e : Env) (n : Notice) (a : Act) : List Slot :=
  [Slot.zero, Slot.one].filter fun i =>
    (a.slots.get i).raised && a.requiresLowered e n (a.slots.get i).head

/-- R139, R160: the slots for which lower requests are made at entry to LOWERING: those of `Act.mustLower`, and a scraper that the
Ice Unit is lowering, whose request is joined. No other slot that is LOWERING already is asked (the model's reading, log 36). -/
def Act.lowerRequests (e : Env) (n : Notice) (a : Act) : List Slot :=
  [Slot.zero, Slot.one].filter fun i =>
    ((a.slots.get i).raised || (a.slots.get i).iceLowers) && a.requiresLowered e n (a.slots.get i).head

/-- R139: LOWERING. -/
def Act.enterLowering (e : Env) (a : Act) : Act :=
  let down := match a.seq.notice with | some c => a.lowerRequests e c.notice | none => []
  let a := a.enter e .lowering 0 fun a => down.foldl (fun a i => a.ask e (.lower i)) a
  if a.seq.awaiting.isEmpty then a.enterGap e else a

/-- R139: what follows ISOLATING. A scraper that is LOWERING already does not bring LOWERING by itself (log 36). -/
def Act.isolated (e : Env) (a : Act) : Act :=
  match a.seq.notice with
  | some c =>
    if c.notice.kind = .lowerZone ∨ a.mustLower e c.notice ≠ [] then a.enterLowering e else a.enterGap e
  | none => a.enterGap e

/-- R139: ISOLATING. -/
def Act.enterIsolating (e : Env) (a : Act) : Act :=
  let a :=
    a.enter e .isolating 0 fun a =>
      match a.seq.collector with
      | some i => a.ask e (.openIsolator i)
      | none => a
  if a.seq.awaiting.isEmpty then a.isolated e else a

/-- R138: the wait of COASTING. -/
def Act.coastWait (e : Env) (a : Act) : Act :=
  match a.seq.notice, a.seq.collector with
  | some c, some i =>
    if a.beyond e c.notice i then
      (if (a.isolators.get i).state = .closed then a.enterSensing e else a.enterConnecting e)
    else a
  | _, _ => a

/-- R138: COASTING. -/
def Act.enterCoasting (e : Env) (a : Act) : Act := (a.enter e .coasting 0 id).coastWait e

/-- R137: the breaker request of OPENING is answered DONE. -/
def Act.opened (e : Env) (a : Act) : Act :=
  match a.seq.notice, a.seq.collector with
  | some c, some i =>
    if c.notice.kind = .phaseGap ∧ (a.slots.get i).collecting
        ∧ a.headForTarget e a.seq.target (a.slots.get i).head then a.enterCoasting e
    else a.enterIsolating e
  | _, _ => a.enterIsolating e

/-- R137: OPENING for the notice of that id. -/
def Act.enterOpening (e : Env) (id : Byte) (a : Act) : Act :=
  let marked := (a.markNotice id).1.isSome
  let a :=
    a.enter e .opening 0 fun a =>
      let a := a.setSeq { a.seq with reselectUsed := false }
      let (copy, a) := a.markNotice id
      let a := match copy with
        | some c => a.setSeq { a.seq with notice := some c }
        | none => a
      a.ask e .openBreaker
  if marked then a
  else match a.seq.collector with
    | some i =>
      if (a.slots.get i).collecting ∧ (a.isolators.get i).state = .closed then a.enterSensing e
      else a.enterRaising e
    | none => a.enterRaising e

/-! ### Open points (R134, R135, R141, R143) -/

/-- R134: the position that is held against a notice's start: that of the station's frontmost raised slot, or of its frontmost
slot where none is raised. -/
def Act.frontRaised (e : Env) (a : Act) : Nat :=
  let raised (i : Slot) : Bool :=
    match (a.slots.get i).lift with
    | .rising | .up | .lowering _ => true
    | .down | .dropped => false
  match raised .zero, raised .one with
  | true, false => a.track e .zero
  | false, true => a.track e .one
  | _, _ => a.frontPosition e

/-- R134. -/
def Act.openPointReached (e : Env) (h : HeldNotice) (a : Act) : Bool :=
  h.late || e.pointReached h.notice.start.toNat (a.frontRaised e)

/-- R134: the test of the next notice's open point, with what each state does (R135, R141, R143). -/
def Act.testOpenPoint (e : Env) (a : Act) : Act :=
  match a.notices.next with
  | none => a
  | some h =>
    if a.openPointReached e h then
      match a.seq.state with
      | .running | .raising | .connecting | .sensing | .closing => a.enterOpening e h.notice.id
      | .held _ => (a.mustLower e h.notice).foldl (fun a i => a.lower e i []) a
      | .dormant | .prepare _ | .reselect | .opening | .coasting | .isolating | .lowering | .gap _ => a
    else a

/-- The positions may have moved: the waits of COASTING and GAP (log 13), and the open point. At an event that ends such a wait
the open point is not tested as well, but at the next event of R134 (log 33). -/
def Act.positionsMoved (e : Env) (a : Act) : Act :=
  match a.seq.state with
  | .coasting => a.coastWait e
  | .gap .waiting => a.gapWait e
  | _ => a.testOpenPoint e

/-! ### Leaving DORMANT (R126) -/

def Act.leaveDormant (e : Env) (a : Act) : Act :=
  match a.seq.state, a.bids.profile with
  | .dormant, some y =>
    if a.startup.mode = .ready ∧ e.pv.permit ∧ a.breaker.state ≠ .lockout
        ∧ (a.eligible e (some y) .zero ∨ a.eligible e (some y) .one) then
      (a.setSeq { a.seq with target := some y, reselectUsed := false }).enterPrepare e
    else a
  | _, _ => a

/-! ### Going to DORMANT (R125) -/

/-- R125: the DORMANT cause a report brings, 0 for none. -/
def Act.dormantCause (e : Env) (a : Act) : Report → Nat
  | .permitChanged => if e.pv.permit then 0 else 1
  | .holdLost => 2
  | .modeChanged => if a.startup.mode = .ready then 0 else 3
  | .muteTaken => 4
  | .lockAll => 5
  | _ => 0

/-- R125: where several causes come at one event, the highest code among them is carried. -/
def Act.goDormant (e : Env) (r : Report) (a : Act) : Act :=
  let cause := a.inbox.reports.foldl (fun n x => max n (a.dormantCause e x)) (a.dormantCause e r)
  if a.seq.state = .dormant ∨ cause = 0 then a else a.enterDormant e cause

/-! ### Answers (R124, R128 to R140) -/

/-- R128: a roof test's result in TESTING; `pass` is what NORMAL leads to. -/
def Act.testAnswered (e : Env) (r : TestResult) (pass : Act → Act) (a : Act) : Act :=
  match r with
  | .normal => pass a
  | .invalid =>
    if a.seq.testCount < 4 then a.setSeq { a.seq with testRetryTimer := some 200 }
    else a.enterHeld e .roofTestInvalid
  | .broken | .earth | .noEcho => (a.alert .roofFault none).enterHeld e .roofFault
  | .none => a

/-- SELECTING in PREPARE or GAP: a move request for the target system. -/
def Act.askMove (e : Env) (a : Act) : Act :=
  match a.seq.target with
  | some y => a.ask e (.moveSelector y)
  | none => a

/-- R128: the move of SELECTING is answered DONE. -/
def Act.selected (e : Env) (a : Act) : Act :=
  let c := a.chooseCollector e
  if a.collectingNow c then (a.setCollector c).enterConnecting e else a.enterRaising e

/-- R124: the reason of an isolator in FAULT. -/
def Act.faultedIsolator (i : Slot) (a : Act) : Option HeldReason :=
  if (a.isolators.get i).state = .fault then some .isolatorFault else none

/-- R124: the reason of a selector or an isolator in FAULT, the selector first (the model's choice, log 51). -/
def Act.faultedDevice (a : Act) : Option HeldReason :=
  if a.selector.state = .fault then some .selectorFault else (a.faultedIsolator .zero).or (a.faultedIsolator .one)

/-- R124: the HELD reason of a refusal among whose causes is a device that cannot act: a selector or an isolator in FAULT (R21, R24,
R28) or, for a close of the breaker, LOCKOUT (R28), be it the device asked for or another that the interlock reads (log 15). The
device asked for goes first (the model's choice, log 51). -/
def Act.unableDevice (q : Request) (a : Act) : Option HeldReason :=
  match q with
  | .moveSelector _ => a.faultedDevice
  | .closeIsolator i => (a.faultedIsolator i).or a.faultedDevice
  | .closeBreaker => if a.breaker.state = .lockout then some .lockout else a.faultedDevice
  | .openIsolator _ | .openBreaker | .roofTest | .lower _ => none

/-- R124: a refusal; a device that cannot act leads to HELD, any other cause to a retry. The last four requests are never refused
(R19, R36, R43). -/
def Act.seqRefused (e : Env) (q : Request) (a : Act) : Act :=
  match q with
  | .moveSelector _ | .closeIsolator _ | .closeBreaker =>
    match a.unableDevice q with
    | some r => a.enterHeld e r
    | none => a.setSeq { a.seq with retryTimer := some 100, retry := some (q, a.seq.visit) }
  | .openIsolator _ | .openBreaker | .roofTest | .lower _ => a

/-- An answer other than REFUSED, by the state it reaches. -/
def Act.seqDone (e : Env) (q : Request) (ans : Answer) (a : Act) : Act :=
  match a.seq.state, q, ans with
  | .prepare .clearing, _, .done =>
    if a.seq.awaiting.isEmpty then (a.goTo (.prepare .testing)).askTest e else a
  | .prepare .testing, .roofTest, .tested r =>
    a.testAnswered e r fun a => (a.goTo (.prepare .selecting)).askMove e
  | .gap .testing, .roofTest, .tested r =>
    a.testAnswered e r fun a => (a.goTo (.gap .selecting)).askMove e
  | .prepare .selecting, .moveSelector _, .done => a.selected e
  | .gap .selecting, .moveSelector _, .done => (a.goTo (.gap .waiting)).gapWait e
  | .connecting, .closeIsolator _, .done => a.enterSensing e
  | .reselect, .openIsolator _, .done => a.enterPrepare e
  | .closing, .closeBreaker, .done => a.enterRunning e
  | .opening, .openBreaker, .done => a.opened e
  | .isolating, .openIsolator _, .done => a.isolated e
  | .lowering, .lower _, _ => if a.seq.awaiting.isEmpty then a.enterGap e else a
  | _, _, _ => a

/-- R124: an answer that reaches the sequencer; one to a request of an earlier state or phase is ignored. -/
def Act.seqAnswered (e : Env) (visit : Nat) (q : Request) (ans : Answer) (a : Act) : Act :=
  if visit = a.seq.visit then
    let a := a.setSeq { a.seq with awaiting := a.seq.awaiting.filter fun x => x ≠ q }
    if ans = .refused then a.seqRefused e q else a.seqDone e q ans
  else a

/-- R124: the state's rule still names the device and target of a request. -/
def Act.stillNamed (q : Request) (a : Act) : Bool :=
  match q with
  | .moveSelector y => decide (a.seq.target = some y)
  | .closeIsolator i => decide (a.seq.collector = some i)
  | .openIsolator _ | .closeBreaker | .openBreaker | .roofTest | .lower _ => true

/-! ### Timers -/

/-- R124: the retry timer has expired. -/
def Act.retryExpired (e : Env) (a : Act) : Act :=
  let old := a.seq.retry
  let a := a.setSeq { a.seq with retryTimer := none, retry := none }
  match old with
  | some (q, visit) => if visit = a.seq.visit ∧ a.stillNamed q then a.ask e q else a
  | none => a

/-- R128: the test retry timer has expired. -/
def Act.testRetryExpired (e : Env) (a : Act) : Act :=
  let a := a.setSeq { a.seq with testRetryTimer := none }
  match a.seq.state with
  | .prepare .testing | .gap .testing => a.askTest e
  | _ => a

/-- R129: the powerless timer has expired. -/
def Act.powerlessExpired (a : Act) : Act :=
  let a := a.setSeq { a.seq with powerlessTimer := none }
  match a.seq.state with
  | .raising =>
    (a.setSeq { a.seq with powerless := true }).log .powerless 255 (n16 (optSlotCode a.seq.collector)) 0
  | _ => a

/-- R131: the no-supply timer has expired. -/
def Act.noSupplyExpired (a : Act) : Act :=
  let a := a.setSeq { a.seq with noSupplyTimer := none }
  match a.seq.state with
  | .sensing => (a.log .noSupply 255 (n16 a.selector.state.toCode.code) (n32 10000)).alert .noSupply none
  | _ => a

/-- R131, R136: the reclose hold has expired. -/
def Act.recloseHoldExpired (e : Env) (a : Act) : Act :=
  let a := a.setSeq { a.seq with recloseHold := none }
  match a.seq.state with
  | .sensing => a.sense e
  | _ => a

/-- R134: the review timer has expired. -/
def Act.seqReview (e : Env) (a : Act) : Act := (a.setSeq { a.seq with reviewTimer := some 10 }).positionsMoved e

/-! ### Reports -/

/-- R124: a fault report of the Switchgear Interlock. -/
def Act.seqFault (e : Env) (r : HeldReason) (a : Act) : Act :=
  match a.seq.state with
  | .dormant | .held _ => a
  | _ => a.enterHeld e r

/-- R124: a forced opening changes nothing of itself. Reasons 2 and 3 add nothing to the FAULT at their event; reason 1 marks a
change of the confirmed system, which `Act.seqConfirmed` meets (R135), and reason 4 a lowering collector, which
`Act.collectorLost` meets (R142). -/
def Act.seqForced (_reason : Nat) (a : Act) : Act := a

/-- R136: a trip without LOCKOUT. -/
def Act.seqTrip (e : Env) (a : Act) : Act :=
  match a.seq.state with
  | .running =>
    (a.setSeq { a.seq with tripMarker := true, recloseHold := some 1000, reselectUsed := false }).enterSensing e
  | _ => a

/-- R131, R133, R135: the confirmed system changed. -/
def Act.seqConfirmed (e : Env) (a : Act) : Act :=
  match a.seq.state with
  | .running => (a.setSeq { a.seq with reselectUsed := false }).enterSensing e
  | .closing => a.enterSensing e
  | .sensing => (a.noSupplyTimed e).sense e
  | _ => a

/-- R129: a change that lets RAISING choose again while committed is clear. -/
def Act.seqRechoice (e : Env) (a : Act) : Act :=
  match a.seq.state with
  | .raising => if a.seq.committed then a else a.rechoose e false
  | _ => a

/-- R142: the collector is lost. -/
def Act.collectorLost (e : Env) (a : Act) : Act :=
  match a.seq.state with
  | .connecting | .sensing | .closing | .running =>
    (a.setSeq { a.seq with tripMarker := false, recloseHold := none }).enterRaising e
  | .coasting => a.enterGapWaiting e
  | _ => a

/-- R126, R129, R134, R142: a slot change. Where it loses the collector and is an event of R134 as well, the manual gives no order:
R142's change of state comes first, and the open point is tested in the state then entered (the model's choice, log 48). -/
def Act.seqSlotChanged (e : Env) (i : Slot) (a : Act) : Act :=
  let a := if a.seq.collector = some i ∧ !(a.slots.get i).collecting then a.collectorLost e else a
  ((a.leaveDormant e).seqRechoice e).testOpenPoint e

/-- R129: an outcome of the COLLECT request. -/
def Act.seqOutcome (e : Env) (o : Outcome) (a : Act) : Act :=
  match a.seq.state, o with
  | .raising, .opened => a.setSeq { a.seq with powerlessTimer := some 10000, powerless := false }
  | .raising, .won => a.setSeq { a.seq with committed := true }
  | .raising, .raised =>
    if a.seq.committed then (a.setSeq { a.seq with committed := false }).enterConnecting e else a
  | .raising, .failed =>
    if a.seq.committed then (a.setSeq { a.seq with committed := false }).rechoose e true else a
  | _, _ => a

/-- The states of a passage that R145 names. -/
def SeqState.passing : SeqState → Bool
  | .opening | .coasting | .isolating | .lowering | .gap _ => true
  | _ => false

/-- R145: the current notice retired. In a state the rule does not name the copy is dropped, also where a wait ended at the same
review before (the model's reading, against a note of chapter 12, log 45). -/
def Act.seqRetired (e : Env) (a : Act) : Act :=
  if a.seq.state.passing then a else (a.setCopy e none).seqRechoice e

/-- R145: the queue was flushed. -/
def Act.seqFlushed (e : Env) (a : Act) : Act :=
  if a.seq.state.passing then a.enterHeld e .passageBroken else (a.setCopy e none).seqRechoice e

/-! ### RESUME (R144) -/

/-- R144: the reason for which a RESUME is refused; where several conditions fail, the first in the order of the reasons (log
34). -/
def Act.resumeReason (a : Act) : Option Nat :=
  match a.seq.state with
  | .held _ =>
    if a.breaker.state ≠ .opened then some 2
    else if a.selector.state = .fault ∨ a.isolators.zero.state = .fault ∨ a.isolators.one.state = .fault then some 3
    else if a.bids.profile = none then some 4
    else none
  | _ => some 1

/-- R144: the slot that is UP with duty COLLECT behind a CLOSED isolator. -/
def Act.connected (a : Act) : Option Slot :=
  [Slot.zero, Slot.one].find? fun i => (a.slots.get i).collecting && decide ((a.isolators.get i).state = .closed)

/-- R144. -/
def Act.resumeOrder (e : Env) (src : Nat) (a : Act) : Act :=
  match a.resumeReason with
  | some r => a.log .resumeRefused 255 (n16 r) (n32 src)
  | none =>
    let a := a.setSeq { a.seq with reselectUsed := false }
    match a.connected, a.selector.state.position with
    | some i, some y => (a.setSeq { a.seq with collector := some i, target := some y }).enterSensing e
    | _, _ =>
      let target := match a.seq.target with | some y => some y | none => a.bids.profile
      (a.setSeq { a.seq with target := target }).enterPrepare e

end Sys2Proof.Machine
end

