-- ==== Sys2Proof/Machine/Startup.lean ====
section
/-! DEFINITION. The Start-up Controller (R162 to R169): the configuration block and its checks, the station mode, duplicate
address, mute and unmute, the arming record. -/

namespace Sys2Proof.Machine

/-! ### Reading the configuration block (R162) -/

/-- The byte at an offset; a memory that does not answer gives all ones (R163). -/
def at8 (b : List Byte) (n : Nat) : Nat := (b.getD n 0xFF).toNat

def at16 (b : List Byte) (n : Nat) : Nat := at8 b n + 256 * at8 b (n + 1)

/-- The 256 bytes the attempt clocked in. -/
def blockOf (buffer : List Byte) : List Byte := (List.range 256).map fun n => buffer.getD n 0xFF

def identityWord (b : List Byte) : Word := join32 (b.getD 0 0xFF) (b.getD 1 0xFF) (b.getD 2 0xFF) (b.getD 3 0xFF)

/-- R162, R163: low 16 bits 2,440, high 16 bits 1; the CRC over bytes 0 to 253 equals bytes 254 and 255. -/
def readCorrect (b : List Byte) : Bool :=
  decide (at16 b 0 = 2440) && decide (at16 b 2 = 1) && decide ((crc (b.take 254)).toNat = at16 b 254)

/-- R162: the offset of a profile's first byte. -/
def profileOffset : Supply → Nat
  | .ac25 => 29
  | .ac15 => 46
  | .dc3 => 63
  | .dc15 => 80

def readProfile (b : List Byte) (y : Supply) : Profile :=
  let o := profileOffset y
  { maxCollect := at8 b o
    minSpacing := at16 b (o + 1)
    scrapeSpacing := at16 b (o + 3)
    scrapeAllowed := decide (at8 b (o + 5) = 1)
    heads := (headSetOfCode (at8 b (o + 6))).getD ⟨false, false⟩
    f0 := at16 b (o + 7)
    kmu := at16 b (o + 9)
    fmin := at16 b (o + 11)
    fmax := at16 b (o + 13)
    scrapeAdd := at16 b (o + 15) }

def readHead (b : List Byte) (n : Nat) : HeadType := if at8 b n = 1 then .headB else .headA

def readBlock (b : List Byte) : Loaded :=
  { bytes := b
    station := at8 b 4
    heads := ⟨readHead b 5, readHead b 6⟩
    dA := ⟨at16 b 7, at16 b 9⟩
    p0 := ⟨at16 b 11, at16 b 15⟩
    gain := ⟨at16 b 13, at16 b 17⟩
    lroof := at16 b 19
    t1 := at8 b 21, t2 := at8 b 22, t3 := at8 b 23
    hysteresis := at8 b 24
    iceTemp := (b.getD 25 0xFF).toInt
    heatBudget := at8 b 26
    moderation := at16 b 27
    ac25 := readProfile b .ac25, ac15 := readProfile b .ac15, dc3 := readProfile b .dc3
    dc15 := readProfile b .dc15 }

/-! ### The checks (R164) -/

/-- The offsets of the fields that fail the profile row for one profile. -/
def profileFailures (b : List Byte) (y : Supply) : List Nat :=
  let o := profileOffset y
  (if 1 ≤ at8 b o ∧ at8 b o ≤ 8 then [] else [o])
    ++ (if at8 b (o + 5) ≤ 1 then [] else [o + 5])
    ++ (if 1 ≤ at8 b (o + 6) ∧ at8 b (o + 6) ≤ 3 then [] else [o + 6])
    ++ (if at16 b (o + 9) ≤ 5000 then [] else [o + 9])
    ++ (if at16 b (o + 11) ≤ at16 b (o + 13) then [] else [o + 11, o + 13])

/-- R164: the rows in order, each with its reason and the offsets of the fields that fail it. -/
def checkRows (b : List Byte) : List (Nat × List Nat) :=
  [(2, if 1 ≤ at8 b 4 ∧ at8 b 4 ≤ 8 then [] else [4]),
    (3, (if at16 b 7 ≤ 8000 then [] else [7]) ++ (if at16 b 9 ≤ 8000 then [] else [9])
      ++ (if at8 b 5 ≤ 1 then [] else [5]) ++ (if at8 b 6 ≤ 1 then [] else [6])),
    (4, (if at8 b 21 < at8 b 22 then [] else [21, 22]) ++ (if at8 b 22 < at8 b 23 then [] else [22, 23])),
    (5, profileFailures b .ac25 ++ profileFailures b .ac15 ++ profileFailures b .dc3 ++ profileFailures b .dc15),
    (6, let t := (b.getD 25 0xFF).toInt
      if -20 ≤ t ∧ t ≤ 10 then [] else [25])]

/-- R164: the offset CONFIG_BAD gives; where several fields fail the row, the manual does not say which (log 8). -/
def failingOffset (fields : List Nat) : Nat :=
  match fields with
  | [n] => n
  | _ => fields.getD (Config.fieldChoice fields % fields.length) 0

/-- R164: the first failing row, with its reason and the offset. -/
def configFailure (b : List Byte) : Option (Nat × Nat) :=
  match (checkRows b).find? fun r => !r.2.isEmpty with
  | some (reason, fields) => some (reason, failingOffset fields)
  | none => none

/-! ### The station mode (R165) -/

def Act.setStartup (x : Startup) (a : Act) : Act := { a with startup := x }

/-- A change of mode: MODE is logged, and the Bid Unit and the Roof Sequencer learn of it (R108, R125). -/
def Act.setMode (e : Env) (m : Mode) (a : Act) : Act :=
  let old := a.startup.mode
  let a := a.setStartup { a.startup with mode := m }
  let a := ((a.log .mode 255 (n16 (bytes2 m.code old.code)) 0).push .modeChanged).evalDue
  if m = .ready then a else a.bidsEnd e

/-- R165: the LISTEN timer has expired. -/
def Act.listenExpired (e : Env) (a : Act) : Act :=
  let a := a.setStartup { a.startup with listenTimer := none }
  if a.startup.mode = .listen then
    let a := (a.setMode e .join).openGate e
    a.setStartup { a.startup with joinTimer := some 200 }
  else a

/-- R165: the JOIN timer has expired. -/
def Act.joinExpired (e : Env) (a : Act) : Act :=
  let a := a.setStartup { a.startup with joinTimer := none }
  if a.startup.mode = .join then a.setMode e .ready else a

/-! ### Duplicate address (R166) -/

/-- A pending close is cancelled; the entry that was to close the gate no longer does. -/
def Act.cancelClose (a : Act) : Act :=
  let strip (x : TxEntry) : TxEntry := { x with requesters := x.requesters.filter fun r => r ≠ .final }
  let k := a.link
  let link :=
    { k with
      head := k.head.map fun h => { h with entry := strip h.entry }
      waiting := k.waiting.map strip }
  let a := { a with link := link }
  a.setStartup { a.startup with pendingClose := false }

/-- R166: a frame of the given kind code was heard from the own address. -/
def Act.duplicateHeard (e : Env) (kind : Nat) (a : Act) : Act :=
  match a.startup.mode with
  | .listen | .join | .ready | .muting | .muted =>
    let a := a.log .duplicateAddress a.station (n16 kind) (n32 a.startup.mode.code)
    let a := a.setMode e .safe
    let a := (a.setStartup { a.startup with listenTimer := none, joinTimer := none }).cancelClose
    let a := if a.link.gateOpen then a else a.openGate e
    a.alert .duplicate none
  | .safe | .start => a

/-! ### MUTE and UNMUTE (R167, R168) -/

def Act.orderIgnored (src : Nat) (v : Verb) (reason : Nat) (a : Act) : Act :=
  a.log .orderIgnored src (n16 v.code) (n32 reason)

def SlotRec.restsDown (r : SlotRec) : Bool := decide (r.lift = .down) || decide (r.lift = .dropped)

/-- R167: the test of MUTING: with both slots DOWN or DROPPED the mode becomes MUTED, and the final STATE_ROOF is offered. -/
def Act.mutedTest (e : Env) (a : Act) : Act :=
  if a.startup.mode = .muting ∧ a.slots.zero.restsDown ∧ a.slots.one.restsDown then
    match (a.setMode e .muted).offerStateRoof .final e with
    | (true, a) => a.setStartup { a.startup with pendingClose := true }
    | (false, a) => a.closeGate
  else a

/-- R167: the entry that carries the final STATE_ROOF has left the queue. -/
def Act.finalLeft (a : Act) : Act :=
  if a.startup.pendingClose then (a.setStartup { a.startup with pendingClose := false }).closeGate else a

/-- R167: the lower requests of a taken MUTE and the test at entry to MUTING, after the sequencer's way to DORMANT. -/
def Act.muteSlots (e : Env) (a : Act) : Act :=
  ((a.lower e .zero [.startup]).lower e .one [.startup]).mutedTest e

/-- R167: an admitted MUTE. -/
def Act.muteOrder (e : Env) (dst src : Nat) (a : Act) : Act :=
  if dst = 0 then a.orderIgnored src .mute 1
  else match a.startup.mode with
    | .join | .ready =>
      let a := a.setMode e .muting
      (a.setStartup { a.startup with joinTimer := none }).push .muteTaken
    | .muting | .muted => a
    | .listen | .safe | .start => a.orderIgnored src .mute 3

/-- R168: an admitted UNMUTE. -/
def Act.unmuteOrder (e : Env) (dst src : Nat) (a : Act) : Act :=
  if dst = 0 then a.orderIgnored src .unmute 1
  else match a.startup.mode with
    | .muting | .muted =>
      let a := (a.setMode e .join).cancelClose
      let a := if a.link.gateOpen then (a.offerStateRoof .other e).2 else a.openGate e
      a.setStartup { a.startup with joinTimer := some 200 }
    | .start | .listen | .join | .ready | .safe => a.orderIgnored src .unmute 3

/-! ### Arming (R169) -/

/-- R169: the record is disarmed: data0 1 for a frame, 2 for the timer. -/
def Act.disarm (why : Nat) (a : Act) : Act :=
  match a.startup.armedBy with
  | some c =>
    (a.setStartup { a.startup with armedBy := none, armingTimer := none }).log .resetDisarmed c (n16 why) 0
  | none => a

/-- R169: an admitted RESET_ARM or RESET with destination 0. -/
def Act.armingForAll (src : Nat) (v : Verb) (a : Act) : Act :=
  if a.startup.armedBy.isSome then a.disarm 1 else a.orderIgnored src v 1

/-- R169: an admitted RESET_ARM with the station as destination. -/
def Act.arm (src : Nat) (a : Act) : Act :=
  (a.setStartup { a.startup with armedBy := some src, armingTimer := some 1000 }).log .resetArmed src 0 0

/-- R169: an accepted frame that is neither an admitted RESET_ARM nor an admitted RESET. -/
def Act.armingFrame (dst src : Nat) (a : Act) : Act :=
  if a.startup.armedBy = some src ∧ (dst = 0 ∨ dst = a.station) then a.disarm 1 else a

/-! ### The load (R163, R164) -/

/-- R163: the number of the attempt that is under way. -/
def Startup.attempt (x : Startup) : Option Nat :=
  match x.mode, x.load with
  | .start, .reading n => some n
  | _, _ => none

/-- R163, R164: the load is rejected. -/
def Act.rejectLoad (e : Env) (reason offset : Nat) (a : Act) : Act :=
  ((a.setStartup { a.startup with load := .rejected reason }).log .configBad 0 (n16 reason) (n32 offset)).setMode e
    .safe

/-- R164, R165: the blocks take the loaded values, which `e` holds, the address is set, and LISTEN is entered. -/
def Act.acceptLoad (e : Env) (c : Loaded) (attempts : Nat) (a : Act) : Act :=
  let a := a.setStartup { a.startup with load := .accepted }
  let a := a.log .configLoaded c.station (n16 attempts) (identityWord c.bytes)
  let a := { a with slots := ⟨a.slots.zero.load c .zero, a.slots.one.load c .one⟩ }
  let a := ((a.recomputeProfile e).iceDue).evalDue
  let a := { a with link := { a.link with address := some c.station } }
  let a := a.setMode e .listen
  a.setStartup { a.startup with listenTimer := some 500 }

end Sys2Proof.Machine
end

