-- ==== Sys2Proof/Machine/PeerView.lean ====
section
/-! DEFINITION. The Peer View (R75 to R92): the peer table, peer bids and alerts, the authority and its hold, admission of
frames, the geometry. Its functions work on the whole state: they write `env.pv` and hand what follows to the other blocks. -/

namespace Sys2Proof.Machine

/-! ### Plumbing -/

def State.onAct (f : Env → Act → Act) (s : State) : State := { s with act := f s.env s.act }

def State.setPv (v : PeerView) (s : State) : State := { s with env := { s.env with pv := v } }

/-- A change of the view is reported to the Bid Unit and the Ice Unit (R78); the Roof Sequencer has no rule of its own for it. -/
def Act.viewChanged (a : Act) : Act := a.iceDue.evalDue

/-! ### The peer table (R75 to R77) -/

def StatePayload.isRoof : StatePayload → Bool
  | .roof _ => true
  | .cab _ => false

/-- R91: node kind 0 ROOF, 1 CAB. -/
def StatePayload.kindCode : StatePayload → Nat
  | .roof _ => 0
  | .cab _ => 1

/-- R91: the dA values of PEER_MOVED. -/
def StatePayload.dAs : StatePayload → Nat
  | .roof q => halves2 q.slots.zero.dA.toNat q.slots.one.dA.toNat
  | .cab _ => 0

/-- An entry takes its place in increasing order of address; one of the same address is replaced (R75, R76). -/
def upsert (p : Peer) : List Peer → List Peer
  | [] => [p]
  | x :: rest =>
    if p.address < x.address then p :: x :: rest
    else if p.address = x.address then p :: rest
    else x :: upsert p rest

def PeerView.put (p : Peer) (v : PeerView) : PeerView := { v with table := upsert p v.table }

def PeerView.drop (n : Nat) (v : PeerView) : PeerView := { v with table := v.table.filter fun p => p.address ≠ n }

def Peer.clearBid (p : Peer) : Peer := { p with bid := none, bidTimer := none }

/-- R80: what a STATE_ROOF does to the pending bid of its sender's entry. -/
def Peer.heed (x : StatePayload) (p : Peer) : Peer :=
  match x, p.bid with
  | .roof q, some b =>
    match q.bid with
    | none => p.clearBid
    | some o => if o.committed ∨ o.number ≠ b.bid.number then p.clearBid else p
  | _, _ => p

/-- R76: what a STATE frame says of the entry it finds. -/
inductive Seen where
  | joined | refreshed | moved
  deriving DecidableEq, Repr

def seenAs (x : StatePayload) : Option Peer → Seen
  | none => .joined
  | some p =>
    match p.last, x with
    | .roof o, .roof n =>
      if o.slots.zero.dA = n.slots.zero.dA ∧ o.slots.one.dA = n.slots.one.dA then .refreshed else .moved
    | .cab _, .cab _ => .refreshed
    | .roof _, .cab _ | .cab _, .roof _ => .moved

/-- R76: the entry as a STATE frame leaves it. -/
def heardPeer (now address : Nat) (x : StatePayload) (old : Option Peer) : Peer :=
  let fresh : Peer :=
    { address := address, last := x, fresh := true, heard := now, ageTimer := some 150, removalTimer := none
      bid := none, bidTimer := none, alert := none }
  match old with
  | none => fresh
  | some p =>
    if p.last.isRoof = x.isRoof then
      Peer.heed x { fresh with bid := p.bid, bidTimer := p.bidTimer, alert := p.alert }
    else fresh

/-! ### The authority (R82, R83) -/

/-- R82: the FRESH cabs whose last STATE_CAB shows OWNING. -/
def PeerView.owners (v : PeerView) : List Nat :=
  v.table.filterMap fun p =>
    match p.last with
    | .cab x => if p.fresh ∧ x.claim = .owning then some p.address else none
    | .roof _ => none

/-- R82: the authority that the owning cabs give. -/
def authorityOf : List Nat → Option Nat
  | [c] => some c
  | _ => none

/-- R82, R83: the authority record is recomputed, and the hold follows it. -/
def PeerView.reauthorize (v : PeerView) : PeerView :=
  let owners := v.owners
  let new := authorityOf owners
  let v := { v with authority := new, conflict := decide (2 ≤ owners.length) }
  match v.hold, new with
  | .present, none => { v with hold := .holding, holdTimer := some 2000 }
  | .holding, some _ | .lost, some _ => { v with hold := .present, holdTimer := none }
  | _, _ => v

/-- R82: the records of a recomputation. -/
def Act.logAuthority (old new : PeerView) (a : Act) : Act :=
  let a :=
    if new.authority = old.authority then a
    else a.log .authorityChange 255 (n16 (new.authority.getD 0)) (n32 (old.authority.getD 0))
  if new.conflict ∧ !old.conflict then a.log .authorityConflict 255 (n16 new.owners.length) 0 else a

def State.reauthorize (s : State) : State :=
  let v := s.env.pv.reauthorize
  { s.setPv v with act := s.act.logAuthority s.env.pv v }

/-- R82, R85: the changes of authority, permit, expected system and ice mode since `old` are reported. -/
def Act.controlsChanged (old : PeerView) (e : Env) (a : Act) : Act :=
  let new := e.pv
  let moved := decide (new.authority ≠ old.authority)
  let a := if moved || decide (new.permit ≠ old.permit) then (a.push .permitChanged).evalDue else a
  let a := if moved || decide (new.expected ≠ old.expected) then (a.recomputeProfile e).evalDue else a
  if new.iceMode = old.iceMode then a else a.iceModeChanged e

/-! ### Geometry (R86 to R88) -/

/-- What taking a frame's geometry says beside the new store. -/
inductive Taken where
  | asItStands | rebased (by_ : Nat) | turned | refused (logged : Bool)
  deriving DecidableEq, Repr

/-- R87: base odometer for a received odometer `o`, the extrapolated one being `x`. -/
def rebase (x o : Nat) : Nat × Taken :=
  if x ≤ o then (o, .asItStands)
  else if x - o < 100 then (x, .asItStands)
  else (o, .rebased (x - o))

/-- R86 to R88: the geometry of an authority STATE_CAB. -/
def Geometry.take (now : Nat) (c : CabPayload) (g : Geometry) : Geometry × Taken :=
  let speed := min 4000 c.speed.toNat
  let length := min 8000 c.length.toNat
  let o := c.odometer.toNat
  let whole : Geometry :=
    { known := true, direction := c.direction, speed := speed, length := length, baseOdometer := o, baseTime := now
      odoStale := false, refusalRun := false }
  if !g.known then ({ whole with refusalRun := g.refusalRun }, .asItStands)
  else if c.direction = g.direction then
    let (base, t) := rebase (g.front now) o
    ({ whole with baseOdometer := base }, t)
  else if speed = 0 then (whole, .turned)
  else ({ g with refusalRun := true }, .refused (!g.refusalRun))

/-- R86 to R88: the geometry is taken; its records, the flush and the change of the view. -/
def State.takeGeometry (c : CabPayload) (s : State) : State :=
  let g := s.env.pv.geometry
  let (h, t) := g.take s.env.now c
  let s := s.setPv { s.env.pv with geometry := h }
  let s :=
    s.onAct fun e a =>
      match t with
      | .asItStands => a
      | .rebased n => a.log .odoRebased 255 0 (n32 n)
      | .turned =>
        (a.flushNotices e).log .directionChange 255 (n16 h.direction.code) c.odometer
      | .refused logged =>
        if logged then
          a.log .directionRefused 255 (n16 (min 4000 c.speed.toNat)) (n32 h.direction.code)
        else a
  if h.length = g.length ∧ h.direction = g.direction then s else s.onAct fun _ a => a.viewChanged

/-- R52, R85, R119, R134: what every authority STATE_CAB taken brings about. -/
def Act.cabTaken (e : Env) (a : Act) : Act := ((a.recompute e).reviewNotices e).push .cabTaken

/-! ### STATE frames (R76, R80, R84) -/

def State.stateHeard (address : Nat) (x : StatePayload) (s : State) : State :=
  let before := s.env.pv
  let old := before.entry address
  let seen := seenAs x old
  let s := s.setPv (before.put (heardPeer s.env.now address x old))
  let s :=
    s.onAct fun _ a =>
      match seen with
      | .joined => a.log .peerJoined address (n16 x.kindCode) 0
      | .moved => a.log .peerMoved address (n16 x.kindCode) (n32 x.dAs)
      | .refreshed => a
  let roof := x.isRoof || (match old with | some p => p.last.isRoof | none => false)
  let cab := !x.isRoof || (match old with | some p => !p.last.isRoof | none => false)
  let s := if roof then s.onAct fun _ a => a.viewChanged else s
  let s := if cab then s.reauthorize else s
  match x with
  | .roof _ => s.onAct fun e a => a.controlsChanged before e
  | .cab c =>
    if s.env.pv.authority = some address then
      let s := s.takeGeometry c
      s.onAct fun e a => (a.controlsChanged before e).cabTaken e
    else s.onAct fun e a => a.controlsChanged before e

/-! ### BID, CEDE and ALERT (R79 to R81) -/

/-- An entry is changed in place, and a roof entry's change of pending bid is a change of the view (R78). -/
def State.updatePeer (address : Nat) (f : Peer → Peer) (s : State) : State :=
  match s.env.pv.entry address with
  | none => s
  | some p =>
    let s := s.setPv (s.env.pv.put { f p with address := p.address, last := p.last })
    if p.last.isRoof then s.onAct fun _ a => a.viewChanged else s

/-- R79, R102: a BID frame. -/
def State.bidHeard (src : Nat) (b : BidPayload) (s : State) : State :=
  let now := s.env.now
  let s := s.updatePeer src fun p => { p with bid := some { bid := b, time := now }, bidTimer := some 300 }
  s.onAct fun e a => a.bidDelivered e src b

/-- R80: a CEDE clears the pending bid of its number. -/
def Peer.ceded (n : Byte) (p : Peer) : Peer :=
  match p.bid with
  | some b => if b.bid.number = n then p.clearBid else p
  | none => p

/-- R80, R105: a CEDE frame. -/
def State.cedeHeard (src : Nat) (n : Byte) (s : State) : State :=
  (s.updatePeer src fun p => p.ceded n).onAct fun _ a => a.evalDue

/-- R81, R153: an ALERT frame. -/
def State.alertHeard (src : Nat) (x : Alert) (s : State) : State :=
  let s :=
    match s.env.pv.entry src with
    | some p => s.setPv (s.env.pv.put { p with alert := some (x, s.env.now) })
    | none => s
  if x.code = .dropped then s.onAct fun e a => a.peerDropped e else s

/-! ### Timers of the Peer View (R77, R80, R83, R87) -/

/-- R77: an entry's age timer has expired. The time in data1 wraps at 32 bits (the model's reading, log 50). -/
def State.peerAged (address : Nat) (s : State) : State :=
  match s.env.pv.entry address with
  | none => s
  | some p =>
    let before := s.env.pv
    let s := s.setPv (before.put { p with fresh := false, ageTimer := none, removalTimer := some 9850 })
    let s := s.onAct fun _ a => a.log .peerStale address (n16 p.last.kindCode) (n32 p.heard)
    if p.last.isRoof then s.onAct fun _ a => a.viewChanged
    else s.reauthorize.onAct fun e a => a.controlsChanged before e

/-- R77: an entry's removal timer has expired. The time in data1 wraps at 32 bits (log 50). -/
def State.peerRemoved (address : Nat) (s : State) : State :=
  match s.env.pv.entry address with
  | none => s
  | some p =>
    let before := s.env.pv
    let s := s.setPv (before.drop address)
    let s := s.onAct fun _ a => a.log .peerRemoved address (n16 p.last.kindCode) (n32 p.heard)
    if p.last.isRoof then s.onAct fun _ a => a.viewChanged
    else s.reauthorize.onAct fun e a => a.controlsChanged before e

/-- R80: an entry's bid timer has expired. -/
def State.peerBidExpired (address : Nat) (s : State) : State := s.updatePeer address Peer.clearBid

/-- R83: the hold timer has expired. -/
def State.holdExpired (s : State) : State :=
  match s.env.pv.hold with
  | .holding =>
    let s := s.setPv { s.env.pv with hold := .lost, holdTimer := none }
    s.onAct fun e a =>
      let a := a.log .authorityLost 255 0 0
      let a := (a.lower e .zero [.peerView]).lower e .one [.peerView]
      ((a.push .holdLost).bidsEnd e).evalDue
  | .present | .lost => s

/-- R87: the extrapolation reaches its cap. -/
def State.odometerStale (s : State) : State :=
  let g := s.env.pv.geometry
  let s := s.setPv { s.env.pv with geometry := { g with odoStale := true } }
  s.onAct fun e a => (a.log .odoStale 255 (n16 g.speed) (n32 e.front)).push .odoStale

/-! ### Admission (R84) -/

/-- Whether a frame is addressed to all or to the station. -/
def State.addressed (dst : Nat) (s : State) : Bool := decide (dst = 0) || decide (dst = s.act.station)

def State.fromAuthority (src : Nat) (s : State) : Bool := decide (s.env.pv.authority = some src)

/-- R84: the source condition of an order. -/
def State.orderSource (v : Verb) (src : Nat) (s : State) : Bool :=
  match v with
  | .lock => decide (9 ≤ src) && decide (src ≤ 15)
  | .unlock | .clearFault | .prefer | .resume | .resetArm | .reset | .mute | .unmute => s.fromAuthority src

/-- R84: an order is admitted. -/
def State.orderAdmitted (v : Verb) (dst src : Nat) (s : State) : Bool :=
  s.addressed dst && s.orderSource v src

/-- R84: an admitted frame does `k`; one that fails its source condition logs FRAME_REFUSED; one for another node is dropped
quietly. -/
def State.whenAdmitted (dst src kind verb : Nat) (source : Bool) (k : State → State) (s : State) : State :=
  if !s.addressed dst then s
  else if source then k s
  else s.onAct fun _ a => a.log .frameRefused src (n16 kind) (n32 verb)

end Sys2Proof.Machine
end

