-- ==== Sys2Proof/Machine/Classifier.lean ====
section
/-! DEFINITION. The Line Classifier (R1 to R16): samples, windows, their arithmetic and class, the run record and the confirmed
system. Its functions give the new classifier and the records it writes, whose subject is always 0. -/

namespace Sys2Proof.Machine

/-- A record of the classifier: code, data0, data1. -/
abbrev ClsRecord := EventCode × Half × Word

/-! ### Samples (R2, R4 to R6) -/

/-- R2: one even-parity bit follows the code. -/
def parityCorrect (code : BitVec 16) (parity : Bool) : Bool :=
  ((List.range 16).foldl (fun p n => p != code.getLsbD n) parity) == false

/-- R4: the code −32,768 enters the sums as −32,767. -/
def sampleValue (code : BitVec 16) : Int := if code.toInt = -32768 then -32767 else code.toInt

/-- R4 to R6: one sample is applied to the window in progress; its count increments. The code −32,767 does not clip (R5; log
29). -/
def Classifier.sample (code : BitVec 16) (c : Classifier) : Classifier :=
  let x := sampleValue code
  let crossed := c.armed && decide (250 ≤ x)
  { c with
    count := c.count + 1
    sum := c.sum + x
    squares := c.squares + (x * x).toNat
    clip := c.clip || decide (code.toInt = 32767) || decide (code.toInt = -32768)
    surge := c.surge || decide (16384 ≤ x.natAbs)
    crossings := if crossed then c.crossings + 1 else c.crossings
    armed := if x ≤ -250 then true else if crossed then false else c.armed }

/-! ### The arithmetic of a window (R9, R10) -/

/-- The exact integer square root, one binary digit at a time from 2^(k−1) down. -/
def isqrtFrom (n : Nat) : Nat → Nat → Nat
  | 0, r => r
  | k + 1, r => if (r + 2 ^ k) * (r + 2 ^ k) ≤ n then isqrtFrom n k (r + 2 ^ k) else isqrtFrom n k r

/-- R9: the largest whole number whose square does not exceed `n`, for `n` below 2^32. -/
def isqrt (n : Nat) : Nat := isqrtFrom n 16 0

/-- R9: M, truncated toward zero. -/
def windowMean (s : Int) : Int := s.tdiv 960

/-- R9: ACrms. -/
def windowRms (s : Int) (q : Nat) : Nat :=
  let m := (windowMean s).natAbs
  isqrt (q / 960 - m * m)

/-- R10: the class of a measured window from M, ACrms and Z. -/
def classify (m : Int) (rms z : Nat) : WindowClass :=
  let mag := m.natAbs
  if mag < 125 ∧ rms < 125 then .dead
  else if 250 ≤ m ∧ m ≤ 487 ∧ rms ≤ mag / 4 then .dc15
  else if 500 ≤ m ∧ m ≤ 975 ∧ rms ≤ mag / 4 then .dc3
  else if m ≤ -250 ∧ rms ≤ mag / 4 then .reverse
  else if 2750 ≤ rms ∧ rms ≤ 4500 ∧ mag ≤ rms / 8 ∧ 3 ≤ z ∧ z ≤ 5 then .ac15
  else if 4375 ≤ rms ∧ rms ≤ 7250 ∧ mag ≤ rms / 8 ∧ 11 ≤ z ∧ z ≤ 13 then .ac25
  else .unknown

/-- R11: the reported line voltage of a measured window. -/
def voltageOf (k : WindowClass) (m : Int) (rms : Nat) : Int :=
  match k with
  | .ac25 | .ac15 | .unknown => 4 * rms
  | .dc15 | .dc3 | .reverse => 4 * m
  | .dead | .clipped | .void | .noWindow => 0

/-! ### The run record and confirmation (R12 to R15) -/

/-- R12. -/
def extendRun (k : WindowClass) : Option (WindowClass × Nat) → WindowClass × Nat
  | none => (k, 1)
  | some (r, n) => if r = k then (k, bump 4 n) else (k, 1)

/-- R14: the confirmed system a run gives, from the one held. -/
def confirm (old : Confirmed) (run : WindowClass × Nat) : Confirmed :=
  match run.1 with
  | .ac25 => if 3 ≤ run.2 then .system .ac25 else old
  | .ac15 => if 3 ≤ run.2 then .system .ac15 else old
  | .dc3 => if 3 ≤ run.2 then .system .dc3 else old
  | .dc15 => if 3 ≤ run.2 then .system .dc15 else old
  | .dead => if 2 ≤ run.2 then .noSystem else old
  | .unknown | .reverse => if 4 ≤ run.2 then .indeterminate else old
  | .clipped | .void | .noWindow => old

/-- R15: SYSTEM_CONFIRMED where the confirmed system took a different value. -/
def confirmedRecord (old : Confirmed) (c : Classifier) : List ClsRecord :=
  if c.confirmed = old then []
  else [(.systemConfirmed, n16 (bytes2 c.confirmed.code old.code), i32 c.reported)]

/-- R7: the surge report at the conclusion of a window of class `k`. -/
def Classifier.reportSurge (k : WindowClass) (c : Classifier) : Classifier × List ClsRecord :=
  if !c.surge then (c, [])
  else match c.surgeMask with
    | none =>
      ({ c with maskedSurges := 0, surgeMask := some 10000 }, [(.surge, n16 c.maskedSurges, n32 k.code)])
    | some _ => ({ c with maskedSurges := bump 65535 c.maskedSurges }, [])

/-- R1: a window is opened. -/
def Classifier.openWindow (c : Classifier) : Classifier :=
  { c with count := 0, sum := 0, squares := 0, crossings := 0, clip := false, surge := false }

/-- R8, R13: a void window, of class VOID or CLIPPED. -/
def Classifier.concludeVoid (k : WindowClass) (c : Classifier) : Classifier × List ClsRecord :=
  let old := c.confirmed
  let (c, surge) := c.reportSurge k
  let voids := bump 3 c.voids
  let c :=
    { c with latest := k, voids := voids, confirmed := if voids = 3 then .indeterminate else old }
  (c.openWindow, surge ++ confirmedRecord old c)

/-- R8 to R15: a measured window. -/
def Classifier.concludeMeasured (c : Classifier) : Classifier × List ClsRecord :=
  let m := windowMean c.sum
  let rms := windowRms c.sum c.squares
  let k := classify m rms c.crossings
  let old := c.confirmed
  let (c, surge) := c.reportSurge k
  let run := extendRun k c.run
  let volts := voltageOf k m rms
  let reversed := k = .reverse ∧ c.run = some (.reverse, 3)
  let c :=
    { c with latest := k, reported := volts, run := some run, voids := 0, confirmed := confirm old run }
  let reverse : List ClsRecord := if reversed then [(.reversePolarity, 4, i32 volts)] else []
  (c.openWindow, surge ++ reverse ++ confirmedRecord old c)

/-- R2: a sample frame arrives. -/
def Classifier.arrive (code : BitVec 16) (parity : Bool) (c : Classifier) : Classifier × List ClsRecord :=
  if parityCorrect code parity then
    let c := { c with lossTimer := some 2, silenceTimer := none }.sample code
    if c.count < 960 then (c, [])
    else if c.clip then c.concludeVoid .clipped
    else c.concludeMeasured
  else ({ c with badSamples := bump 65535 c.badSamples }, [])

/-- R3: the loss timer has expired. SAMPLES_LOST is written behind the records of the voided window, the order of R3's list (the
model's reading, log 38). -/
def Classifier.lossExpired (c : Classifier) : Classifier × List ClsRecord :=
  let lost : ClsRecord := (.samplesLost, n16 c.count, n32 c.badSamples)
  let (d, records) := { c with lossTimer := none, silenceTimer := some 240 }.concludeVoid .void
  (d, records ++ [lost])

/-- R3: the silence timer has expired. -/
def Classifier.silenceExpired (c : Classifier) : Classifier × List ClsRecord :=
  { c with silenceTimer := some 240 }.concludeVoid .void

/-- R7: the surge mask has expired. -/
def Classifier.maskExpired (c : Classifier) : Classifier × List ClsRecord := ({ c with surgeMask := none }, [])

/-! ### The classifier in the part (R16) -/

def Act.logClassifier (r : List ClsRecord) (a : Act) : Act := r.foldl (fun a x => a.log x.1 0 x.2.1 x.2.2) a

/-- R16: a change of the confirmed system reaches the Switchgear Interlock (R31), the Bid Unit (R95) and the Roof Sequencer. -/
def Act.confirmedChanged (e : Env) (a : Act) : Act :=
  (((a.supplyChecked e).recomputeProfile e).evalDue).push .confirmedChanged

def State.classifier (f : Classifier → Classifier × List ClsRecord) (s : State) : State :=
  let old := s.env.cls
  let (c, records) := f old
  let s := { s with env := { s.env with cls := c } }
  s.onAct fun e a =>
    let a := a.logClassifier records
    if c.confirmed = old.confirmed then a else a.confirmedChanged e

end Sys2Proof.Machine
end

