-- ==== Sys2Proof/Machine/Settle.lean ====
section
/-! DEFINITION. The end of an event: reports are handed on until none is left, the Ice Unit's and the Bid Unit's reviews are
made, the event's records join the ring (log 1); and the two resets. -/

namespace Sys2Proof.Machine

/-- What the block that a report goes to does with it. -/
def Act.handle (e : Env) (r : Report) (a : Act) : Act :=
  match r with
  | .answered (.sequencer visit) q ans => a.seqAnswered e visit q ans
  | .answered (.lift i) _ ans => if ans = .done then a.isolatorOpenedForLift e i else a
  | .answered .bidUnit _ _ | .answered .iceUnit _ _ | .answered .startup _ _ | .answered .peerView _ _ => a
  | .raiseAnswered i ans => a.bidRaiseAnswered i ans
  | .txAnswered n ans => a.bidTxAnswered n ans
  | .finalLeft => a.finalLeft
  | .outcome .collect o => a.seqOutcome e o
  | .outcome .scrape _ => a.iceDue
  | .slotChanged i => (a.seqSlotChanged e i).mutedTest e
  | .preferredChanged => (a.leaveDormant e).seqRechoice e
  | .selectorFault => a.seqFault e .selectorFault
  | .isolatorFault => a.seqFault e .isolatorFault
  | .breakerFault => a.seqFault e .breakerFault
  | .breakerForced reason => a.seqForced reason
  | .lockout => a.seqFault e .lockout
  | .trip => a.seqTrip e
  | .breakerOpened => a.leaveDormant e
  | .confirmedChanged => a.seqConfirmed e
  | .profileChanged => (a.leaveDormant e).seqRechoice e
  | .permitChanged => (a.goDormant e .permitChanged).leaveDormant e
  | .holdLost => a.goDormant e .holdLost
  | .modeChanged => (a.goDormant e .modeChanged).leaveDormant e
  | .muteTaken => (a.goDormant e .muteTaken).muteSlots e
  | .lockAll => a.goDormant e .lockAll
  | .noticesChanged => (a.iceNotices e).testOpenPoint e
  | .currentRetired => a.seqRetired e
  | .flushed => a.seqFlushed e
  | .cabTaken => a.positionsMoved e
  | .odoStale => a.testOpenPoint e

/-- The next thing to do within an event: the oldest report, else the Ice Unit's review, else the Bid Unit's evaluation. -/
def Act.settleOnce (e : Env) (a : Act) : Option Act :=
  match a.inbox.reports with
  | r :: rest => some (Act.handle e r { a with inbox := { a.inbox with reports := rest } })
  | [] =>
    if a.inbox.iceDue then some (a.reviewIce e)
    else if a.inbox.evalDue then some (a.evaluate e)
    else none

/-- At most `n` of these, so that the definition is total; what is not done stays in the inbox (log 1). -/
def Act.settle (e : Env) : Nat → Act → Act
  | 0, a => a
  | n + 1, a =>
    match a.settleOnce e with
    | some b => Act.settle e n b
    | none => a

def settleFuel : Nat := 256

/-- The event ends: the blocks settle, and the records written join the ring (R172). -/
def State.finish (s : State) : State :=
  let a := s.act.settle s.env settleFuel
  { s with
    act := { a with logs := [] }
    ring := s.ring.writeAll s.env.now a.logs }

/-- An event: what the command itself does, and its end. -/
def State.event (f : State → State) (s : State) : State := (f s).finish

/-! ### The resets -/

/-- The blocks' values after either reset, for the inputs in `e`: what a link reset keeps is taken from `old` (R35, R55, R74, R110,
R122, R146, R161, R170). Records that the blocks write at the reset's end carry the new mode. -/
def Act.afterReset (e : Env) (startup : Startup) (slots : Pair SlotRec) (address : Option Nat) (logs : List LogEntry) :
    Act :=
  let a : Act :=
    { selector := { state := .unknown, timer := none, waiters := [] }
      isolators := ⟨Isolator.reset, Isolator.reset⟩
      breaker := Breaker.reset
      test := RoofTest.reset
      slots := slots
      preferred := none
      link := Link.reset address
      bids := BidUnit.reset
      notices := NoticeQueue.reset
      seq := Sequencer.reset
      ice := IceUnit.reset
      startup := startup
      inbox := Inbox.empty
      logs := logs }
  (a.resetSwitchgear e).takeReading e.pins.temperature

/-- The two slots as R54 and R55 leave them. -/
def slotsAtReset (pins : Pins) (latches : Pair Bool) (old : Pair SlotRec) : Pair SlotRec :=
  ⟨slotAtReset pins .zero latches.zero old.zero, slotAtReset pins .one latches.one old.one⟩

/-- A power-on reset, with the inputs at given levels; the queue of commands and the index of free values go on. -/
def State.powerOn (pins : Pins) (s : State) : State :=
  let e : Env := { now := 0, pins := pins, cls := Classifier.reset, pv := PeerView.reset 0, cfg := none }
  { pending := s.pending
    env := e
    act :=
      Act.afterReset e Startup.reset (slotsAtReset pins ⟨false, false⟩ ⟨SlotRec.reset, SlotRec.reset⟩) none []
    ring := Ring.reset
    port := Port.reset
    freeIndex := s.freeIndex }

/-- R170: a link reset, ordered by cab `src`, with the temperature input reading `t` at its end. -/
def State.linkReset (src : Nat) (t : Int) (s : State) : State :=
  let a := s.act.log .reset src (n16 src) (n32 s.act.startup.mode.code)
  let pins := { s.env.pins with temperature := t }
  let e : Env := { s.env with pins := pins, cls := Classifier.reset, pv := PeerView.reset s.env.now }
  let latches : Pair Bool := ⟨a.slots.zero.latch, a.slots.one.latch⟩
  let startup := { Startup.reset with mode := .listen, load := a.startup.load, listenTimer := some 500 }
  { s with
    env := e
    act := Act.afterReset e startup (slotsAtReset pins latches a.slots) a.link.address a.logs
    port := Port.reset }

end Sys2Proof.Machine
end

