-- ==== Sys2Proof/Machine/Receive.lean ====
section
/-! DEFINITION. The receive lane (R66 to R68, R72): a frame's checks, its acceptance, the arming record (R169), and its delivery to
the blocks that own its content (R84). -/

namespace Sys2Proof.Machine

/-! ### Delivery (R72, R84) -/

/-- R84: an admitted order does what its verb says; RESET_ARM and RESET have done it in `State.acceptOrder`. -/
def State.obey (dst src : Nat) (v : Verb) (mask : Byte) (s : State) : State :=
  match v with
  | .lock => s.onAct fun e a => a.lockOrder e dst src mask
  | .unlock => s.onAct fun _ a => a.unlockOrder src mask
  | .clearFault => s.onAct fun e a => a.clearFaultOrder e mask
  | .prefer => s.onAct fun _ a => a.preferOrder src mask
  | .resume => s.onAct fun e a => a.resumeOrder e src
  | .mute => s.onAct fun e a => a.muteOrder e dst src
  | .unmute => s.onAct fun e a => a.unmuteOrder e dst src
  | .resetArm | .reset => s

/-- R169, R170: an admitted RESET_ARM. -/
def State.armOrder (dst src : Nat) (s : State) : State :=
  if dst = 0 then s.onAct fun _ a => a.armingForAll src .resetArm else s.onAct fun _ a => a.arm src

/-- R169, R170: an admitted RESET; `t` is the roof temperature at the end of the reset it may cause. -/
def State.resetOrder (dst src : Nat) (t : Int) (s : State) : State :=
  if dst = 0 then s.onAct fun _ a => a.armingForAll src .reset
  else if s.act.startup.armedBy = some src then s.linkReset src t
  else s.onAct fun _ a => a.orderIgnored src .reset 2

/-- R169: every accepted frame is reported for arming before it is delivered (log 16). -/
def State.reportArming (dst src : Nat) (s : State) : State := s.onAct fun _ a => a.armingFrame dst src

/-- R84, R169: an accepted order. -/
def State.acceptOrder (dst src : Nat) (v : Verb) (mask : Byte) (t : Int) (s : State) : State :=
  let ok := s.orderSource v src
  if (v = .resetArm ∨ v = .reset) ∧ s.orderAdmitted v dst src then
    (if v = .resetArm then s.armOrder dst src else s.resetOrder dst src t)
  else (s.reportArming dst src).whenAdmitted dst src 8 v.code ok fun s => s.obey dst src v mask

/-- R72, R84: an accepted frame is handed to its blocks. That a STATE_ROOF, STATE_CAB, BID, CEDE or ALERT is admitted whatever its
destination is the model's choice, for R84 says so in its table and otherwise in its text (log 47). -/
def State.accept (dst src : Nat) (f : Frame) (t : Int) (s : State) : State :=
  match f with
  | .order v mask _ => s.acceptOrder dst src v mask t
  | .stateRoof p => (s.reportArming dst src).stateHeard src (.roof p)
  | .stateCab p => (s.reportArming dst src).stateHeard src (.cab p)
  | .bid b => (s.reportArming dst src).bidHeard src b
  | .cede n => (s.reportArming dst src).cedeHeard src n
  | .alert x => (s.reportArming dst src).alertHeard src x
  | .route n =>
    (s.reportArming dst src).whenAdmitted dst src 6 0 (s.fromAuthority src) fun s => s.onAct fun e a => a.routeTaken e n
  | .cancel id =>
    (s.reportArming dst src).whenAdmitted dst src 7 0 (s.fromAuthority src) fun s => s.onAct fun _ a => a.cancelTaken id

/-! ### The checks (R66 to R68) -/

def State.setLink (k : Link) (s : State) : State := { s with act := { s.act with link := k } }

def State.countUnknown (s : State) : State :=
  s.setLink { s.act.link with unknownKinds := bump 65535 s.act.link.unknownKinds }

def State.countCrc (s : State) : State := s.setLink { s.act.link with crcErrors := bump 65535 s.act.link.crcErrors }

/-- R67, R68: a frame that passed R66; `f` is none where its kind, its length or a code of its payload will not do. -/
def State.checkFrame (dst src kind : Nat) (f : Option Frame) (t : Int) (s : State) : State :=
  match s.act.link.address with
  | none => s
  | some own =>
    if src = 0 ∨ 15 < src ∨ 15 < dst then s.countUnknown
    else if src = own then s.onAct fun e a => a.duplicateHeard e kind
    else match f.filter frameValid with
      | some g => s.accept dst src g t
      | none => s.countUnknown

/-- R66: while the own entry is ON_WIRE nothing is delivered from the receive lane. -/
def State.hear (k : State → State) (s : State) : State := if s.act.link.readback then s else k s

/-- A frame of a known kind arrives. -/
def State.receive (dst src : Byte) (f : Frame) (t : Int) (s : State) : State :=
  s.hear fun s => s.checkFrame dst.toNat src.toNat f.kind (some f) t

/-- A frame arrives with a kind code and payload bytes that are still to be checked (R68). -/
def State.receiveRaw (dst src kind : Byte) (payload : List Byte) (s : State) : State :=
  s.hear fun s =>
    s.checkFrame dst.toNat src.toNat kind.toNat (decodeFrame kind.toNat payload) s.env.pins.temperature

/-- R66: line activity after a delimiter, up to the line's going idle. A header of four bytes, a payload of the length it
gives, a CRC of two bytes. -/
def State.receiveBytes (bytes : List Byte) (s : State) : State :=
  s.hear fun s =>
    match bytes with
    | dst :: src :: kind :: len :: rest =>
      if 56 < len.toNat ∨ rest.length < len.toNat + 2 then s.countCrc
      else
        let payload := rest.take len.toNat
        let sent := (rest.drop len.toNat).take 2
        if le16 (crc ([dst, src, kind, len] ++ payload)) = sent then
          s.checkFrame dst.toNat src.toNat kind.toNat (decodeFrame kind.toNat payload) s.env.pins.temperature
        else s.countCrc
    | _ => s

end Sys2Proof.Machine
end

