-- ==== Sys2Proof/Machine/Service.lean ====
section
/-! DEFINITION. The event ring's reading and acknowledgement (R173, R174, R176), and the service port: gathering a command, its
judgement, the payloads of the replies (R175, R177; widths that the manual leaves open: log 20; times past 32 bits: log 50). -/

namespace Sys2Proof.Machine

/-! ### Layouts of R177 -/

def b1 (n : Nat) : List Byte := [n8 n]
def b2 (n : Nat) : List Byte := le16 (n16 n)
def b4 (n : Nat) : List Byte := le32 (n32 n)
def bFlag (b : Bool) : List Byte := [n8 (flag b)]
def bTimer (t : Timer) : List Byte := b4 (Timer.left t)

/-- An item that may be absent: a byte 1 and its bytes, or 0 and as many zero bytes. -/
def bOpt {α : Type} (width : Nat) (f : α → List Byte) : Option α → List Byte
  | some x => 1 :: f x
  | none => 0 :: List.replicate width 0

/-- R172: the 16 bytes of a record. -/
def recordBytes (r : Record) : List Byte :=
  le16 r.seq ++ le32 r.time ++ [n8 r.entry.code.code, r.entry.subject] ++ le16 r.entry.data0 ++ le32 r.entry.data1
    ++ [r.entry.mode, r.entry.seqState]

/-- R39: a slot record. -/
def slotBytes (r : SlotRec) : List Byte :=
  b1 r.lift.toCode.code
    ++ bOpt 1 (fun p : LoweringPhase => b1 p.code)
        (match r.lift with | .lowering p => some p | .down | .rising | .up | .dropped => none)
    ++ b1 r.duty.code ++ bFlag r.locked ++ bFlag r.latch ++ b2 r.force ++ b2 r.pressure
    ++ bOpt 1 (fun y : Supply => b1 y.code) r.setProfile
    ++ b1 r.head.code ++ b2 r.dA ++ b2 r.p0 ++ b2 r.gain

def bSlot (i : Slot) : List Byte := b1 i.code

/-- R111, R177: the place of heads beyond in R111's list, counting from 0: HEAD-A, HEAD-B, both. Chapter 7 gives them no code. A
set that names no head is never held (R112). -/
def headsPlace (h : HeadSet) : Nat :=
  match h.a, h.b with
  | true, true => 2
  | false, true => 1
  | true, false | false, false => 0

/-- R111: a notice, with its late flag and current mark. -/
def heldNoticeBytes (current : Bool) (h : HeldNotice) : List Byte :=
  [h.notice.id] ++ b1 h.notice.kind.code ++ le32 h.notice.start ++ le32 h.notice.stop
    ++ bOpt 1 (fun y : Supply => b1 y.code) h.notice.beyond
    ++ bOpt 1 (fun x : HeadSet => b1 (headsPlace x)) h.notice.heads
    ++ bFlag h.late ++ bFlag current

def lastStateBytes (x : StatePayload) : List Byte :=
  let b := match x with | .roof p => roofBytes p | .cab p => cabBytes p
  b1 b.length ++ b

def alertItem (x : Alert × Nat) : List Byte := b1 x.1.code.code ++ b1 (optSlotCode x.1.slot) ++ b4 x.2

def peerBidBytes (b : PeerBid) : List Byte :=
  b1 b.bid.kind.code ++ bSlot b.bid.slot ++ le16 b.bid.dfront ++ [b.bid.number] ++ b4 b.time

/-- R75: an entry of the peer table. -/
def peerBytes (p : Peer) : List Byte :=
  b1 p.address ++ b1 p.last.kindCode ++ b1 (if p.fresh then 0 else 1) ++ b4 p.heard ++ lastStateBytes p.last
    ++ bOpt 9 peerBidBytes p.bid ++ bOpt 6 alertItem p.alert

def tableBytes (v : PeerView) : List Byte := b4 v.table.length ++ v.table.flatMap peerBytes

/-- The code of a bid's phase in STATUS: its place in R93's list (R177). R93's phase 0 and 1 of the STATE_ROOF field is not read as
the code of the record (log 20). -/
def BidPhase.code : BidPhase → Nat
  | .offered => 0
  | .window => 1
  | .committed => 2

/-- R93: the requester, the Roof Sequencer or the Ice Unit. -/
def requesterCode : BidKind → Nat
  | .collect => 0
  | .scrape => 1

def bidBytes (b : HeldBid) : List Byte :=
  b1 b.kind.code ++ bSlot b.slot ++ b2 b.dfront ++ b1 b.number ++ b1 (requesterCode b.kind) ++ b1 b.phase.code

/-- R96: a standing request, its kind and slot. -/
def requestBytes (k : BidKind) (r : Option Slot) : List Byte := bOpt 2 (fun i : Slot => b1 k.code ++ bSlot i) r

/-- The code of the sequencer's phase in STATUS: its place in its own state's list of R123, CLEARING, TESTING, SELECTING in PREPARE
and TESTING, SELECTING, WAITING in GAP (R177; log 20). -/
def SeqState.phaseCode : SeqState → Option Nat
  | .prepare .clearing => some 0
  | .prepare .testing => some 1
  | .prepare .selecting => some 2
  | .gap .testing => some 0
  | .gap .selecting => some 1
  | .gap .waiting => some 2
  | _ => none

def SeqState.reasonCode : SeqState → Option Nat
  | .held r => some r.code
  | _ => none

/-- R123: the sequencer record and behind it its six timers (the model's reading of "the whole record", log 20). The notice copy
is the record as it was given at marking, with the current mark set (R117). -/
def sequencerBytes (q : Sequencer) : List Byte :=
  b1 q.state.toCode.code ++ bOpt 1 b1 q.state.phaseCode
    ++ bOpt 1 (fun y : Supply => b1 y.code) q.target ++ bOpt 1 bSlot q.collector ++ bFlag q.committed
    ++ bOpt 16 (heldNoticeBytes true) q.notice
    ++ bFlag q.reselectUsed ++ bFlag q.tripMarker ++ b4 q.testCount ++ bFlag q.powerless
    ++ bOpt 1 b1 q.state.reasonCode
    ++ bTimer q.retryTimer ++ bTimer q.testRetryTimer ++ bTimer q.powerlessTimer ++ bTimer q.noSupplyTimer
    ++ bTimer q.recloseHold ++ bTimer q.reviewTimer

def State.interval (s : State) : Nat :=
  match s.env.cfg with
  | some c => c.moderation
  | none => 0

/-- R177: the ring's items of STATUS; the records held take four bytes (log 20). -/
def State.ringBytes (s : State) : List Byte :=
  b4 s.ring.records.length ++ le16 s.ring.sequence ++ b4 s.ring.dropped ++ bFlag s.ring.busy
    ++ b2 s.ring.moderation ++ b2 s.interval

/-- R177: STATUS, chapter by chapter; the peer table stands in it as in PEERS, with its number before it (log 20). -/
def State.statusBytes (s : State) : List Byte :=
  let a := s.act
  (b1 s.env.cls.latest.code ++ le32 (i32 s.env.cls.reported))
    ++ (b1 a.selector.state.toCode.code ++ b1 a.test.result.code ++ b4 a.test.count ++ b4 a.test.distance)
    ++ (slotBytes a.slots.zero ++ slotBytes a.slots.one ++ bOpt 1 bSlot a.preferred)
    ++ (tableBytes s.env.pv ++ bFlag s.env.pv.conflict)
    ++ (bOpt 7 bidBytes a.bids.bid ++ bTimer a.bids.windowTimer ++ bTimer a.bids.spacingTimer
      ++ requestBytes .collect a.bids.collectRequest ++ requestBytes .scrape a.bids.scrapeRequest
      ++ bOpt 1 (fun y : Supply => b1 y.code) a.bids.profile)
    ++ sequencerBytes a.seq
    ++ (bOpt 4 (fun t : Int => le32 (i32 t)) a.ice.lastTemp ++ b4 a.ice.fallCount ++ b4 a.ice.level
      ++ bOpt 2 (fun c : Nat × Slot => b1 c.1 ++ bSlot c.2) a.ice.candidate)
    ++ s.ringBytes

/-- R177: NOTICES. -/
def State.noticesBytes (s : State) : List Byte :=
  b4 s.act.notices.held.length
    ++ s.act.notices.held.flatMap fun h => heldNoticeBytes (s.act.notices.isCurrent h.notice.id) h

/-- R177: COUNTERS. -/
def State.countersBytes (s : State) : List Byte :=
  let k := s.act.link
  b2 k.framesSent ++ b2 k.collisions ++ b2 k.lateCollisions ++ b2 k.discards ++ b2 k.crcErrors
    ++ b2 k.unknownKinds ++ b2 s.env.cls.badSamples

/-- R177: CONFIG, its status and payload; with NO_CONFIG the payload is one byte, 0 or the reason (log 20). -/
def State.configReply (s : State) : Nat × List Byte :=
  match s.env.cfg, s.act.startup.load with
  | some c, _ => (0, c.bytes)
  | none, .rejected r => (3, b1 r)
  | none, _ => (3, [0])

/-! ### EVENTS and ACK (R176) -/

/-- R176: how many records EVENTS n asks for. -/
def eventsArg (n : Nat) : Nat := if n = 0 then 1 else min 16 n

def State.eventsBytes (n : Half) (s : State) : List Byte :=
  (s.ring.records.take (eventsArg n.toNat)).flatMap recordBytes

/-- R173: the marker of the records dropped. -/
def overrunEntry (r : Ring) (a : Act) : LogEntry :=
  { code := .overrun, subject := 255, data0 := r.firstDropped.zeroExtend 16, data1 := n32 r.dropped
    mode := n8 a.startup.mode.code, seqState := n8 a.seq.state.toCode.code }

/-- R174, R176: ACK k on the ring. -/
def State.ackRing (k : Nat) (s : State) : Ring :=
  let r := s.ring
  let n := min k r.records.length
  let kept := { r with records := r.records.drop n }
  let marked :=
    if 0 < n ∧ 0 < r.dropped then { kept.write s.env.now (overrunEntry r s.act) with dropped := 0 } else kept
  Ring.attend { marked with busy := false, moderation := s.interval }

/-- R176: the payload of ACK's reply, from the number removed and the ring it leaves. -/
def ackBytes (removed : Nat) (r : Ring) : List Byte :=
  b2 removed ++ b2 r.records.length
    ++ le16 (match r.records with | x :: _ => x.seq | [] => 0)

/-! ### Replies (R175) -/

/-- R175: command code, status, payload length, payload, CRC. -/
def replyBytes (code status : Nat) (payload : List Byte) : List Byte :=
  let body := [n8 code, n8 status] ++ b2 payload.length ++ payload
  body ++ le16 (crc body)

/-- A command is judged: nothing is gathered any more, and the reply is sent. -/
def State.reply (code status : Nat) (payload : List Byte) (s : State) : State :=
  { s with port := { gathered := [], gapTimer := none, reply := some (replyBytes code status payload) } }

/-- A whole command arrives; while a reply is being sent its bytes are discarded (R175; log 10). -/
def State.command (f : State → State) (s : State) : State := if s.port.reply.isSome then s else f s

def State.statusCommand (s : State) : State := s.reply 1 0 s.statusBytes

def State.eventsCommand (n : Half) (s : State) : State := s.reply 2 0 (s.eventsBytes n)

def State.ackCommand (k : Half) (s : State) : State :=
  let r := s.ackRing k.toNat
  { s with ring := r }.reply 3 0 (ackBytes (min k.toNat s.ring.records.length) r)

def State.peersCommand (s : State) : State := s.reply 4 0 (tableBytes s.env.pv)

def State.noticesCommand (s : State) : State := s.reply 5 0 s.noticesBytes

def State.configCommand (s : State) : State := s.reply 6 s.configReply.1 s.configReply.2

def State.countersCommand (s : State) : State := s.reply 7 0 s.countersBytes

/-- R175: the CRC fails. -/
def State.badFrame (code : Byte) (s : State) : State := s.reply code.toNat 1 []

/-- R175: the code is not one of the seven. -/
def State.unknownCommand (code : Byte) (s : State) : State := s.reply code.toNat 2 []

/-- R175: a command whose CRC is right. -/
def State.takeCommand (code : Byte) (arg : Half) (s : State) : State :=
  match code.toNat with
  | 1 => s.statusCommand
  | 2 => s.eventsCommand arg
  | 3 => s.ackCommand arg
  | 4 => s.peersCommand
  | 5 => s.noticesCommand
  | 6 => s.configCommand
  | 7 => s.countersCommand
  | _ => s.unknownCommand code

/-- R175: the five bytes gathered are judged. -/
def State.judge (b0 c1 c2 d0 d1 : Byte) (s : State) : State :=
  if le16 (crc [b0, c1, c2]) = [d0, d1] then s.takeCommand b0 (join16 c1 c2) else s.badFrame b0

/-- R175: a byte arrives while no reply is being sent. -/
def State.gather (b : Byte) (s : State) : State :=
  match s.port.gathered ++ [b] with
  | [b0, c1, c2, d0, d1] => s.judge b0 c1 c2 d0 d1
  | bytes => { s with port := { s.port with gathered := bytes, gapTimer := some 5 } }

/-- R175: the gap has passed; the bytes gathered are discarded. -/
def State.gapExpired (s : State) : State := { s with port := { s.port with gathered := [], gapTimer := none } }

/-- R175: the last byte of the reply is sent. -/
def State.replyEnded (s : State) : State := { s with port := { s.port with reply := none } }

end Sys2Proof.Machine
end

