-- ==== Sys2Proof/Machine/Outputs.lean ====
section
/-! DEFINITION. What the part drives: its outputs toward the roof, the attention line, the consist link and the SPI controller port
of the configuration memory, each a function of the state (R20 to R30, R36, R40, R53, R56, R156, R163, R174; log 28). -/

namespace Sys2Proof.Machine

/-- R21 to R23: the move command, toward the target of a travel. -/
def Act.moveCommand (a : Act) : Option Supply :=
  match a.selector.state with
  | .moving y => some y
  | .rest _ | .unknown | .fault => none

/-- R24, R25: the close coil of an isolator. -/
def Act.closeCoil (i : Slot) (a : Act) : Bool := decide ((a.isolators.get i).state = .closing)

/-- R26, R27: the open coil of an isolator. -/
def Act.openCoil (i : Slot) (a : Act) : Bool :=
  match (a.isolators.get i).state with
  | .opening driven => driven
  | .fault => true
  | .opened | .closing | .closed => false

/-- R28, R29: the breaker's close command. -/
def Act.closeCommand (a : Act) : Bool := decide (a.breaker.state = .closing)

/-- R28 to R30: the breaker's hold output. -/
def Act.holdOutput (a : Act) : Bool := BreakerState.isLive a.breaker.state

/-- R36: the coupling network of the Roof Test Unit. -/
def Act.coupled (a : Act) : Bool := a.test.running

/-- R40: the raise valve enable of a slot. -/
def SlotRec.valve (r : SlotRec) : Bool :=
  match r.lift with
  | .rising | .up | .lowering .awaitingIsolator => true
  | .down | .dropped | .lowering .venting => false

/-- R40, R53: the pressure output of a slot, in kPa. -/
def SlotRec.pressureOutput (r : SlotRec) : Nat := if r.valve then r.pressure else 0

/-- R156: the head heater of a slot. -/
def Act.headHeater (i : Slot) (a : Act) : Bool :=
  decide (Heater.collectorHead i ∈ a.ice.heaters) || decide (Heater.scraperHead i ∈ a.ice.heaters)

/-- R156: the insulator heater. -/
def Act.insulatorHeater (a : Act) : Bool := decide (Heater.insulator ∈ a.ice.heaters)

/-- R174: the attention output. -/
def State.attention (s : State) : Bool := s.ring.busy

/-- What the station sends on the line: ON_WIRE the bits of its frame (R56, R57), JAMMING sixteen bits of 0 (R63). -/
def State.sending (s : State) : Option (List Bool) :=
  match s.act.link.head with
  | some h =>
    match h.access with
    | .onWire => some (wireBits s.act.station h.entry.frame)
    | .jamming _ => some (List.replicate 16 false)
    | .deferring => none
    | .backoff _ => none
  | none => none

/-- R163: what an attempt does on the SPI controller port: a read command for an address, and behind it so many bytes clocked in.
The manual gives the command no bits (log 46). -/
structure MemoryRead where
  attempt : Nat
  address : Nat
  length : Nat
  deriving DecidableEq, Repr

/-- R163: the read under way, one for each attempt: for address 0, with the block's 256 bytes behind it. -/
def Act.memoryRead (a : Act) : Option MemoryRead :=
  a.startup.attempt.map fun n => { attempt := n, address := 0, length := 256 }

end Sys2Proof.Machine
end

