-- ==== Sys2Proof/Machine/ClassifierCommands.lean ====
section
/-! DEFINITION. The power-on reset and the commands of the Line Classifier. -/

namespace Sys2Proof.Machine

/-- POWER_ON_RESET, R171: every block takes its power-on values, with the inputs at the given levels (log 3). -/
def execPowerOnReset (pins : Pins) (s : State) : Host.Outcome State Fault Refusal :=
  .next (s.event fun s => s.powerOn pins)

/-- SAMPLE_FRAME, R2. -/
def execSampleFrame (code : BitVec 16) (parity : Bool) (s : State) : Host.Outcome State Fault Refusal :=
  .next (s.event fun s => s.classifier fun c => c.arrive code parity)

/-- LOSS_TIMER_EXPIRY, R3. -/
def execLossTimerExpiry (s : State) : Host.Outcome State Fault Refusal :=
  .next (s.event fun s => s.onExpiry s.env.cls.lossTimer fun s => s.classifier Classifier.lossExpired)

/-- SILENCE_TIMER_EXPIRY, R3. -/
def execSilenceTimerExpiry (s : State) : Host.Outcome State Fault Refusal :=
  .next (s.event fun s => s.onExpiry s.env.cls.silenceTimer fun s => s.classifier Classifier.silenceExpired)

/-- SURGE_MASK_EXPIRY, R7. -/
def execSurgeMaskExpiry (s : State) : Host.Outcome State Fault Refusal :=
  .next (s.event fun s => s.onExpiry s.env.cls.surgeMask fun s => s.classifier Classifier.maskExpired)

end Sys2Proof.Machine
end

