-- ==== Sys2Proof/Machine/SwitchgearCommands.lean ====
section
/-! DEFINITION. The commands of the Switchgear Interlock and the Roof Test Unit. -/

namespace Sys2Proof.Machine

/-! ### Contacts: the level at the input changes first, then the block reads it -/

def State.setPins (p : Pins) (s : State) : State := { s with env := { s.env with pins := p } }

/-- R22, R23: an end switch of the selector comes to show closed or open. -/
def State.endSwitchShows (p : Position) (closed : Bool) (s : State) : State :=
  let pins := s.env.pins
  (s.setPins { pins with selector := Switches.set pins.selector p closed }).onAct fun e a => a.endSwitch e p closed

/-- R25 to R27: an isolator's auxiliary contact comes to show `c`. -/
def State.isolatorShows (i : Slot) (c : Contact) (s : State) : State :=
  let pins := s.env.pins
  (s.setPins { pins with isolators := pins.isolators.set i c }).onAct fun e a => a.isolatorContact e i c

/-- R29, R30, R32: the breaker's auxiliary contact comes to show CLOSED or OPEN. -/
def State.breakerShows (closed : Bool) (s : State) : State :=
  let pins := s.env.pins
  (s.setPins { pins with breakerClosed := closed }).onAct fun e a => a.breakerContact e closed

/-- R22: the end switch of a travel's target closes. -/
def State.travelEnded (s : State) : State :=
  match s.act.selector.state with
  | .moving y => s.endSwitchShows (.system y) true
  | .rest _ | .unknown | .fault => s

/-! ### The commands -/

/-- SELECTOR_TRAVEL_END, R22. -/
def execSelectorTravelEnd (s : State) : Host.Outcome State Fault Refusal :=
  .next (s.event fun s => s.travelEnded)

/-- SELECTOR_TRAVEL_TIMEOUT, R22. -/
def execSelectorTravelTimeout (s : State) : Host.Outcome State Fault Refusal :=
  .next (s.event fun s => s.onExpiry s.act.selector.timer fun s => s.onAct fun e a => a.travelTimeout e)

/-- SELECTOR_END_SWITCH_CHANGE, R23. -/
def execSelectorEndSwitchChange (position : Position) (closed : Bool) (s : State) : Host.Outcome State Fault Refusal :=
  .next (s.event fun s => s.endSwitchShows position closed)

/-- ISOLATOR_CLOSED, R25. -/
def execIsolatorClosed (slot : Slot) (s : State) : Host.Outcome State Fault Refusal :=
  .next (s.event fun s => s.isolatorShows slot .closed)

/-- ISOLATOR_OPENED, R26. -/
def execIsolatorOpened (slot : Slot) (s : State) : Host.Outcome State Fault Refusal :=
  .next (s.event fun s => s.isolatorShows slot .opened)

/-- ISOLATOR_TIMEOUT, R27. -/
def execIsolatorTimeout (slot : Slot) (s : State) : Host.Outcome State Fault Refusal :=
  .next (s.event fun s => s.onExpiry (s.act.isolators.get slot).timer fun s => s.onAct fun e a => a.isolatorTimeout e slot)

/-- ISOLATOR_CONTACT_CONFLICT, R27. -/
def execIsolatorContactConflict (slot : Slot) (contact : Contact) (s : State) : Host.Outcome State Fault Refusal :=
  .next (s.event fun s => s.isolatorShows slot contact)

/-- BREAKER_CLOSED, R29: the contact shows CLOSED. -/
def execBreakerClosed (s : State) : Host.Outcome State Fault Refusal :=
  .next (s.event fun s =>
    (s.setPins { s.env.pins with breakerClosed := true }).onAct fun e a => a.breakerCloses e)

/-- BREAKER_CLOSE_TIMEOUT, R29. -/
def execBreakerCloseTimeout (s : State) : Host.Outcome State Fault Refusal :=
  .next (s.event fun s => s.onExpiry s.act.breaker.timer fun s => s.onAct fun e a => a.breakerCloseTimeout e)

/-- BREAKER_OPENED, R30. -/
def execBreakerOpened (s : State) : Host.Outcome State Fault Refusal :=
  .next (s.event fun s => s.breakerShows false)

/-- BREAKER_OPEN_TIMEOUT, R30. -/
def execBreakerOpenTimeout (s : State) : Host.Outcome State Fault Refusal :=
  .next (s.event fun s => s.onExpiry s.act.breaker.timer fun s => s.onAct fun _ a => a.breakerOpenTimeout)

/-- BREAKER_CONTACT_CONFLICT, R30: the contact shows CLOSED. -/
def execBreakerContactConflict (s : State) : Host.Outcome State Fault Refusal :=
  .next (s.event fun s => s.breakerShows true)

/-- BREAKER_TRIP, R32: the contact shows OPEN. -/
def execBreakerTrip (s : State) : Host.Outcome State Fault Refusal :=
  .next (s.event fun s => s.breakerShows false)

/-- ROOF_TEST_COMPLETION, R37. -/
def execRoofTestCompletion (reflection : Option Reflection) (s : State) : Host.Outcome State Fault Refusal :=
  .next (s.event fun s => s.onAct fun e a => a.completeTest e reflection)

end Sys2Proof.Machine
end

