-- ==== Sys2Proof/Machine/LiftCommands.lean ====
section
/-! DEFINITION. The commands of the Lift Drive: contacts, timers and slot orders. -/

namespace Sys2Proof.Machine

/-- R42: a slot's up switch comes to show closed or open. -/
def State.upShows (i : Slot) (closed : Bool) (s : State) : State :=
  let pins := s.env.pins
  (s.setPins { pins with up := pins.up.set i closed }).onAct fun _ a => a.upSwitch i closed

/-- R44: a slot's down switch comes to show closed or open. -/
def State.downShows (i : Slot) (closed : Bool) (s : State) : State :=
  let pins := s.env.pins
  (s.setPins { pins with down := pins.down.set i closed }).onAct fun _ a => a.downSwitch i closed

/-- R45: a slot's ADD contact comes to show operated or normal. -/
def State.addShows (i : Slot) (operated : Bool) (s : State) : State :=
  let pins := s.env.pins
  (s.setPins { pins with add := pins.add.set i operated }).onAct fun e a => a.addContact e i operated

/-- SLOT_UP, R42. -/
def execSlotUp (slot : Slot) (closed : Bool) (s : State) : Host.Outcome State Fault Refusal :=
  .next (s.event fun s => s.upShows slot closed)

/-- RISE_TIMEOUT, R42. -/
def execRiseTimeout (slot : Slot) (s : State) : Host.Outcome State Fault Refusal :=
  .next (s.event fun s => s.onExpiry (s.act.slots.get slot).riseTimer fun s => s.onAct fun e a => a.riseTimeout e slot)

/-- SLOT_DOWN, R44. -/
def execSlotDown (slot : Slot) (closed : Bool) (s : State) : Host.Outcome State Fault Refusal :=
  .next (s.event fun s => s.downShows slot closed)

/-- LOWER_TIMEOUT, R44. -/
def execLowerTimeout (slot : Slot) (s : State) : Host.Outcome State Fault Refusal :=
  .next (s.event fun s => s.onExpiry (s.act.slots.get slot).lowerTimer fun s => s.onAct fun _ a => a.lowerTimeout slot)

/-- SLOT_DROPPED, R45. -/
def execSlotDropped (slot : Slot) (operated : Bool) (s : State) : Host.Outcome State Fault Refusal :=
  .next (s.event fun s => s.addShows slot operated)

/-- LOCK, R47. -/
def execLock (dst src mask : Byte) (arg : Half) (s : State) : Host.Outcome State Fault Refusal :=
  .next (s.event fun s => s.receive dst src (.order .lock mask arg) s.env.pins.temperature)

/-- UNLOCK, R48. -/
def execUnlock (dst src mask : Byte) (arg : Half) (s : State) : Host.Outcome State Fault Refusal :=
  .next (s.event fun s => s.receive dst src (.order .unlock mask arg) s.env.pins.temperature)

/-- CLEAR_FAULT_SLOTS, R49; a mask that names no slot acts on the switchgear (R34). -/
def execClearFaultSlots (dst src mask : Byte) (arg : Half) (s : State) : Host.Outcome State Fault Refusal :=
  .next (s.event fun s => s.receive dst src (.order .clearFault mask arg) s.env.pins.temperature)

/-- CLEAR_FAULT_SWITCHGEAR, R34; a mask that names a slot acts on the slots (R49). -/
def execClearFaultSwitchgear (dst src mask : Byte) (arg : Half) (s : State) : Host.Outcome State Fault Refusal :=
  .next (s.event fun s => s.receive dst src (.order .clearFault mask arg) s.env.pins.temperature)

/-- PREFER, R50. -/
def execPrefer (dst src mask : Byte) (arg : Half) (s : State) : Host.Outcome State Fault Refusal :=
  .next (s.event fun s => s.receive dst src (.order .prefer mask arg) s.env.pins.temperature)

end Sys2Proof.Machine
end

