-- ==== Sys2Proof/Machine/StartupCommands.lean ====
section
/-! DEFINITION. The commands of the Start-up Controller: its orders, the load, the mode timers, the arming timer. -/

namespace Sys2Proof.Machine

/-- R163, R164: an attempt's last byte is in; the buffer is judged. -/
def State.attemptEnded (buffer : List Byte) (s : State) : State :=
  match s.act.startup.attempt with
  | some n =>
    let b := blockOf buffer
    if !readCorrect b then
      (if n < 3 then s.onAct fun _ a => a.setStartup { a.startup with load := .reading (n + 1) }
      else s.onAct fun e a => a.rejectLoad e 1 0)
    else match configFailure b with
      | some (reason, offset) => s.onAct fun e a => a.rejectLoad e reason offset
      | none =>
        let c := readBlock b
        { s with env := { s.env with cfg := some c } }.onAct fun e a => a.acceptLoad e c n
  | none => s

/-- MUTE, R167. -/
def execMute (dst src mask : Byte) (arg : Half) (s : State) : Host.Outcome State Fault Refusal :=
  .next (s.event fun s => s.receive dst src (.order .mute mask arg) s.env.pins.temperature)

/-- UNMUTE, R168. -/
def execUnmute (dst src mask : Byte) (arg : Half) (s : State) : Host.Outcome State Fault Refusal :=
  .next (s.event fun s => s.receive dst src (.order .unmute mask arg) s.env.pins.temperature)

/-- RESET_ARM, R169. -/
def execResetArm (dst src mask : Byte) (arg : Half) (s : State) : Host.Outcome State Fault Refusal :=
  .next (s.event fun s => s.receive dst src (.order .resetArm mask arg) s.env.pins.temperature)

/-- RESET, R170: `temperature` is what the roof temperature input reads at the end of the reset it may cause. -/
def execReset (dst src mask : Byte) (arg : Half) (temperature : Int) (s : State) : Host.Outcome State Fault Refusal :=
  .next (s.event fun s => s.receive dst src (.order .reset mask arg) temperature)

/-- ARMING_TIMER_EXPIRY, R169. -/
def execArmingTimerExpiry (s : State) : Host.Outcome State Fault Refusal :=
  .next (s.event fun s => s.onExpiry s.act.startup.armingTimer fun s => s.onAct fun _ a => a.disarm 2)

/-- CONFIG_ATTEMPT_END, R163. -/
def execConfigAttemptEnd (buffer : List Byte) (s : State) : Host.Outcome State Fault Refusal :=
  .next (s.event fun s => s.attemptEnded buffer)

/-- LISTEN_TIMER_EXPIRY, R165. -/
def execListenTimerExpiry (s : State) : Host.Outcome State Fault Refusal :=
  .next (s.event fun s => s.onExpiry s.act.startup.listenTimer fun s => s.onAct fun e a => a.listenExpired e)

/-- JOIN_TIMER_EXPIRY, R165. -/
def execJoinTimerExpiry (s : State) : Host.Outcome State Fault Refusal :=
  .next (s.event fun s => s.onExpiry s.act.startup.joinTimer fun s => s.onAct fun e a => a.joinExpired e)

end Sys2Proof.Machine
end

