-- ==== Sys2Proof/Machine/LinkCommands.lean ====
section
/-! DEFINITION. The commands of the Consist Link Controller. -/

namespace Sys2Proof.Machine

/-- R64: the jam's end, with the next draw of the random generator as the gate's opening seeded it (log 5). -/
def State.jamEnded (s : State) : State :=
  { s.onAct fun _ a => a.jamEnd (Config.backoffDraw a.link.seed s.freeIndex) with freeIndex := s.freeIndex + 1 }

/-- STATE_TIMER_EXPIRY, R60. -/
def execStateTimerExpiry (s : State) : Host.Outcome State Fault Refusal :=
  .next (s.event fun s => s.onExpiry s.act.link.stateTimer fun s => s.onAct fun e a => a.stateTimerExpired e)

/-- ATTEMPT_START, R62. -/
def execAttemptStart (s : State) : Host.Outcome State Fault Refusal :=
  .next (s.event fun s => s.onAct fun _ a => a.attemptStart)

/-- COLLISION, R63: the bit at that place of the frame, counted from the first preamble bit, reads 0. -/
def execCollision (bit : Nat) (s : State) : Host.Outcome State Fault Refusal :=
  .next (s.event fun s => s.onAct fun _ a => a.collide bit)

/-- JAM_END, R64. -/
def execJamEnd (s : State) : Host.Outcome State Fault Refusal :=
  .next (s.event fun s => s.jamEnded)

/-- BACKOFF_EXPIRY, R64. -/
def execBackoffExpiry (s : State) : Host.Outcome State Fault Refusal :=
  .next (s.event fun s => s.onAct fun _ a => a.backoffEnd)

/-- FRAME_SENT, R65. -/
def execFrameSent (s : State) : Host.Outcome State Fault Refusal :=
  .next (s.event fun s => s.onAct fun _ a => a.frameSent)

/-- FRAMING_ERROR, R66: line activity after a delimiter, up to the line's going idle. -/
def execFramingError (bytes : List Byte) (s : State) : Host.Outcome State Fault Refusal :=
  .next (s.event fun s => s.receiveBytes bytes)

/-- UNKNOWN_KIND, R68: a frame that passed R66, with its kind and payload still to be checked. -/
def execUnknownKind (dst src kind : Byte) (payload : List Byte) (s : State) : Host.Outcome State Fault Refusal :=
  .next (s.event fun s => s.receiveRaw dst src kind payload)

end Sys2Proof.Machine
end

