-- ==== Sys2Proof/Machine/TrainCommands.lean ====
section
/-! DEFINITION. The frames of peers and cabs, and the timers of Peer View, Bid Unit and Notice Queue. -/

namespace Sys2Proof.Machine

/-- The expiry of a timer of a peer's entry; nothing where there is no such entry. -/
def State.onPeerExpiry (address : Nat) (timer : Peer → Timer) (k : State → State) (s : State) : State :=
  match s.env.pv.entry address with
  | some p => s.onExpiry (timer p) k
  | none => s

/-- R87: the extrapolation reaches 1,000 ms; nothing while ODO_STALE is set. -/
def State.capReached (s : State) : State :=
  let g := s.env.pv.geometry
  if g.odoStale then s else (s.elapse (1000 - g.age s.env.now)).odometerStale

/-- R105: the spacing timer has expired. -/
def Act.spacingExpired (a : Act) : Act := ({ a with bids := { a.bids with spacingTimer := none } }).evalDue

/-- R119: the review timer of the Notice Queue has expired. -/
def Act.noticeReview (e : Env) (a : Act) : Act :=
  ({ a with notices := { a.notices with reviewTimer := some 10 } }).reviewNotices e

/-- STATE_ROOF, R76. -/
def execStateRoof (dst src : Byte) (p : RoofPayload) (s : State) : Host.Outcome State Fault Refusal :=
  .next (s.event fun s => s.receive dst src (.stateRoof p) s.env.pins.temperature)

/-- STATE_CAB, R76. -/
def execStateCab (dst src : Byte) (p : CabPayload) (s : State) : Host.Outcome State Fault Refusal :=
  .next (s.event fun s => s.receive dst src (.stateCab p) s.env.pins.temperature)

/-- PEER_AGE_EXPIRY, R77. -/
def execPeerAgeExpiry (address : Nat) (s : State) : Host.Outcome State Fault Refusal :=
  .next (s.event fun s => s.onPeerExpiry address Peer.ageTimer fun s => s.peerAged address)

/-- PEER_REMOVAL_EXPIRY, R77. -/
def execPeerRemovalExpiry (address : Nat) (s : State) : Host.Outcome State Fault Refusal :=
  .next (s.event fun s => s.onPeerExpiry address Peer.removalTimer fun s => s.peerRemoved address)

/-- BID, R79, R102. -/
def execBid (dst src : Byte) (b : BidPayload) (s : State) : Host.Outcome State Fault Refusal :=
  .next (s.event fun s => s.receive dst src (.bid b) s.env.pins.temperature)

/-- CEDE, R80. -/
def execCede (dst src : Byte) (number : Byte) (s : State) : Host.Outcome State Fault Refusal :=
  .next (s.event fun s => s.receive dst src (.cede number) s.env.pins.temperature)

/-- PEER_BID_TIMER_EXPIRY, R80. -/
def execPeerBidTimerExpiry (address : Nat) (s : State) : Host.Outcome State Fault Refusal :=
  .next (s.event fun s => s.onPeerExpiry address Peer.bidTimer fun s => s.peerBidExpired address)

/-- ALERT, R81, R153. -/
def execAlert (dst src : Byte) (x : Alert) (s : State) : Host.Outcome State Fault Refusal :=
  .next (s.event fun s => s.receive dst src (.alert x) s.env.pins.temperature)

/-- AUTHORITY_HOLD_EXPIRY, R83. -/
def execAuthorityHoldExpiry (s : State) : Host.Outcome State Fault Refusal :=
  .next (s.event fun s => s.onExpiry s.env.pv.holdTimer State.holdExpired)

/-- ODO_STALE, R87. -/
def execOdoStale (s : State) : Host.Outcome State Fault Refusal :=
  .next (s.event fun s => s.capReached)

/-- BID_WINDOW_EXPIRY, R103. -/
def execBidWindowExpiry (s : State) : Host.Outcome State Fault Refusal :=
  .next (s.event fun s => s.onExpiry s.act.bids.windowTimer fun s => s.onAct fun e a => a.windowExpired e)

/-- BID_SPACING_EXPIRY, R105. -/
def execBidSpacingExpiry (s : State) : Host.Outcome State Fault Refusal :=
  .next (s.event fun s => s.onExpiry s.act.bids.spacingTimer fun s => s.onAct fun _ a => a.spacingExpired)

/-- ROUTE, R112. -/
def execRoute (dst src : Byte) (n : Notice) (s : State) : Host.Outcome State Fault Refusal :=
  .next (s.event fun s => s.receive dst src (.route n) s.env.pins.temperature)

/-- CANCEL, R116. -/
def execCancel (dst src : Byte) (id : Byte) (s : State) : Host.Outcome State Fault Refusal :=
  .next (s.event fun s => s.receive dst src (.cancel id) s.env.pins.temperature)

/-- NOTICE_REVIEW_TIMER_EXPIRY, R119. -/
def execNoticeReviewTimerExpiry (s : State) : Host.Outcome State Fault Refusal :=
  .next (s.event fun s => s.onExpiry s.act.notices.reviewTimer fun s => s.onAct fun e a => a.noticeReview e)

end Sys2Proof.Machine
end

