-- ==== Sys2Proof/Machine/SequencerCommands.lean ====
section
/-! DEFINITION. The commands of the Roof Sequencer: RESUME and its timers. -/

namespace Sys2Proof.Machine

/-- RESUME, R144. -/
def execResume (dst src mask : Byte) (arg : Half) (s : State) : Host.Outcome State Fault Refusal :=
  .next (s.event fun s => s.receive dst src (.order .resume mask arg) s.env.pins.temperature)

/-- SEQ_RETRY_EXPIRY, R124. -/
def execSeqRetryExpiry (s : State) : Host.Outcome State Fault Refusal :=
  .next (s.event fun s => s.onExpiry s.act.seq.retryTimer fun s => s.onAct fun e a => a.retryExpired e)

/-- TEST_RETRY_EXPIRY, R128. -/
def execTestRetryExpiry (s : State) : Host.Outcome State Fault Refusal :=
  .next (s.event fun s => s.onExpiry s.act.seq.testRetryTimer fun s => s.onAct fun e a => a.testRetryExpired e)

/-- POWERLESS_TIMER_EXPIRY, R129. -/
def execPowerlessTimerExpiry (s : State) : Host.Outcome State Fault Refusal :=
  .next (s.event fun s => s.onExpiry s.act.seq.powerlessTimer fun s => s.onAct fun _ a => a.powerlessExpired)

/-- NO_SUPPLY_TIMER_EXPIRY, R131. -/
def execNoSupplyTimerExpiry (s : State) : Host.Outcome State Fault Refusal :=
  .next (s.event fun s => s.onExpiry s.act.seq.noSupplyTimer fun s => s.onAct fun _ a => a.noSupplyExpired)

/-- RECLOSE_HOLD_EXPIRY, R136. -/
def execRecloseHoldExpiry (s : State) : Host.Outcome State Fault Refusal :=
  .next (s.event fun s => s.onExpiry s.act.seq.recloseHold fun s => s.onAct fun e a => a.recloseHoldExpired e)

/-- SEQ_REVIEW_TIMER_EXPIRY, R134. -/
def execSeqReviewTimerExpiry (s : State) : Host.Outcome State Fault Refusal :=
  .next (s.event fun s => s.onExpiry s.act.seq.reviewTimer fun s => s.onAct fun e a => a.seqReview e)

end Sys2Proof.Machine
end

