-- ==== Sys2Proof/Machine/IceCommands.lean ====
section
/-! DEFINITION. The commands of the Ice Unit. -/

namespace Sys2Proof.Machine

/-- R157: the review timer of the Ice Unit has expired. -/
def Act.iceReviewExpired (e : Env) (a : Act) : Act := (a.setIce { a.ice with reviewTimer := some 10 }).iceNotices e

/-- R150: the roof temperature input reads `t`. -/
def State.temperatureReads (t : Int) (s : State) : State := s.setPins { s.env.pins with temperature := t }

/-- ARC_PULSE, R147: a pulse of that many µs. -/
def execArcPulse (slot : Slot) (micros : Nat) (s : State) : Host.Outcome State Fault Refusal :=
  .next (s.event fun s => s.onAct fun _ a => a.arcPulse slot micros)

/-- ICE_INTERVAL_END, R148: the interval clock reaches its end, and the temperature input reads `reading`. -/
def execIceIntervalEnd (reading : Int) (s : State) : Host.Outcome State Fault Refusal :=
  .next (s.event fun s => s.onExpiry s.act.ice.intervalTimer fun s => (s.temperatureReads reading).onAct fun e a => a.intervalEnd e)

/-- ICE_REVIEW_TIMER_EXPIRY, R157. -/
def execIceReviewTimerExpiry (s : State) : Host.Outcome State Fault Refusal :=
  .next (s.event fun s => s.onExpiry s.act.ice.reviewTimer fun s => s.onAct fun e a => a.iceReviewExpired e)

end Sys2Proof.Machine
end

