-- ==== Sys2Proof/Machine/ServiceCommands.lean ====
section
/-! DEFINITION. The commands of the Event Ring and the Service Port. -/

namespace Sys2Proof.Machine

/-- R174: the moderation counter counts down to 0; nothing where it is 0 already. -/
def State.moderationEnds (s : State) : State := s.elapse s.ring.moderation

/-- MODERATION_COUNT_END, R174. -/
def execModerationCountEnd (s : State) : Host.Outcome State Fault Refusal :=
  .next (s.event fun s => s.moderationEnds)

/-- STATUS, R177. -/
def execStatus (s : State) : Host.Outcome State Fault Refusal :=
  .next (s.event fun s => s.command State.statusCommand)

/-- EVENTS, R176. -/
def execEvents (n : Half) (s : State) : Host.Outcome State Fault Refusal :=
  .next (s.event fun s => s.command fun s => s.eventsCommand n)

/-- ACK, R176. -/
def execAck (k : Half) (s : State) : Host.Outcome State Fault Refusal :=
  .next (s.event fun s => s.command fun s => s.ackCommand k)

/-- PEERS, R177. -/
def execPeers (s : State) : Host.Outcome State Fault Refusal :=
  .next (s.event fun s => s.command State.peersCommand)

/-- NOTICES, R177. -/
def execNotices (s : State) : Host.Outcome State Fault Refusal :=
  .next (s.event fun s => s.command State.noticesCommand)

/-- CONFIG, R177. -/
def execConfig (s : State) : Host.Outcome State Fault Refusal :=
  .next (s.event fun s => s.command State.configCommand)

/-- COUNTERS, R177. -/
def execCounters (s : State) : Host.Outcome State Fault Refusal :=
  .next (s.event fun s => s.command State.countersCommand)

/-- BAD_FRAME, R175: five bytes are gathered and judged. -/
def execBadFrame (c0 c1 c2 d0 d1 : Byte) (s : State) : Host.Outcome State Fault Refusal :=
  .next (s.event fun s => s.command fun s => s.judge c0 c1 c2 d0 d1)

/-- UNKNOWN_COMMAND, R175: five bytes with a right CRC are gathered and judged. -/
def execUnknownCommand (code : Byte) (arg : Half) (s : State) : Host.Outcome State Fault Refusal :=
  .next (s.event fun s => s.command fun s => s.takeCommand code arg)

/-- SERVICE_BYTE_GAP_EXPIRY, R175. -/
def execServiceByteGapExpiry (s : State) : Host.Outcome State Fault Refusal :=
  .next (s.event fun s => s.onExpiry s.port.gapTimer State.gapExpired)

/-- SERVICE_REPLY_END, R175. -/
def execServiceReplyEnd (s : State) : Host.Outcome State Fault Refusal :=
  .next (s.event fun s => s.replyEnded)

/-- SERVICE_BYTE, R175. -/
def execServiceByte (b : Byte) (s : State) : Host.Outcome State Fault Refusal :=
  .next (s.event fun s => s.command fun s => s.gather b)

end Sys2Proof.Machine
end

