-- ==== Sys2Proof/Machine/Dispatch.lean ====
section
/-! DEFINITION. One arm per command: `exec` hands each to its meaning. -/

namespace Sys2Proof.Machine

/-- A command's effect on everything but the queue. -/
def exec (i : Instr) (s : State) : Host.Outcome State Fault Refusal :=
  match i with
  | .powerOnReset pins => Sys2Proof.Machine.execPowerOnReset pins s
  | .sampleFrame code parity => Sys2Proof.Machine.execSampleFrame code parity s
  | .lossTimerExpiry => Sys2Proof.Machine.execLossTimerExpiry s
  | .silenceTimerExpiry => Sys2Proof.Machine.execSilenceTimerExpiry s
  | .surgeMaskExpiry => Sys2Proof.Machine.execSurgeMaskExpiry s
  | .selectorTravelEnd => Sys2Proof.Machine.execSelectorTravelEnd s
  | .selectorTravelTimeout => Sys2Proof.Machine.execSelectorTravelTimeout s
  | .selectorEndSwitchChange position closed => Sys2Proof.Machine.execSelectorEndSwitchChange position closed s
  | .isolatorClosed slot => Sys2Proof.Machine.execIsolatorClosed slot s
  | .isolatorOpened slot => Sys2Proof.Machine.execIsolatorOpened slot s
  | .isolatorTimeout slot => Sys2Proof.Machine.execIsolatorTimeout slot s
  | .isolatorContactConflict slot contact => Sys2Proof.Machine.execIsolatorContactConflict slot contact s
  | .breakerClosed => Sys2Proof.Machine.execBreakerClosed s
  | .breakerCloseTimeout => Sys2Proof.Machine.execBreakerCloseTimeout s
  | .breakerOpened => Sys2Proof.Machine.execBreakerOpened s
  | .breakerOpenTimeout => Sys2Proof.Machine.execBreakerOpenTimeout s
  | .breakerContactConflict => Sys2Proof.Machine.execBreakerContactConflict s
  | .breakerTrip => Sys2Proof.Machine.execBreakerTrip s
  | .roofTestCompletion reflection => Sys2Proof.Machine.execRoofTestCompletion reflection s
  | .slotUp slot closed => Sys2Proof.Machine.execSlotUp slot closed s
  | .riseTimeout slot => Sys2Proof.Machine.execRiseTimeout slot s
  | .slotDown slot closed => Sys2Proof.Machine.execSlotDown slot closed s
  | .lowerTimeout slot => Sys2Proof.Machine.execLowerTimeout slot s
  | .slotDropped slot operated => Sys2Proof.Machine.execSlotDropped slot operated s
  | .lock dst src mask arg => Sys2Proof.Machine.execLock dst src mask arg s
  | .unlock dst src mask arg => Sys2Proof.Machine.execUnlock dst src mask arg s
  | .clearFaultSlots dst src mask arg => Sys2Proof.Machine.execClearFaultSlots dst src mask arg s
  | .clearFaultSwitchgear dst src mask arg => Sys2Proof.Machine.execClearFaultSwitchgear dst src mask arg s
  | .prefer dst src mask arg => Sys2Proof.Machine.execPrefer dst src mask arg s
  | .resume dst src mask arg => Sys2Proof.Machine.execResume dst src mask arg s
  | .mute dst src mask arg => Sys2Proof.Machine.execMute dst src mask arg s
  | .unmute dst src mask arg => Sys2Proof.Machine.execUnmute dst src mask arg s
  | .resetArm dst src mask arg => Sys2Proof.Machine.execResetArm dst src mask arg s
  | .reset dst src mask arg temperature => Sys2Proof.Machine.execReset dst src mask arg temperature s
  | .armingTimerExpiry => Sys2Proof.Machine.execArmingTimerExpiry s
  | .stateTimerExpiry => Sys2Proof.Machine.execStateTimerExpiry s
  | .attemptStart => Sys2Proof.Machine.execAttemptStart s
  | .collision bit => Sys2Proof.Machine.execCollision bit s
  | .jamEnd => Sys2Proof.Machine.execJamEnd s
  | .backoffExpiry => Sys2Proof.Machine.execBackoffExpiry s
  | .frameSent => Sys2Proof.Machine.execFrameSent s
  | .framingError bytes => Sys2Proof.Machine.execFramingError bytes s
  | .unknownKind dst src kind payload => Sys2Proof.Machine.execUnknownKind dst src kind payload s
  | .stateRoof dst src p => Sys2Proof.Machine.execStateRoof dst src p s
  | .stateCab dst src p => Sys2Proof.Machine.execStateCab dst src p s
  | .peerAgeExpiry address => Sys2Proof.Machine.execPeerAgeExpiry address s
  | .peerRemovalExpiry address => Sys2Proof.Machine.execPeerRemovalExpiry address s
  | .bid dst src b => Sys2Proof.Machine.execBid dst src b s
  | .cede dst src number => Sys2Proof.Machine.execCede dst src number s
  | .peerBidTimerExpiry address => Sys2Proof.Machine.execPeerBidTimerExpiry address s
  | .alert dst src x => Sys2Proof.Machine.execAlert dst src x s
  | .authorityHoldExpiry => Sys2Proof.Machine.execAuthorityHoldExpiry s
  | .odoStale => Sys2Proof.Machine.execOdoStale s
  | .bidWindowExpiry => Sys2Proof.Machine.execBidWindowExpiry s
  | .bidSpacingExpiry => Sys2Proof.Machine.execBidSpacingExpiry s
  | .route dst src n => Sys2Proof.Machine.execRoute dst src n s
  | .cancel dst src id => Sys2Proof.Machine.execCancel dst src id s
  | .noticeReviewTimerExpiry => Sys2Proof.Machine.execNoticeReviewTimerExpiry s
  | .seqRetryExpiry => Sys2Proof.Machine.execSeqRetryExpiry s
  | .testRetryExpiry => Sys2Proof.Machine.execTestRetryExpiry s
  | .powerlessTimerExpiry => Sys2Proof.Machine.execPowerlessTimerExpiry s
  | .noSupplyTimerExpiry => Sys2Proof.Machine.execNoSupplyTimerExpiry s
  | .recloseHoldExpiry => Sys2Proof.Machine.execRecloseHoldExpiry s
  | .seqReviewTimerExpiry => Sys2Proof.Machine.execSeqReviewTimerExpiry s
  | .arcPulse slot micros => Sys2Proof.Machine.execArcPulse slot micros s
  | .iceIntervalEnd reading => Sys2Proof.Machine.execIceIntervalEnd reading s
  | .iceReviewTimerExpiry => Sys2Proof.Machine.execIceReviewTimerExpiry s
  | .configAttemptEnd buffer => Sys2Proof.Machine.execConfigAttemptEnd buffer s
  | .listenTimerExpiry => Sys2Proof.Machine.execListenTimerExpiry s
  | .joinTimerExpiry => Sys2Proof.Machine.execJoinTimerExpiry s
  | .moderationCountEnd => Sys2Proof.Machine.execModerationCountEnd s
  | .status => Sys2Proof.Machine.execStatus s
  | .events n => Sys2Proof.Machine.execEvents n s
  | .ack k => Sys2Proof.Machine.execAck k s
  | .peers => Sys2Proof.Machine.execPeers s
  | .notices => Sys2Proof.Machine.execNotices s
  | .config => Sys2Proof.Machine.execConfig s
  | .counters => Sys2Proof.Machine.execCounters s
  | .badFrame b0 b1 b2 b3 b4 => Sys2Proof.Machine.execBadFrame b0 b1 b2 b3 b4 s
  | .unknownCommand code arg => Sys2Proof.Machine.execUnknownCommand code arg s
  | .serviceByteGapExpiry => Sys2Proof.Machine.execServiceByteGapExpiry s
  | .serviceReplyEnd => Sys2Proof.Machine.execServiceReplyEnd s
  | .serviceByte b => Sys2Proof.Machine.execServiceByte b s

end Sys2Proof.Machine
end

