-- ==== Sys2Proof/Safety.lean ====
section
/-! DEFINITION. What the statements are about: the invariants of the blocks, which every step keeps, and the words with which a
command's conditions are said. -/

namespace Sys2Proof.Machine

/-! ### Line Classifier -/

/-- R8, R12: the classes that a measured window can have. -/
def measuredClass : WindowClass → Bool
  | .dead | .dc15 | .dc3 | .reverse | .ac15 | .ac25 | .unknown => true
  | .clipped | .void | .noWindow => false

/-- The ranges of R1, R2, R4, R6, R7, R12, R13, and the two timers of R3 of which exactly one runs. -/
structure Classifier.Inv (c : Classifier) : Prop where
  count : c.count < 960
  sum : c.sum.natAbs ≤ c.count * 32767
  squares : c.squares ≤ c.count * 1073676289
  crossings : 2 * c.crossings + flag c.armed ≤ c.count + 1
  voids : c.voids ≤ 3
  run : ∀ k n, c.run = some (k, n) → measuredClass k = true ∧ 1 ≤ n ∧ n ≤ 4
  badSamples : c.badSamples ≤ 65535
  maskedSurges : c.maskedSurges ≤ 65535
  timers : c.lossTimer.isSome = !c.silenceTimer.isSome

/-! ### Switchgear -/

def IsolatorState.isLive : IsolatorState → Bool
  | .closing | .closed => true
  | .opened | .opening _ | .fault => false

/-- R24: the two isolators are never both closing or closed. R28, R31: a breaker that is CLOSING or CLOSED has the selector
at rest at the position of the confirmed system and exactly one isolator CLOSED, the other OPEN. -/
structure Act.Interlocked (c : Confirmed) (a : Act) : Prop where
  isolators : IsolatorState.isLive a.isolators.zero.state = true →
    IsolatorState.isLive a.isolators.one.state = true → False
  breaker : BreakerState.isLive a.breaker.state = true →
    ∃ y, a.selector.state = .rest (.system y) ∧ c = .system y
      ∧ ((a.isolators.zero.state = .closed ∧ a.isolators.one.state = .opened)
        ∨ (a.isolators.zero.state = .opened ∧ a.isolators.one.state = .closed))

def State.Interlocked (s : State) : Prop := s.act.Interlocked s.env.cls.confirmed

/-! ### Lift Drive -/

/-- R39, R41 to R47: a duty is held only while raised; a locked or latched slot is not raised; a dropped slot is latched; the
pressure setpoint lies in its range. -/
structure SlotRec.Safe (r : SlotRec) : Prop where
  duty : r.duty ≠ .idle → r.lift = .rising ∨ r.lift = .up
  lock : r.locked = true ∨ r.latch = true → r.lift ≠ .rising ∧ r.lift ≠ .up
  dropped : r.lift = .dropped → r.latch = true
  pressure : r.pressure ≤ 600

/-- Both slots are safe, and they do not hold the same duty (R41: "At most one slot of a station has duty COLLECT, at most one has
duty SCRAPE"). -/
structure State.SlotsSafe (s : State) : Prop where
  safe : ∀ i, (s.act.slots.get i).Safe
  duties : s.act.slots.zero.duty = s.act.slots.one.duty → s.act.slots.zero.duty = .idle

/-! ### Consist Link Controller -/

/-- R58, R59, R73: the queue holds at most 8 entries, with nothing behind an absent head; the gate is OPEN only with an address
set; behind a CLOSED gate only an entry on the wire stays; the counters' ranges. -/
structure Link.Inv (k : Link) : Prop where
  length : k.length ≤ 8
  head : k.head = none → k.waiting = []
  gate : k.gateOpen = true → k.address.isSome = true
  closed : k.gateOpen = false → k.waiting = [] ∧ (k.head = none ∨ k.headOnTheWire = true)
  framesSent : k.framesSent ≤ 65535
  collisions : k.collisions ≤ 65535
  lateCollisions : k.lateCollisions ≤ 65535
  discards : k.discards ≤ 65535
  crcErrors : k.crcErrors ≤ 65535
  unknownKinds : k.unknownKinds ≤ 65535

/-! ### Peer View -/

/-- R75, R77, R79: the table in increasing order of distinct addresses 1 to 15, with each entry's timers as its freshness and
its pending bid say. R82, R83, R86: authority, conflict flag, hold and geometry as their rules say. -/
structure PeerView.Inv (v : PeerView) : Prop where
  order : (v.table.map Peer.address).Pairwise (· < ·)
  range : ∀ p ∈ v.table, 1 ≤ p.address ∧ p.address ≤ 15
  aging : ∀ p ∈ v.table, p.ageTimer.isSome = p.fresh ∧ p.removalTimer.isSome = !p.fresh
  bids : ∀ p ∈ v.table, p.bidTimer.isSome = p.bid.isSome
  authority : v.authority = authorityOf v.owners
  conflict : v.conflict = decide (2 ≤ v.owners.length)
  present : v.hold = .present ↔ v.authority.isSome = true
  holding : v.hold = .holding ↔ v.holdTimer.isSome = true
  speed : v.geometry.speed ≤ 4000
  length : v.geometry.length ≤ 8000

/-- R75: the station's own address is not in the table, and the table has no entries before the address is set; the address is
set when the mode leaves START (R165). -/
structure State.PeersInv (s : State) : Prop where
  view : s.env.pv.Inv
  own : ∀ p ∈ s.env.pv.table, s.act.link.address ≠ some p.address
  unset : s.act.link.address = none → s.env.pv.table = []
  start : s.act.startup.mode = .start → s.act.link.address = none

/-! ### Notice Queue -/

def NoticeQueue.MarkHeld (q : NoticeQueue) : Prop := ∀ id, q.current = some id → id ∈ q.held.map fun h => h.notice.id

/-- R111, R117: at most 6 notices with distinct ids, none of them 0, in strictly increasing start order, each with its end above
its start, no two overlapping; the mark names a held notice. -/
structure NoticeQueue.Inv (q : NoticeQueue) : Prop where
  length : q.held.length ≤ 6
  ids : (q.held.map fun h => h.notice.id).Nodup
  named : ∀ h ∈ q.held, h.notice.id ≠ 0
  ends : ∀ h ∈ q.held, h.notice.start.toNat < h.notice.stop.toNat
  order : q.held.Pairwise fun x y => x.notice.stop.toNat ≤ y.notice.start.toNat
  mark : q.MarkHeld

/-! ### Event Ring -/

/-- R172: the records are numbered in the order in which they joined, without a gap, up to the number last given. -/
def Ring.Numbered (r : Ring) : Prop :=
  r.records.map Record.seq = (List.range r.records.length).map fun n => r.sequence - n16 (r.records.length - n)

/-- R172 to R174: at most 128 records, numbered without a gap; records are dropped only while 128 are held; with records held and
the moderation counter at 0 the attention line is asserted. -/
structure Ring.Inv (r : Ring) : Prop where
  length : r.records.length ≤ 128
  numbered : r.Numbered
  dropped : 0 < r.dropped → r.records.length = 128
  droppedRange : r.dropped ≤ 4294967295
  attention : r.records ≠ [] → r.moderation = 0 → r.busy = true

/-! ### Words of the statements -/

/-- No report between the blocks is on its way and no review is due: the state between two events (log 1). -/
def State.Quiet (s : State) : Prop := s.act.inbox = Inbox.empty ∧ s.act.logs = []

/-- R66, R67: the receive lane listens, the station has the address `own`, and a frame with these header fields is another
node's and passes the address check. -/
structure State.Hears (s : State) (own : Nat) (dst src : Byte) : Prop where
  listening : s.act.link.readback = false
  address : s.act.link.address = some own
  source : 1 ≤ src.toNat ∧ src.toNat ≤ 15
  destination : dst.toNat ≤ 15
  other : src.toNat ≠ own

/-- R84: an order of that verb, heard so, is admitted: it is addressed to all or to the station, and its source may give it. -/
structure State.Admits (s : State) (own : Nat) (v : Verb) (dst src : Byte) : Prop where
  hears : s.Hears own dst src
  addressed : dst.toNat = 0 ∨ dst.toNat = own
  source : if v = .lock then 9 ≤ src.toNat else s.env.pv.authority = some src.toNat

/-- R169: no arming record stands that the frame would disarm. -/
def State.Unarmed (s : State) : Prop := s.act.startup.armedBy = none

/-- The command that a heard ORDER of a verb is (R72); `t` is read by RESET only. -/
def orderCommand (v : Verb) (dst src mask : Byte) (arg : Half) (t : Int) : Instr :=
  match v with
  | .lock => .lock dst src mask arg
  | .unlock => .unlock dst src mask arg
  | .clearFault => .clearFaultSlots dst src mask arg
  | .prefer => .prefer dst src mask arg
  | .resume => .resume dst src mask arg
  | .resetArm => .resetArm dst src mask arg
  | .reset => .reset dst src mask arg t
  | .mute => .mute dst src mask arg
  | .unmute => .unmute dst src mask arg

/-- R172: a record as it is written now, with the mode and the sequencer state of its writing. -/
def Act.entry (c : EventCode) (subject : Nat) (data0 : Half) (data1 : Word) (a : Act) : LogEntry :=
  { code := c, subject := n8 subject, data0 := data0, data1 := data1, mode := n8 a.startup.mode.code
    seqState := n8 a.seq.state.toCode.code }

/-- R2: the code's ones and its parity bit together are even in number. -/
def EvenParity (code : BitVec 16) (parity : Bool) : Prop :=
  (((List.range 16).filter fun n => code.getLsbD n).length + flag parity) % 2 = 0

/-- RISING or UP. -/
def SlotRec.Raised (r : SlotRec) : Prop := r.lift = .rising ∨ r.lift = .up

/-- R123, R124: the sequencer's state with its phase, its collector, and the requests of this stay that are unanswered. -/
structure Act.Stands (st : SeqState) (collector : Option Slot) (asked : List Request) (a : Act) : Prop where
  state : a.seq.state = st
  collector : a.seq.collector = collector
  asked : a.seq.awaiting = asked

/-- Another block has been told this. -/
def Act.Tells (r : Report) (a : Act) : Prop := r ∈ a.inbox.reports

/-- R127, R142: the slot is UP with duty COLLECT. -/
def Act.Collects (i : Slot) (a : Act) : Prop := (a.slots.get i).lift = .up ∧ (a.slots.get i).duty = .collect

/-- R59, R71: what an offered ALERT makes of the transmit lane: the queue takes it behind an OPEN gate where it holds fewer than
8 entries, and otherwise stays as it is. -/
def Link.Alerted (x : Alert) (k m : Link) : Prop :=
  if k.gateOpen = true ∧ k.length < 8 then
    m.lastAlert = some x
    ∧ (m.head.map TxHead.entry = some { frame := .alert x, requesters := [.other] }
      ∨ ({ frame := .alert x, requesters := [.other] } : TxEntry) ∈ m.waiting)
  else m = k

/-- R51, R52: both slots' setpoints are those of the active profile, the speed, the ice level and the duties as they stand. -/
def Act.SetpointsComputed (e : Env) (a : Act) : Prop :=
  ∀ y p i, a.bids.profile = some y → a.active e = some p →
    (a.slots.get i).compute y p (e.pv.geometry.speed / 10) a.ice.level = a.slots.get i

/-- R52: both slots keep force setpoint, pressure setpoint and setpoint profile. -/
def Act.SetpointsKept (a b : Act) : Prop :=
  ∀ i, (b.slots.get i).force = (a.slots.get i).force ∧ (b.slots.get i).pressure = (a.slots.get i).pressure
    ∧ (b.slots.get i).setProfile = (a.slots.get i).setProfile

/-- R82, R91: the records of a recomputation of the authority record that takes the view from `old` to `new`. -/
def Act.authorityRecords (old new : PeerView) (a : Act) : List LogEntry :=
  (if new.authority = old.authority then []
    else [a.entry .authorityChange 255 (n16 (new.authority.getD 0)) (n32 (old.authority.getD 0))])
    ++ if new.conflict = true ∧ old.conflict = false then [a.entry .authorityConflict 255 (n16 new.owners.length) 0]
      else []

/-- A reaction has put this report among those under way. -/
def State.Tells (s : State) (r : Report) : Prop := r ∈ s.act.inbox.reports

end Sys2Proof.Machine
end

