-- ==== Sys2Proof/Certificates/Slice0/Obligations.lean ====
section
/-! DEFINITION. The statements for the provers. A command's own effect is stated at the state at which the blocks settle (`b`, or a
state written out), the next state being `b.finish`; a value that settling cannot change is stated of the next state itself. -/

section

open Sys2Proof Sys2Proof.Machine

/-! ### The machine -/

/-- A step takes the command at the front of the queue and executes it with the queue's rest. -/
def Obligations.StepRunsTheFrontCommand : Prop :=
  ∀ (c : Instr) (rest : List Instr) (s : State),
    step { s with pending := c :: rest } = exec c { s with pending := rest }

/-- On an empty queue one millisecond passes (the model's choice, log 2): the time base goes on, every running timer and the
moderation counter run down by one, the attention line is asserted where the counter reaches 0 with records held, and nothing
else changes. -/
def Obligations.EmptyQueuePassesOneMillisecond : Prop :=
  ∀ s : State, s.pending = [] →
    let a := s.act
    let run (t : Timer) : Timer := t.map (· - 1)
    step s = .next
      { s with
        env :=
          { s.env with
            now := s.env.now + 1
            cls :=
              { s.env.cls with
                lossTimer := run s.env.cls.lossTimer, silenceTimer := run s.env.cls.silenceTimer
                surgeMask := run s.env.cls.surgeMask }
            pv :=
              { s.env.pv with
                table :=
                  s.env.pv.table.map fun p =>
                    { p with
                      ageTimer := run p.ageTimer, removalTimer := run p.removalTimer, bidTimer := run p.bidTimer }
                holdTimer := run s.env.pv.holdTimer } }
        act :=
          { a with
            selector := { a.selector with timer := run a.selector.timer }
            isolators :=
              ⟨{ a.isolators.zero with timer := run a.isolators.zero.timer },
                { a.isolators.one with timer := run a.isolators.one.timer }⟩
            breaker := { a.breaker with timer := run a.breaker.timer }
            slots :=
              ⟨{ a.slots.zero with
                  riseTimer := run a.slots.zero.riseTimer, lowerTimer := run a.slots.zero.lowerTimer },
                { a.slots.one with
                  riseTimer := run a.slots.one.riseTimer, lowerTimer := run a.slots.one.lowerTimer }⟩
            link := { a.link with stateTimer := run a.link.stateTimer }
            bids :=
              { a.bids with
                windowTimer := run a.bids.windowTimer, spacingTimer := run a.bids.spacingTimer }
            notices := { a.notices with reviewTimer := run a.notices.reviewTimer }
            seq :=
              { a.seq with
                retryTimer := run a.seq.retryTimer, testRetryTimer := run a.seq.testRetryTimer
                powerlessTimer := run a.seq.powerlessTimer, noSupplyTimer := run a.seq.noSupplyTimer
                recloseHold := run a.seq.recloseHold, reviewTimer := run a.seq.reviewTimer }
            ice :=
              { a.ice with intervalTimer := run a.ice.intervalTimer, reviewTimer := run a.ice.reviewTimer }
            startup :=
              { a.startup with
                listenTimer := run a.startup.listenTimer, joinTimer := run a.startup.joinTimer
                armingTimer := run a.startup.armingTimer } }
        ring :=
          { s.ring with
            moderation := s.ring.moderation - 1
            busy := s.ring.busy || decide (s.ring.records ≠ [] ∧ s.ring.moderation ≤ 1) }
        port := { s.port with gapTimer := run s.port.gapTimer } }

/-- Every command answers a next state in every state, and leaves the queue of the others as it is. -/
def Obligations.EveryCommandAnswersANextState : Prop :=
  ∀ (c : Instr) (s : State), ∃ t, exec c s = .next t ∧ t.pending = s.pending

/-- What the end of an event leaves: inputs, classifier, peer view, configuration, port; the slots' locks, latches and loaded
values, and no slot raised; the link's address and its six counters; the Ice Unit but for what its review writes, the heaters
and the candidate; device faults neither come nor go. The records of the event join the ring in the order in which they were
written. The order in which the blocks react is the model's choice (log 1). -/
def Obligations.EndOfEventFrame : Prop :=
  ∀ s : State, ∃ es,
    s.finish.pending = s.pending ∧ s.finish.env = s.env ∧ s.finish.port = s.port
    ∧ s.finish.freeIndex = s.freeIndex ∧ s.finish.act.logs = []
    ∧ s.finish.ring = s.ring.writeAll s.env.now (s.act.logs ++ es)
    ∧ s.finish.act.preferred = s.act.preferred
    ∧ (∀ i, (s.finish.act.slots.get i).locked = (s.act.slots.get i).locked
        ∧ (s.finish.act.slots.get i).latch = (s.act.slots.get i).latch
        ∧ (s.finish.act.slots.get i).head = (s.act.slots.get i).head
        ∧ (s.finish.act.slots.get i).dA = (s.act.slots.get i).dA
        ∧ (s.finish.act.slots.get i).p0 = (s.act.slots.get i).p0
        ∧ (s.finish.act.slots.get i).gain = (s.act.slots.get i).gain
        ∧ ((s.finish.act.slots.get i).Raised → (s.finish.act.slots.get i).lift = (s.act.slots.get i).lift))
    ∧ s.finish.act.link.address = s.act.link.address
    ∧ s.finish.act.link.framesSent = s.act.link.framesSent
    ∧ s.finish.act.link.collisions = s.act.link.collisions
    ∧ s.finish.act.link.lateCollisions = s.act.link.lateCollisions
    ∧ s.finish.act.link.discards = s.act.link.discards
    ∧ s.finish.act.link.crcErrors = s.act.link.crcErrors
    ∧ s.finish.act.link.unknownKinds = s.act.link.unknownKinds
    ∧ s.finish.act.ice =
        { s.act.ice with
          heaters := s.finish.act.ice.heaters, shed := s.finish.act.ice.shed
          candidate := s.finish.act.ice.candidate }
    ∧ (s.finish.act.selector.state = .fault ↔ s.act.selector.state = .fault)
    ∧ (s.finish.act.breaker.state = .lockout ↔ s.act.breaker.state = .lockout)
    ∧ ∀ i, (s.finish.act.isolators.get i).state = .fault ↔ (s.act.isolators.get i).state = .fault

/-- The expiry of a timer that is not running, or of a peer that is not in the table or whose timer is stopped, does nothing of
its own; an ODO_STALE while the flag is set, and a moderation count's end at 0 with the attention line as the ring's rules have
it, do nothing either. That an expiry can be given while its timer is stopped is the model's choice (log 2). -/
def Obligations.StoppedTimersDoNothing : Prop :=
  ∀ s : State,
    (s.env.cls.lossTimer = none → exec .lossTimerExpiry s = .next s.finish)
    ∧ (s.env.cls.silenceTimer = none → exec .silenceTimerExpiry s = .next s.finish)
    ∧ (s.env.cls.surgeMask = none → exec .surgeMaskExpiry s = .next s.finish)
    ∧ (s.act.selector.timer = none → exec .selectorTravelTimeout s = .next s.finish)
    ∧ (∀ i, (s.act.isolators.get i).timer = none → exec (.isolatorTimeout i) s = .next s.finish)
    ∧ (s.act.breaker.timer = none →
        exec .breakerCloseTimeout s = .next s.finish ∧ exec .breakerOpenTimeout s = .next s.finish)
    ∧ (∀ i, (s.act.slots.get i).riseTimer = none → exec (.riseTimeout i) s = .next s.finish)
    ∧ (∀ i, (s.act.slots.get i).lowerTimer = none → exec (.lowerTimeout i) s = .next s.finish)
    ∧ (s.act.startup.armingTimer = none → exec .armingTimerExpiry s = .next s.finish)
    ∧ (s.act.link.stateTimer = none → exec .stateTimerExpiry s = .next s.finish)
    ∧ (∀ a, s.env.pv.entry a = none →
        exec (.peerAgeExpiry a) s = .next s.finish ∧ exec (.peerRemovalExpiry a) s = .next s.finish
        ∧ exec (.peerBidTimerExpiry a) s = .next s.finish)
    ∧ (∀ a p, s.env.pv.entry a = some p →
        (p.ageTimer = none → exec (.peerAgeExpiry a) s = .next s.finish)
        ∧ (p.removalTimer = none → exec (.peerRemovalExpiry a) s = .next s.finish)
        ∧ (p.bidTimer = none → exec (.peerBidTimerExpiry a) s = .next s.finish))
    ∧ (s.env.pv.holdTimer = none → exec .authorityHoldExpiry s = .next s.finish)
    ∧ (s.env.pv.geometry.odoStale = true → exec .odoStale s = .next s.finish)
    ∧ (s.act.bids.windowTimer = none → exec .bidWindowExpiry s = .next s.finish)
    ∧ (s.act.bids.spacingTimer = none → exec .bidSpacingExpiry s = .next s.finish)
    ∧ (s.act.notices.reviewTimer = none → exec .noticeReviewTimerExpiry s = .next s.finish)
    ∧ (s.act.seq.retryTimer = none → exec .seqRetryExpiry s = .next s.finish)
    ∧ (s.act.seq.testRetryTimer = none → exec .testRetryExpiry s = .next s.finish)
    ∧ (s.act.seq.powerlessTimer = none → exec .powerlessTimerExpiry s = .next s.finish)
    ∧ (s.act.seq.noSupplyTimer = none → exec .noSupplyTimerExpiry s = .next s.finish)
    ∧ (s.act.seq.recloseHold = none → exec .recloseHoldExpiry s = .next s.finish)
    ∧ (s.act.seq.reviewTimer = none → exec .seqReviewTimerExpiry s = .next s.finish)
    ∧ (∀ t, s.act.ice.intervalTimer = none → exec (.iceIntervalEnd t) s = .next s.finish)
    ∧ (s.act.ice.reviewTimer = none → exec .iceReviewTimerExpiry s = .next s.finish)
    ∧ (s.act.startup.listenTimer = none → exec .listenTimerExpiry s = .next s.finish)
    ∧ (s.act.startup.joinTimer = none → exec .joinTimerExpiry s = .next s.finish)
    ∧ (s.ring.moderation = 0 → (s.ring.records ≠ [] → s.ring.busy = true) →
        exec .moderationCountEnd s = .next s.finish)
    ∧ (s.port.gapTimer = none → exec .serviceByteGapExpiry s = .next s.finish)

/-! ### The resets -/

/-- R17: the classifier after a power-on reset. The peer view (R92), time and port beside it. The input levels are the operand
of the command (the model's choice, log 4). -/
def Obligations.PowerOnResetClassifierAndPeers : Prop :=
  ∀ (pins : Pins) (s : State), ∃ t, exec (.powerOnReset pins) s = .next t
    ∧ t.pending = s.pending
    ∧ t.env.now = 0 ∧ t.env.pins = pins ∧ t.env.cfg = none
    ∧ t.env.cls =
        { count := 0, sum := 0, squares := 0, crossings := 0, clip := false, surge := false
          lossTimer := some 2, silenceTimer := none, armed := false, surgeMask := none, maskedSurges := 0
          latest := .noWindow, reported := 0, run := none, voids := 0, confirmed := .noSystem, badSamples := 0 }
    ∧ t.env.pv =
        { table := [], authority := none, conflict := false, hold := .lost, holdTimer := none
          geometry :=
            { known := false, direction := .aLeads, speed := 0, length := 0, baseOdometer := 0, baseTime := 0
              odoStale := true, refusalRun := false } }
    ∧ t.port = { gathered := [], gapTimer := none, reply := none }

/-- R54, R74, R110, R122, R146, R161, R171, R178: slots, link, Bid Unit, Notice Queue, sequencer, Ice Unit, Start-up Controller
and ring after a power-on reset. A slot found housed is DOWN, any other LOWERING in VENTING. R35: selector, breaker and
isolators after a power-on reset, by what their contacts show. The input levels are the operand of the command (the model's
choice, log 4). -/
def Obligations.PowerOnResetBlocks : Prop :=
  (∀ (pins : Pins) (s : State), ∃ t, exec (.powerOnReset pins) s = .next t
    ∧ (∀ i, t.act.slots.get i =
        { lift := if pins.down.get i && !pins.up.get i then .down else .lowering .venting
          duty := .idle, locked := true, latch := false, force := 0, pressure := 0, setProfile := none
          head := .headA, dA := 0, p0 := 0, gain := 0, riseTimer := none
          lowerTimer := if pins.down.get i && !pins.up.get i then none else some 8000
          raiseWaiting := false, lowerWaiters := [] })
    ∧ t.act.preferred = none
    ∧ t.act.link =
        { address := none, gateOpen := false, stateTimer := none, head := none, waiting := [], seed := none
          lastAlert := none, framesSent := 0, collisions := 0, lateCollisions := 0, discards := 0, crcErrors := 0
          unknownKinds := 0 }
    ∧ t.act.bids =
        { bid := none, owedCede := none, windowTimer := none, spacingTimer := none, collectRequest := none
          scrapeRequest := none, nextNumber := 0, profile := none }
    ∧ t.act.notices = { held := [], current := none, reviewTimer := some 10 }
    ∧ t.act.seq.state = .dormant ∧ t.act.seq.target = none ∧ t.act.seq.collector = none
    ∧ t.act.seq.committed = false ∧ t.act.seq.notice = none ∧ t.act.seq.reselectUsed = false
    ∧ t.act.seq.tripMarker = false ∧ t.act.seq.powerless = false ∧ t.act.seq.testCount = 0
    ∧ t.act.seq.reviewTimer = some 10 ∧ t.act.seq.retryTimer = none ∧ t.act.seq.testRetryTimer = none
    ∧ t.act.seq.powerlessTimer = none ∧ t.act.seq.noSupplyTimer = none ∧ t.act.seq.recloseHold = none
    ∧ t.act.ice.arcs = ⟨0, 0⟩ ∧ t.act.ice.intervalTimer = some 1000 ∧ t.act.ice.ownRate = 0
    ∧ t.act.ice.trainRate = 0 ∧ t.act.ice.level = 0 ∧ t.act.ice.fallCount = 0 ∧ t.act.ice.heaters = []
    ∧ t.act.ice.shed = [] ∧ t.act.ice.candidate = none ∧ t.act.ice.reviewTimer = some 10
    ∧ t.act.ice.lastTemp = (if -50 ≤ pins.temperature ∧ pins.temperature ≤ 100 then some pins.temperature else none)
    ∧ t.act.startup =
        { mode := .start, load := .reading 1, listenTimer := none, joinTimer := none, pendingClose := false
          armedBy := none, armingTimer := none }
    ∧ t.act.test = { running := false, waiters := [], result := .none, count := 0, distance := 0 }
    ∧ ((Switches.closedAt pins.selector).length ≤ 1 → -50 ≤ pins.temperature ∧ pins.temperature ≤ 100 →
        t.ring = { records := [], sequence := 0, dropped := 0, firstDropped := 0, busy := false, moderation := 0 }))
  ∧ (∀ (pins : Pins) (s : State), ∃ t, exec (.powerOnReset pins) s = .next t
    ∧ t.act.selector.timer = none
    ∧ (Switches.closedAt pins.selector = [] → t.act.selector.state = .unknown)
    ∧ (∀ p, Switches.closedAt pins.selector = [p] → t.act.selector.state = .rest p)
    ∧ (2 ≤ (Switches.closedAt pins.selector).length → t.act.selector.state = .fault)
    ∧ t.act.breaker.lastTrip = none
    ∧ (pins.breakerClosed = true → t.act.breaker.state = .opening ∧ t.act.breaker.timer = some 100
        ∧ ∀ i, (t.act.isolators.get i).state = .opening false ∧ (t.act.isolators.get i).timer = none)
    ∧ (pins.breakerClosed = false → t.act.breaker.state = .opened ∧ t.act.breaker.timer = none
        ∧ ∀ i, if pins.isolators.get i = .opened then
            (t.act.isolators.get i).state = .opened ∧ (t.act.isolators.get i).timer = none
          else (t.act.isolators.get i).state = .opening true ∧ (t.act.isolators.get i).timer = some 300))

/-- R170, with R18, R35, R38, R55, R74, R92, R110, R122, R146, R161, R175, R178: a RESET from the arming cab, addressed to the
station, is a link reset: the classifier and the peer view as after power-on, the slots LOCKED with their latches and loaded
values kept, selector, breaker and isolators by what their contacts show, the address, the configuration, the time base and the
ring kept, the ring with the RESET record and behind it only what the reset itself writes, mode LISTEN. The temperature is the
operand of the command (the model's choice, log 4); that a reading out of range at the end of a reset writes no TEMP_INVALID is
the model's reading (log 26). -/
def Obligations.ArmedResetIsALinkReset : Prop :=
  ∀ (s : State) (own : Nat) (dst src mask : Byte) (arg : Half) (temp : Int),
    s.Admits own .reset dst src → dst.toNat = own → own ≠ 0 → s.act.startup.armedBy = some src.toNat →
    let shown := Switches.closedAt s.env.pins.selector
    ∃ t es, exec (.reset dst src mask arg temp) s = .next t
      ∧ t.pending = s.pending ∧ t.freeIndex = s.freeIndex
      ∧ t.env.now = s.env.now ∧ t.env.cfg = s.env.cfg
      ∧ t.env.pins = { s.env.pins with temperature := temp }
      ∧ t.env.cls =
          { count := 0, sum := 0, squares := 0, crossings := 0, clip := false, surge := false
            lossTimer := some 2, silenceTimer := none, armed := false, surgeMask := none, maskedSurges := 0
            latest := .noWindow, reported := 0, run := none, voids := 0, confirmed := .noSystem, badSamples := 0 }
      ∧ t.env.pv =
          { table := [], authority := none, conflict := false, hold := .lost, holdTimer := none
            geometry :=
              { known := false, direction := .aLeads, speed := 0, length := 0, baseOdometer := 0
                baseTime := s.env.now, odoStale := true, refusalRun := false } }
      ∧ (∀ i, t.act.slots.get i =
          { lift := if s.env.pins.down.get i && !s.env.pins.up.get i then .down else .lowering .venting
            duty := .idle, locked := true, latch := (s.act.slots.get i).latch, force := 0, pressure := 0
            setProfile := none, head := (s.act.slots.get i).head, dA := (s.act.slots.get i).dA
            p0 := (s.act.slots.get i).p0, gain := (s.act.slots.get i).gain, riseTimer := none
            lowerTimer := if s.env.pins.down.get i && !s.env.pins.up.get i then none else some 8000
            raiseWaiting := false, lowerWaiters := [] })
      ∧ t.act.preferred = none ∧ t.act.notices = { held := [], current := none, reviewTimer := some 10 }
      ∧ t.act.link.address = some own ∧ t.act.link.gateOpen = false ∧ t.act.link.head = none
      ∧ t.act.link.waiting = [] ∧ t.act.link.lastAlert = none ∧ t.act.link.framesSent = 0
      ∧ t.act.link.collisions = 0 ∧ t.act.link.lateCollisions = 0 ∧ t.act.link.discards = 0
      ∧ t.act.link.crcErrors = 0 ∧ t.act.link.unknownKinds = 0
      ∧ t.act.seq.state = .dormant ∧ t.act.seq.target = none ∧ t.act.seq.collector = none
      ∧ t.act.seq.notice = none ∧ t.act.seq.testCount = 0 ∧ t.act.seq.reviewTimer = some 10
      ∧ t.act.bids =
          { bid := none, owedCede := none, windowTimer := none, spacingTimer := none, collectRequest := none
            scrapeRequest := none, nextNumber := 0, profile := none }
      ∧ t.act.selector.timer = none
      ∧ (shown = [] → t.act.selector.state = .unknown)
      ∧ (∀ p, shown = [p] → t.act.selector.state = .rest p)
      ∧ (2 ≤ shown.length → t.act.selector.state = .fault)
      ∧ t.act.breaker.lastTrip = none
      ∧ (s.env.pins.breakerClosed = true → t.act.breaker.state = .opening ∧ t.act.breaker.timer = some 100
          ∧ ∀ i, (t.act.isolators.get i).state = .opening false ∧ (t.act.isolators.get i).timer = none)
      ∧ (s.env.pins.breakerClosed = false → t.act.breaker.state = .opened ∧ t.act.breaker.timer = none
          ∧ ∀ i, if s.env.pins.isolators.get i = .opened then
              (t.act.isolators.get i).state = .opened ∧ (t.act.isolators.get i).timer = none
            else (t.act.isolators.get i).state = .opening true ∧ (t.act.isolators.get i).timer = some 300)
      ∧ t.act.test = { running := false, waiters := [], result := .none, count := 0, distance := 0 }
      ∧ t.act.ice =
          { arcs := ⟨0, 0⟩, intervalTimer := some 1000, ownRate := 0, trainRate := 0, level := 0, fallCount := 0
            forced := none, lastTemp := if -50 ≤ temp ∧ temp ≤ 100 then some temp else none
            readingTaken := decide (-50 ≤ temp ∧ temp ≤ 100), heaters := [], shed := [], candidate := none
            reviewTimer := some 10 }
      ∧ t.act.startup =
          { mode := .listen, load := s.act.startup.load, listenTimer := some 500, joinTimer := none
            pendingClose := false, armedBy := none, armingTimer := none }
      ∧ t.ring = s.ring.writeAll s.env.now
          (s.act.logs ++
            s.act.entry .reset src.toNat (n16 src.toNat) (n32 s.act.startup.mode.code) :: es)
      ∧ (shown.length ≤ 1 → es = [])
      ∧ t.port = { gathered := [], gapTimer := none, reply := none }

/-! ### Line Classifier -/

/-- R2, R4 to R6: a sample frame that does not complete a window. One of wrong parity is only counted; one of right parity
restarts the loss timer, ends a loss run and enters the window in progress. Nothing else of the part changes. -/
def Obligations.SampleFrameWithinAWindow : Prop :=
  ∀ (code : BitVec 16) (parity : Bool) (s : State),
    let x : Int := if code.toInt = -32768 then -32767 else code.toInt
    let c := s.env.cls
    let bad : State := { s with env := { s.env with cls := { c with badSamples := min 65535 (c.badSamples + 1) } } }
    let good : State :=
      { s with
        env :=
          { s.env with
            cls :=
              { c with
                lossTimer := some 2, silenceTimer := none, count := c.count + 1, sum := c.sum + x
                squares := c.squares + (x * x).toNat
                clip := c.clip || decide (code.toInt = 32767) || decide (code.toInt = -32768)
                surge := c.surge || decide (16384 ≤ x.natAbs)
                crossings := if c.armed = true ∧ 250 ≤ x then c.crossings + 1 else c.crossings
                armed := if x ≤ -250 then true else if 250 ≤ x then false else c.armed } } }
    (¬ EvenParity code parity → exec (.sampleFrame code parity) s = .next bad.finish
      ∧ (s.Quiet → exec (.sampleFrame code parity) s = .next bad))
    ∧ (EvenParity code parity → c.count + 1 < 960 → exec (.sampleFrame code parity) s = .next good.finish
      ∧ (s.Quiet → exec (.sampleFrame code parity) s = .next good))

/-- R7, R8, R11 to R15: the 960th sample concludes the window. A clipped window is void: class CLIPPED, the void count up, and
INDETERMINATE confirmed at three; any other is measured and classed by R10, and moves run record, reported voltage and confirmed
system. A surge starts the mask or is counted under it. The next window is opened; the crossing detector carries over. SURGE,
REVERSE_POLARITY and SYSTEM_CONFIRMED are written in this order before what the other blocks write: the first at a surge that is
not masked, the second at the fourth REVERSE in a row, the third where the confirmed system changes. -/
def Obligations.WindowConclusion : Prop :=
  ∀ (code : BitVec 16) (parity : Bool) (s : State), EvenParity code parity → s.env.cls.count + 1 = 960 →
    let c := s.env.cls
    let x : Int := if code.toInt = -32768 then -32767 else code.toInt
    let clip := c.clip || decide (code.toInt = 32767) || decide (code.toInt = -32768)
    let surge := c.surge || decide (16384 ≤ x.natAbs)
    let z := if c.armed = true ∧ 250 ≤ x then c.crossings + 1 else c.crossings
    let m := windowMean (c.sum + x)
    let rms := windowRms (c.sum + x) (c.squares + (x * x).toNat)
    let k := classify m rms z
    let volts : Int :=
      if k = .ac25 ∨ k = .ac15 ∨ k = .unknown then 4 * (rms : Int)
      else if k = .dc15 ∨ k = .dc3 ∨ k = .reverse then 4 * m else 0
    let surges : List LogEntry :=
      if surge = true ∧ c.surgeMask = none then
        [s.act.entry .surge 0 (n16 c.maskedSurges) (n32 (if clip then WindowClass.clipped else k).code)]
      else []
    let reversals : List LogEntry :=
      if clip = false ∧ k = .reverse ∧ c.run = some (.reverse, 3) then
        [s.act.entry .reversePolarity 0 4 (i32 volts)]
      else []
    ∃ t es, exec (.sampleFrame code parity) s = .next t
      ∧ t.env.now = s.env.now ∧ t.env.pins = s.env.pins ∧ t.env.pv = s.env.pv ∧ t.env.cfg = s.env.cfg
      ∧ t.port = s.port
      ∧ t.env.cls.count = 0 ∧ t.env.cls.sum = 0 ∧ t.env.cls.squares = 0 ∧ t.env.cls.crossings = 0
      ∧ t.env.cls.clip = false ∧ t.env.cls.surge = false
      ∧ t.env.cls.armed = (if x ≤ -250 then true else if 250 ≤ x then false else c.armed)
      ∧ t.env.cls.lossTimer = some 2 ∧ t.env.cls.silenceTimer = none ∧ t.env.cls.badSamples = c.badSamples
      ∧ (surge = false → t.env.cls.surgeMask = c.surgeMask ∧ t.env.cls.maskedSurges = c.maskedSurges)
      ∧ (surge = true → c.surgeMask = none → t.env.cls.surgeMask = some 10000 ∧ t.env.cls.maskedSurges = 0)
      ∧ (surge = true → c.surgeMask.isSome = true →
          t.env.cls.surgeMask = c.surgeMask ∧ t.env.cls.maskedSurges = min 65535 (c.maskedSurges + 1))
      ∧ (clip = true →
          t.env.cls.latest = .clipped ∧ t.env.cls.voids = min 3 (c.voids + 1) ∧ t.env.cls.run = c.run
          ∧ t.env.cls.reported = c.reported
          ∧ t.env.cls.confirmed = (if min 3 (c.voids + 1) = 3 then .indeterminate else c.confirmed))
      ∧ (clip = false →
          t.env.cls.latest = k ∧ t.env.cls.voids = 0 ∧ t.env.cls.run = some (extendRun k c.run)
          ∧ t.env.cls.reported = volts
          ∧ t.env.cls.confirmed = confirm c.confirmed (extendRun k c.run))
      ∧ t.ring = s.ring.writeAll s.env.now
          (s.act.logs ++ surges ++ reversals
            ++ (if t.env.cls.confirmed = c.confirmed then []
              else
                [s.act.entry .systemConfirmed 0 (n16 (t.env.cls.confirmed.code + 256 * c.confirmed.code))
                  (i32 t.env.cls.reported)])
            ++ es)

/-- R3, R7, R13, R15: the classifier's timers run out. The loss timer's expiry voids the window in progress and starts the
silence timer; the silence timer's voids it again; the surge mask's only ends the mask. A void window reports its surge like any
other: SURGE and the mask where none runs, a count under one that runs. SURGE, SYSTEM_CONFIRMED where the confirmed system
changes, and at the loss timer SAMPLES_LOST are written in this order, SAMPLES_LOST's place in it being the model's reading (log
38). An expiry lets the milliseconds pass that its timer had left (the model's choice, log 2). -/
def Obligations.ClassifierTimers : Prop :=
  ∀ (s : State) (n : Nat),
    let c := s.env.cls
    let mask : Timer := c.surgeMask.map (· - n)
    let voided (t : State) (last : List LogEntry) : Prop :=
      t.env.now = s.env.now + n ∧ t.env.pins = s.env.pins ∧ t.env.cfg = s.env.cfg
      ∧ t.env.cls.latest = .void ∧ t.env.cls.voids = min 3 (c.voids + 1)
      ∧ t.env.cls.confirmed = (if min 3 (c.voids + 1) = 3 then .indeterminate else c.confirmed)
      ∧ t.env.cls.run = c.run ∧ t.env.cls.reported = c.reported ∧ t.env.cls.armed = c.armed
      ∧ t.env.cls.badSamples = c.badSamples
      ∧ t.env.cls.count = 0 ∧ t.env.cls.sum = 0 ∧ t.env.cls.squares = 0 ∧ t.env.cls.crossings = 0
      ∧ t.env.cls.clip = false ∧ t.env.cls.surge = false ∧ t.env.cls.silenceTimer = some 240
      ∧ (c.surge = false → t.env.cls.surgeMask = mask ∧ t.env.cls.maskedSurges = c.maskedSurges)
      ∧ (c.surge = true → c.surgeMask = none →
          t.env.cls.surgeMask = some 10000 ∧ t.env.cls.maskedSurges = 0)
      ∧ (c.surge = true → c.surgeMask.isSome = true →
          t.env.cls.surgeMask = mask ∧ t.env.cls.maskedSurges = min 65535 (c.maskedSurges + 1))
      ∧ ∃ es, t.ring = (s.elapse n).ring.writeAll (s.env.now + n)
          (s.act.logs
            ++ (if c.surge = true ∧ c.surgeMask = none then
                [s.act.entry .surge 0 (n16 c.maskedSurges) (n32 WindowClass.void.code)]
              else [])
            ++ (if t.env.cls.confirmed = c.confirmed then []
              else
                [s.act.entry .systemConfirmed 0 (n16 (t.env.cls.confirmed.code + 256 * c.confirmed.code))
                  (i32 c.reported)])
            ++ last ++ es)
    (c.lossTimer = some n → ∃ t, exec .lossTimerExpiry s = .next t
        ∧ voided t [s.act.entry .samplesLost 0 (n16 c.count) (n32 c.badSamples)] ∧ t.env.cls.lossTimer = none)
    ∧ (c.silenceTimer = some n → ∃ t, exec .silenceTimerExpiry s = .next t ∧ voided t [])
    ∧ (c.surgeMask = some n → ∃ t, exec .surgeMaskExpiry s = .next t
        ∧ t.env.now = s.env.now + n
        ∧ t.env.cls =
            { c with
              lossTimer := c.lossTimer.map (· - n), silenceTimer := c.silenceTimer.map (· - n)
              surgeMask := none }
        ∧ (s.Quiet → t.ring = (s.elapse n).ring))

/-- R9: M is S / 960 truncated toward zero; ACrms is the largest whole number whose square does not exceed Q / 960 (floored)
less M squared; and the ranges of a measured window. -/
def Obligations.WindowArithmetic : Prop :=
  (∀ s : Int, 960 * (windowMean s).natAbs ≤ s.natAbs ∧ s.natAbs < 960 * ((windowMean s).natAbs + 1)
      ∧ (0 ≤ s → 0 ≤ windowMean s) ∧ (s ≤ 0 → windowMean s ≤ 0))
  ∧ (∀ (s : Int) (q : Nat), q < 1099511627776 →
      let ac := q / 960 - (windowMean s).natAbs * (windowMean s).natAbs
      windowRms s q * windowRms s q ≤ ac ∧ ac < (windowRms s q + 1) * (windowRms s q + 1))
  ∧ ∀ (s : Int) (q : Nat), s.natAbs ≤ 960 * 32766 → q ≤ 960 * (32766 * 32766) →
      (windowMean s).natAbs ≤ 32766 ∧ q / 960 ≤ 1073610756 ∧ windowRms s q ≤ 32766

/-- R10: a measured window is given the first class of the table whose condition it meets. R12, R14: the run record as a
measured window moves it, and the confirmed system as the run record gives it. -/
def Obligations.ClassesAndConfirmation : Prop :=
  (∀ (m : Int) (rms z : Nat),
    let dead := m.natAbs < 125 ∧ rms < 125
    let dc15 := 250 ≤ m ∧ m ≤ 487 ∧ (rms : Int) ≤ m / 4
    let dc3 := 500 ≤ m ∧ m ≤ 975 ∧ (rms : Int) ≤ m / 4
    let reverse := m ≤ -250 ∧ rms ≤ m.natAbs / 4
    let ac15 := 2750 ≤ rms ∧ rms ≤ 4500 ∧ m.natAbs ≤ rms / 8 ∧ 3 ≤ z ∧ z ≤ 5
    let ac25 := 4375 ≤ rms ∧ rms ≤ 7250 ∧ m.natAbs ≤ rms / 8 ∧ 11 ≤ z ∧ z ≤ 13
    (dead → classify m rms z = .dead)
    ∧ (¬ dead → dc15 → classify m rms z = .dc15)
    ∧ (¬ dead → ¬ dc15 → dc3 → classify m rms z = .dc3)
    ∧ (¬ dead → ¬ dc15 → ¬ dc3 → reverse → classify m rms z = .reverse)
    ∧ (¬ dead → ¬ dc15 → ¬ dc3 → ¬ reverse → ac15 → classify m rms z = .ac15)
    ∧ (¬ dead → ¬ dc15 → ¬ dc3 → ¬ reverse → ¬ ac15 → ac25 → classify m rms z = .ac25)
    ∧ (¬ dead → ¬ dc15 → ¬ dc3 → ¬ reverse → ¬ ac15 → ¬ ac25 → classify m rms z = .unknown))
  ∧ ((∀ k, extendRun k none = (k, 1))
  ∧ (∀ k n, extendRun k (some (k, n)) = (k, min 4 (n + 1)))
  ∧ (∀ k r n, r ≠ k → extendRun k (some (r, n)) = (k, 1))
  ∧ ∀ (old : Confirmed) (n : Nat), 1 ≤ n → n ≤ 4 →
      confirm old (.ac25, n) = (if 3 ≤ n then .system .ac25 else old)
      ∧ confirm old (.ac15, n) = (if 3 ≤ n then .system .ac15 else old)
      ∧ confirm old (.dc3, n) = (if 3 ≤ n then .system .dc3 else old)
      ∧ confirm old (.dc15, n) = (if 3 ≤ n then .system .dc15 else old)
      ∧ confirm old (.dead, n) = (if 2 ≤ n then .noSystem else old)
      ∧ confirm old (.unknown, n) = (if n = 4 then .indeterminate else old)
      ∧ confirm old (.reverse, n) = (if n = 4 then .indeterminate else old))

/-- The ranges of the classifier's registers (R1 to R13) are kept by every step. -/
def Obligations.ClassifierRangesKept : Prop :=
  ∀ s t : State, s.env.cls.Inv → step s = .next t → t.env.cls.Inv

/-! ### Switchgear Interlock and Roof Test Unit -/

/-- R20 to R23: the move command stands exactly while the selector is MOVING, toward its target. What ends a travel: at the
target's end switch the selector comes to rest there and its requesters are answered DONE; at the timeout it is in FAULT; every
other switch is ignored. End switches without a travel: a switch that contradicts a selector at rest, and a second one that
closes at an UNKNOWN selector, bring FAULT; an UNKNOWN selector is found where exactly one switch is closed; FAULT ignores every
switch. R23, R27, R30: a contact that moves an isolator or the breaker out of OPEN, or shows CLOSED in LOCKOUT, takes a MOVING
selector to FAULT. Each entry to FAULT removes the move command, writes SWITCHGEAR_FAULT for the selector with its kind and the
state before, offers the alert, tells the sequencer, answers the waiting requesters FAILED and leaves the breaker open or
opening (R31, reason 2). An expiry lets the milliseconds pass that its timer had left (the model's choice, log 2);
SELECTOR_TRAVEL_END names the target's switch and does nothing without a travel (its reading of the row, log 4); a switch that
opens leaves an UNKNOWN selector UNKNOWN (its choice, log 31). -/
def Obligations.SelectorEvents : Prop :=
  ∀ s : State,
    let pins := s.env.pins
    let x := s.act.selector
    let live := BreakerState.isLive s.act.breaker.state
    let shown (p : Position) (closed : Bool) : State :=
      { s with env := { s.env with pins := { pins with selector := Switches.set pins.selector p closed } } }
    let record (kind : Nat) : LogEntry :=
      let code : Nat := match x.state with
        | .rest .park => 0
        | .rest (.system .ac25) => 1
        | .rest (.system .ac15) => 2
        | .rest (.system .dc3) => 3
        | .rest (.system .dc15) => 4
        | .moving _ => 5
        | .unknown => 6
        | .fault => 7
      s.act.entry .switchgearFault 255 (n16 (256 * kind)) (n32 code)
    let failed (b : State) : Prop :=
      b.act.selector = { state := .fault, timer := none, waiters := [] } ∧ b.act.moveCommand = none
      ∧ b.Tells .selectorFault
      ∧ (∀ y, x.state = .moving y → ∀ w ∈ x.waiters, b.Tells (.answered w (.moveSelector y) .failed))
      ∧ BreakerState.isLive b.act.breaker.state = false
      ∧ b.finish.act.selector.state = .fault ∧ b.finish.act.moveCommand = none
    let faults (c : Instr) (kind : Nat) (base : State) : Prop :=
      ∃ b : State, exec c s = .next b.finish ∧ failed b
        ∧ b =
          { base with
            act :=
              { base.act with
                selector := b.act.selector, breaker := b.act.breaker, isolators := b.act.isolators
                link := b.act.link, inbox := b.act.inbox, logs := b.act.logs } }
        ∧ (∃ l, b.act.logs = s.act.logs ++ record kind :: l)
        ∧ Link.Alerted { code := .switchgearFault, slot := none } base.act.link b.act.link
        ∧ (live = false → b.act.breaker = base.act.breaker ∧ b.act.isolators = base.act.isolators)
        ∧ (live = true → b.Tells (.breakerForced 2)
          ∧ s.act.entry .breakerForcedOpen 255 2 (n32 s.env.cls.confirmed.code) ∈ b.act.logs)
    let disturbs (c : Instr) : Prop :=
      ∃ b : State, exec c s = .next b.finish ∧ failed b ∧ record 2 ∈ b.act.logs
    (∀ y, s.act.moveCommand = some y ↔ x.state = .moving y)
    ∧ (∀ y, x.state = .moving y →
      (∃ b : State, exec .selectorTravelEnd s = .next b.finish
        ∧ b =
          { shown (.system y) true with
            act :=
              { s.act with
                selector := { state := .rest (.system y), timer := none, waiters := [] }
                inbox := b.act.inbox } }
        ∧ b.act.moveCommand = none
        ∧ ∀ w ∈ x.waiters, b.Tells (.answered w (.moveSelector y) .done))
      ∧ exec (.selectorEndSwitchChange (.system y) true) s = exec .selectorTravelEnd s
      ∧ (∀ n, x.timer = some n → faults .selectorTravelTimeout 1 (s.elapse n))
      ∧ (∀ p closed, (p ≠ .system y ∨ closed = false) →
        exec (.selectorEndSwitchChange p closed) s = .next (shown p closed).finish)
      ∧ (∀ i, (s.act.isolators.get i).state = .opened → disturbs (.isolatorContactConflict i .closed))
      ∧ (s.act.breaker.state = .opened ∨ s.act.breaker.state = .lockout → disturbs .breakerContactConflict))
    ∧ ((∀ y, x.state ≠ .moving y) → exec .selectorTravelEnd s = .next s.finish)
    ∧ (∀ p q closed, x.state = .rest q →
      ((p = q ∧ closed = false ∨ p ≠ q ∧ closed = true) →
        faults (.selectorEndSwitchChange p closed) 2 (shown p closed))
      ∧ ((p = q ∧ closed = true ∨ p ≠ q ∧ closed = false) →
        exec (.selectorEndSwitchChange p closed) s = .next (shown p closed).finish))
    ∧ (∀ p, x.state = .unknown →
      ((∀ q, q ≠ p → Switches.get pins.selector q = false) →
        exec (.selectorEndSwitchChange p true) s =
          .next (State.finish { shown p true with act := { s.act with selector := { x with state := .rest p } } }))
      ∧ ((∃ q, q ≠ p ∧ Switches.get pins.selector q = true) →
        faults (.selectorEndSwitchChange p true) 2 (shown p true))
      ∧ exec (.selectorEndSwitchChange p false) s = .next (shown p false).finish)
    ∧ (∀ p closed, x.state = .fault →
      exec (.selectorEndSwitchChange p closed) s = .next (shown p closed).finish)

/-- R24 to R27: the close coil is driven exactly in CLOSING, the open coil in the travel phase of OPENING and in FAULT. An
isolator's contact completes its closing or its driven opening, its requesters being answered DONE; a contact that changes
without a command, and a timer that runs out, leave it in FAULT: SWITCHGEAR_FAULT is written with the slot, the kind and the
state before, the sequencer is told, requesters of a close are answered FAILED and, with the breaker open, those of an opening
DONE. An expiry lets the milliseconds pass that its timer had left (the model's choice, log 2). -/
def Obligations.IsolatorEvents : Prop :=
  ∀ (s : State) (i : Slot),
    let r := s.act.isolators.get i
    let shown (c : Contact) : Env :=
      { s.env with pins := { s.env.pins with isolators := s.env.pins.isolators.set i c } }
    let faults (c : Instr) (kind : Nat) (env : Env) : Prop :=
      let before : Nat := match r.state with
        | .opened => 0
        | .closing => 1
        | .closed => 2
        | .opening _ => 3
        | .fault => 4
      ∃ b : State, exec c s = .next b.finish ∧ b.env = env
        ∧ (b.act.isolators.get i).state = .fault ∧ (b.act.isolators.get i).timer = none
        ∧ (∃ l, b.act.logs = s.act.logs ++
            s.act.entry .switchgearFault i.code (n16 (1 + 256 * kind)) (n32 before) :: l)
        ∧ b.Tells .isolatorFault ∧ (∀ w ∈ r.closeWaiters, b.Tells (.answered w (.closeIsolator i) .failed))
        ∧ (s.act.breaker.state = .opened ∨ s.act.breaker.state = .lockout →
          ∀ w ∈ r.openWaiters, b.Tells (.answered w (.openIsolator i) .done))
        ∧ BreakerState.isLive b.act.breaker.state = false
        ∧ (b.finish.act.isolators.get i).state = .fault ∧ b.finish.act.openCoil i = true
        ∧ b.finish.act.closeCoil i = false ∧ BreakerState.isLive b.finish.act.breaker.state = false
    (s.act.closeCoil i = true ↔ r.state = .closing)
    ∧ (s.act.openCoil i = true ↔ r.state = .opening true ∨ r.state = .fault)
    ∧ (r.state = .closing → ∃ b : State, exec (.isolatorClosed i) s = .next b.finish
      ∧ b =
        { s with
          env := shown .closed
          act :=
            { s.act with
              isolators := s.act.isolators.set i { r with state := .closed, timer := none, closeWaiters := [] }
              inbox := b.act.inbox } }
      ∧ ∀ w ∈ r.closeWaiters, b.Tells (.answered w (.closeIsolator i) .done))
    ∧ (r.state = .opening true → ∃ b : State, exec (.isolatorOpened i) s = .next b.finish
      ∧ b =
        { s with
          env := shown .opened
          act :=
            { s.act with
              isolators := s.act.isolators.set i { r with state := .opened, timer := none, openWaiters := [] }
              inbox := b.act.inbox } }
      ∧ ∀ w ∈ r.openWaiters, b.Tells (.answered w (.openIsolator i) .done))
    ∧ (∀ c, (r.state = .opened ∧ c = .closed ∨ r.state = .closed ∧ c = .opened) →
      faults (.isolatorContactConflict i c) 2 (shown c))
    ∧ (∀ n, (r.state = .closing ∨ r.state = .opening true) → r.timer = some n →
      faults (.isolatorTimeout i) 1 (s.env.elapse n))
    ∧ (r.state = .fault → ∀ c, exec (.isolatorContactConflict i c) s =
        .next (State.finish { s with env := shown c }))

/-- R28 to R30: the close command stands exactly in CLOSING, the hold output in CLOSING and CLOSED. R29, R30, with R19: what
ends a breaker's closing and opening, a timeout's record and answers among it, and a contact that shows CLOSED without a
command. R32, R33: a trip. The breaker is OPEN, the hold output released, BREAKER_TRIP is written with the confirmed system and
the milliseconds since the trip in the history (0 where it is empty; the free value of log 49 where they pass the field's 32
bits), the sequencer is told, and the history holds this trip's time; with a trip less than 60,000 ms before it the breaker is
in LOCKOUT instead, BREAKER_LOCKOUT follows with that time, the sequencer is told of the lockout, and the history is empty. R31:
a forced opening. A breaker CLOSING or CLOSED is opened, BREAKER_FORCED_OPEN is written with the reason, and the sequencer is
told the reason; any other is left alone. An expiry lets the milliseconds pass that its timer had left (the model's choice, log
2); requesters of an isolator that awaits the breaker go on waiting at its timeout (the model's reading, log 30). A contact that
shows CLOSED at the time of a close timeout taken first only brings OPENING back (the form is the model's choice, log 43). -/
def Obligations.BreakerEvents : Prop :=
  (∀ s : State,
    let r := s.act.breaker
    let shown (closed : Bool) : Env := { s.env with pins := { s.env.pins with breakerClosed := closed } }
    let records (kind before : Nat) (b : State) : Prop :=
      ∃ l, b.act.logs = s.act.logs ++ s.act.entry .switchgearFault 255 (n16 (2 + 256 * kind)) (n32 before) :: l
    (s.act.closeCommand = true ↔ r.state = .closing)
    ∧ (s.act.holdOutput = true ↔ r.state = .closing ∨ r.state = .closed)
    ∧ (r.state = .closing → ∃ b : State, exec .breakerClosed s = .next b.finish
      ∧ b =
        { s with
          env := shown true
          act :=
            { s.act with
              breaker := { r with state := .closed, timer := none, closeWaiters := [] }, inbox := b.act.inbox } }
      ∧ ∀ w ∈ r.closeWaiters, b.Tells (.answered w .closeBreaker .done))
    ∧ (r.state = .opening → ∃ b : State, exec .breakerOpened s = .next b.finish
      ∧ b =
        { s with
          env := shown false
          act :=
            { s.act with
              breaker := { r with state := .opened, timer := none, openWaiters := [] }
              isolators := b.act.isolators, inbox := b.act.inbox } }
      ∧ b.Tells .breakerOpened ∧ (∀ w ∈ r.openWaiters, b.Tells (.answered w .openBreaker .done))
      ∧ ∀ i, (s.act.isolators.get i).state = .opening false →
          if s.env.pins.isolators.get i = .opened then (b.act.isolators.get i).state = .opened
          else (b.act.isolators.get i).state = .opening true ∧ (b.act.isolators.get i).timer = some 300)
    ∧ (∀ n, r.state = .closing → r.timer = some n → ∃ b : State, exec .breakerCloseTimeout s = .next b.finish
      ∧ b.env = s.env.elapse n
      ∧ (s.env.pins.breakerClosed = true → b.act.breaker.state = .opening ∧ b.act.breaker.timer = some 100)
      ∧ (s.env.pins.breakerClosed = false → b.act.breaker.state = .opened ∧ b.act.breaker.timer = none
        ∧ b.act.breaker.closeTimeout = some b.env.now)
      ∧ records 3 1 b ∧ b.Tells .breakerFault
      ∧ ∀ w ∈ r.closeWaiters, b.Tells (.answered w .closeBreaker .failed))
    ∧ (∀ n, r.state = .opening → r.timer = some n → ∃ b : State, exec .breakerOpenTimeout s = .next b.finish
      ∧ b.env = s.env.elapse n ∧ b.act.breaker = { r with timer := none, openWaiters := [] }
      ∧ b.act.isolators = (s.act.elapse n).isolators
      ∧ records 4 3 b ∧ b.Tells .breakerFault
      ∧ ∀ w ∈ r.openWaiters, b.Tells (.answered w .openBreaker .failed))
    ∧ (r.state = .opened →
      (r.closeTimeout = some s.env.now → exec .breakerClosed s = .next (State.finish
        { s with
          env := shown true
          act :=
            { s.act with breaker := { r with state := .opening, timer := some 100, closeTimeout := none } } }))
      ∧ (r.closeTimeout ≠ some s.env.now → exec .breakerClosed s = exec .breakerContactConflict s))
    ∧ (r.state = .opened → ∃ b : State, exec .breakerContactConflict s = .next b.finish
      ∧ b.env = shown true ∧ b.act.breaker = { r with state := .opening, timer := some 100 }
      ∧ records 2 0 b ∧ b.Tells .breakerFault
      ∧ ∀ y, s.act.selector.state = .moving y → b.act.selector.state = .fault)
    ∧ (r.state = .lockout → ∃ b : State, exec .breakerContactConflict s = .next b.finish
      ∧ b.env = shown true ∧ b.act.breaker = r ∧ records 2 4 b ∧ b.Tells .breakerFault
      ∧ (∀ y, s.act.selector.state = .moving y → b.act.selector.state = .fault)
      ∧ b.finish.env = shown true ∧ b.finish.act.breaker.state = .lockout)
    ∧ (∀ closed, (r.state = .closing ∧ closed = false ∨ r.state = .opening ∧ closed = true
        ∨ r.state = .closed ∧ closed = true ∨ r.state = .opened ∧ closed = false
        ∨ r.state = .lockout ∧ closed = false) →
      (if closed then exec .breakerClosed s else exec .breakerOpened s) =
        .next (State.finish { s with env := shown closed })))
  ∧ (∀ s : State, s.act.breaker.state = .closed →
    let r := s.act.breaker
    let since : Nat := match r.lastTrip with | some last => s.env.now - last | none => 0
    let age : Word := if since < 4294967296 then n32 since else Config.tripAgeBeyond since
    let trip : LogEntry := s.act.entry .breakerTrip 255 (n16 s.env.cls.confirmed.code) age
    let left : Breaker := { r with timer := none, openWaiters := [], closeTimeout := none }
    ∃ b t : State, exec .breakerTrip s = .next t ∧ t = b.finish
      ∧ b.env = { s.env with pins := { s.env.pins with breakerClosed := false } } ∧ t.env = b.env
      ∧ b.act.holdOutput = false ∧ (∀ w ∈ r.openWaiters, b.Tells (.answered w .openBreaker .done))
      ∧ (∀ last, r.lastTrip = some last → s.env.now - last < 60000 →
          b.act.breaker = { left with state := .lockout, lastTrip := none }
          ∧ b.act.logs = s.act.logs ++ [trip, s.act.entry .breakerLockout 255 0 (n32 since)]
          ∧ b.Tells .lockout ∧ t.act.breaker.state = .lockout ∧ t.act.breaker.lastTrip = none)
      ∧ ((∀ last, r.lastTrip = some last → 60000 ≤ s.env.now - last) →
          b.act.breaker = { left with state := .opened, lastTrip := some s.env.now }
          ∧ b.act.logs = s.act.logs ++ [trip]
          ∧ b.Tells .trip ∧ t.act.breaker.state ≠ .lockout ∧ t.act.breaker.lastTrip = some s.env.now))
  ∧ (∀ (e : Env) (a : Act) (reason : Nat),
    let b := a.forceOpen e reason
    (BreakerState.isLive a.breaker.state = false → b = a)
    ∧ (BreakerState.isLive a.breaker.state = true →
      b.logs = a.logs ++ [a.entry .breakerForcedOpen 255 (n16 reason) (n32 e.cls.confirmed.code)]
      ∧ b.Tells (.breakerForced reason)
      ∧ (e.pins.breakerClosed = true → b.breaker.state = .opening ∧ b.breaker.timer = some 100)
      ∧ (e.pins.breakerClosed = false → b.breaker.state = .opened ∧ b.breaker.timer = none)
      ∧ ∀ w ∈ a.breaker.closeWaiters, b.Tells (.answered w .closeBreaker .failed)))

/-- Requests, at the event of their arrival. R24, R28: a close request to an OPEN isolator, and one to an OPEN breaker, is taken
exactly when every condition of its rule holds, and refused otherwise; one to a device CLOSING is joined, to a CLOSED one met,
to any other refused. R21: a move request. R26: an open request to an isolator, with the breaker in each of its states. R30: one
to the breaker. R36: a test request. R41: a raise, its start and what ends it at once. R43: a lower request in each lift state,
the raise it ends, and its phase by the isolator; R44: the isolator's DONE brings VENTING. A request that is refused or met
changes nothing but the answer on its way. That the ADD contact is read before the up switch is the model's reading (log 17),
the forms in which an answer is on its way its choice (log 1). -/
def Obligations.CloseRequests : Prop :=
  (∀ (e : Env) (a : Act) (w : List Requester),
    let answers (q : Request) (ans : Answer) (b : Act) : Prop :=
      b = { a with inbox := b.inbox } ∧ ∀ x ∈ w, b.Tells (.answered x q ans)
    (∀ i, (a.isolators.get i).state = .opened →
      let ok := (a.breaker.state = .opened ∨ a.breaker.state = .lockout)
        ∧ (∃ y, a.selector.state = .rest (.system y))
        ∧ (a.slots.get i).lift = .up ∧ (a.slots.get i).duty = .collect
        ∧ (a.isolators.get i.other).state = .opened ∧ a.test.running = false
      (ok → ((a.closeIsolator i w).isolators.get i).state = .closing
        ∧ ((a.closeIsolator i w).isolators.get i).timer = some 300)
      ∧ (¬ ok → a.closeIsolator i w = { a with inbox := (a.closeIsolator i w).inbox }
        ∧ answers (.closeIsolator i) .refused (a.closeIsolator i w)))
    ∧ (a.breaker.state = .opened →
      let ok := (∃ y, a.selector.state = .rest (.system y) ∧ e.cls.confirmed = .system y)
        ∧ ((a.isolators.zero.state = .closed ∧ a.isolators.one.state = .opened)
          ∨ (a.isolators.zero.state = .opened ∧ a.isolators.one.state = .closed))
        ∧ (∃ c, e.pv.authority = some c) ∧ e.pv.permit = true
      (ok → (a.closeBreaker e w).breaker.state = .closing ∧ (a.closeBreaker e w).breaker.timer = some 200)
      ∧ (¬ ok → a.closeBreaker e w = { a with inbox := (a.closeBreaker e w).inbox }
        ∧ answers .closeBreaker .refused (a.closeBreaker e w)))
    ∧ (∀ i,
      let r := a.isolators.get i
      (r.state = .closing →
        a.closeIsolator i w =
          { a with isolators := a.isolators.set i { r with closeWaiters := r.closeWaiters ++ w } })
      ∧ (r.state = .closed → answers (.closeIsolator i) .done (a.closeIsolator i w))
      ∧ (r.state = .fault ∨ (∃ d, r.state = .opening d) → answers (.closeIsolator i) .refused (a.closeIsolator i w)))
    ∧ (a.breaker.state = .closing →
      a.closeBreaker e w =
        { a with breaker := { a.breaker with closeWaiters := a.breaker.closeWaiters ++ w } })
    ∧ (a.breaker.state = .closed → answers .closeBreaker .done (a.closeBreaker e w))
    ∧ (a.breaker.state = .opening ∨ a.breaker.state = .lockout →
      answers .closeBreaker .refused (a.closeBreaker e w))
    ∧ (∀ y,
      let b := a.moveSelector e y w
      let clear := (a.breaker.state = .opened ∨ a.breaker.state = .lockout)
        ∧ ∀ i, (a.isolators.get i).state = .opened
      let elsewhere := a.selector.state = .unknown ∨ ∃ p, a.selector.state = .rest p ∧ p ≠ .system y
      (a.selector.state = .rest (.system y) → answers (.moveSelector y) .done b)
      ∧ (a.selector.state = .moving y →
        b = { a with selector := { a.selector with waiters := a.selector.waiters ++ w } })
      ∧ (a.selector.state = .fault ∨ (∃ t, a.selector.state = .moving t ∧ t ≠ y) →
        answers (.moveSelector y) .refused b)
      ∧ (elsewhere → ¬ clear → answers (.moveSelector y) .refused b)
      ∧ (elsewhere → clear → Switches.get e.pins.selector (.system y) = false →
        b = { a with selector := { state := .moving y, timer := some 4000, waiters := w } })
      ∧ (elsewhere → clear → Switches.get e.pins.selector (.system y) = true →
        b =
          { a with
            selector := { state := .rest (.system y), timer := none, waiters := [] }, inbox := b.inbox }
        ∧ ∀ x ∈ w, b.Tells (.answered x (.moveSelector y) .done))))
  ∧ (∀ (e : Env) (a : Act) (w : List Requester),
    let answers (q : Request) (ans : Answer) (b : Act) : Prop :=
      b = { a with inbox := b.inbox } ∧ ∀ x ∈ w, b.Tells (.answered x q ans)
    (∀ i,
      let r := a.isolators.get i
      let b := a.openIsolator e i w
      let breakerOpen := a.breaker.state = .opened ∨ a.breaker.state = .lockout
      let driven : Prop :=
        if e.pins.isolators.get i = .opened then
          (b.isolators.get i).state = .opened ∧ (b.isolators.get i).timer = none
          ∧ ∀ x ∈ r.openWaiters ++ w, b.Tells (.answered x (.openIsolator i) .done)
        else
          (b.isolators.get i).state = .opening true ∧ (b.isolators.get i).timer = some 300
          ∧ (b.isolators.get i).openWaiters = r.openWaiters ++ w
      let awaits : Isolator :=
        { r with state := .opening false, timer := none, openWaiters := r.openWaiters ++ w }
      let only : Prop := b = { a with isolators := a.isolators.set i (b.isolators.get i), inbox := b.inbox }
      (r.state = .opened → answers (.openIsolator i) .done b)
      ∧ (r.state = .closing → driven ∧ only ∧ (b.isolators.get i).closeWaiters = []
        ∧ ∀ x ∈ r.closeWaiters, b.Tells (.answered x (.closeIsolator i) .failed))
      ∧ (r.state = .closed → breakerOpen → driven ∧ only)
      ∧ (r.state = .closed → BreakerState.isLive a.breaker.state = true →
        b.logs = a.logs ++ [a.entry .breakerForcedOpen 255 4 (n32 e.cls.confirmed.code)]
        ∧ b.Tells (.breakerForced 4)
        ∧ (e.pins.breakerClosed = true → b.isolators = a.isolators.set i awaits
          ∧ b.breaker.state = .opening ∧ b.breaker.timer = some 100)
        ∧ (e.pins.breakerClosed = false → driven ∧ b.breaker.state = .opened ∧ b.breaker.timer = none))
      ∧ (r.state = .closed → a.breaker.state = .opening → b = { a with isolators := a.isolators.set i awaits })
      ∧ (∀ d, r.state = .opening d →
        b = { a with isolators := a.isolators.set i { r with openWaiters := r.openWaiters ++ w } })
      ∧ (r.state = .fault → breakerOpen → answers (.openIsolator i) .done b)
      ∧ (r.state = .fault → ¬ breakerOpen →
        b = { a with isolators := a.isolators.set i { r with openWaiters := r.openWaiters ++ w } }))
    ∧ (let b := a.openBreaker e w
      let k := a.breaker
      (k.state = .opened ∨ k.state = .lockout → answers .openBreaker .done b)
      ∧ (k.state = .opening → b = { a with breaker := { k with openWaiters := k.openWaiters ++ w } })
      ∧ (k.state = .closing ∨ k.state = .closed →
        (∀ x ∈ k.closeWaiters, b.Tells (.answered x .closeBreaker .failed))
        ∧ (e.pins.breakerClosed = true →
          b =
            { a with
              breaker :=
                { k with
                  state := .opening, timer := some 100, closeWaiters := []
                  openWaiters := k.openWaiters ++ w }
              inbox := b.inbox })
        ∧ (e.pins.breakerClosed = false →
          b.breaker = { k with state := .opened, timer := none, closeWaiters := [], openWaiters := [] }
          ∧ ∀ x ∈ k.openWaiters ++ w, b.Tells (.answered x .openBreaker .done))))
    ∧ (let b := a.requestTest w
      let dead := (a.breaker.state = .opened ∨ a.breaker.state = .lockout)
        ∧ ∀ i, (a.isolators.get i).state = .opened
      (a.test.running = true ∨ dead →
        b = { a with test := { a.test with running := true, waiters := a.test.waiters ++ w } })
      ∧ (a.test.running = false → ¬ dead →
        b =
          { a with
            test := { running := false, waiters := [], result := .invalid, count := 0, distance := 0 }
            logs := a.logs ++ [a.entry .roofTest 255 5 0], inbox := b.inbox }
        ∧ ∀ x ∈ w, b.Tells (.answered x .roofTest (.tested .invalid)))))
  ∧ (∀ (e : Env) (a : Act) (i : Slot),
    let r := a.slots.get i
    (∀ d,
      let b := a.raise e i d
      let free := r.lift = .down ∧ r.locked = false ∧ r.latch = false
      let rising : SlotRec := { r with duty := d, lift := .rising, riseTimer := some 10000, raiseWaiting := true }
      (¬ free → b = { a with inbox := b.inbox } ∧ b.Tells (.raiseAnswered i .refused))
      ∧ (free → e.pins.add.get i = false → e.pins.up.get i = false →
        (∀ y p, a.bids.profile = some y → a.active e = some p →
          b.slots.get i = rising.compute y p (e.pv.geometry.speed / 10) a.ice.level)
        ∧ (a.active e = none → b.slots.get i = rising)
        ∧ b = { a with slots := b.slots, inbox := b.inbox }
        ∧ (b.slots.get i.other).lift = (a.slots.get i.other).lift
        ∧ (b.slots.get i.other).duty = (a.slots.get i.other).duty)
      ∧ (free → e.pins.add.get i = false → e.pins.up.get i = true →
        (b.slots.get i).lift = .up ∧ (b.slots.get i).duty = d ∧ (b.slots.get i).riseTimer = none
        ∧ b.Tells (.raiseAnswered i .done))
      ∧ (free → e.pins.add.get i = true →
        (b.slots.get i).lift = .dropped ∧ (b.slots.get i).duty = .idle ∧ (b.slots.get i).latch = true
        ∧ (b.slots.get i).riseTimer = none ∧ b.Tells (.raiseAnswered i .failed)))
    ∧ (∀ w,
      let b := a.lower e i w
      let x := b.slots.get i
      let same : Prop := x.locked = r.locked ∧ x.latch = r.latch
        ∧ (b.slots.get i.other).lift = (a.slots.get i.other).lift
        ∧ (b.slots.get i.other).duty = (a.slots.get i.other).duty
      (r.lift = .down ∨ r.lift = .dropped →
        b = { a with inbox := b.inbox } ∧ ∀ y ∈ w, b.Tells (.answered y (.lower i) .done))
      ∧ (∀ p, r.lift = .lowering p →
        b = { a with slots := a.slots.set i { r with lowerWaiters := r.lowerWaiters ++ w } })
      ∧ (r.Raised →
        same ∧ x.duty = .idle ∧ x.riseTimer = none ∧ x.raiseWaiting = false
        ∧ (r.raiseWaiting = true → b.Tells (.raiseAnswered i .failed))
        ∧ ((a.isolators.get i).state = .opened → e.pins.down.get i = false →
          x.lift = .lowering .venting ∧ x.lowerTimer = some 8000 ∧ x.lowerWaiters = r.lowerWaiters ++ w)
        ∧ ((a.isolators.get i).state = .opened → e.pins.down.get i = true →
          x.lift = .down ∧ x.lowerTimer = none
          ∧ ∀ y ∈ r.lowerWaiters ++ w, b.Tells (.answered y (.lower i) .done))
        ∧ ((a.isolators.get i).state ≠ .opened →
          x.lift = .lowering .awaitingIsolator ∧ x.lowerWaiters = r.lowerWaiters ++ w
          ∧ IsolatorState.isLive (b.isolators.get i).state = false)))
    ∧ (let b := Act.handle e (.answered (.lift i) (.openIsolator i) .done) a
      (r.lift ≠ .lowering .awaitingIsolator → b = a)
      ∧ (r.lift = .lowering .awaitingIsolator → e.pins.down.get i = false →
        b =
          { a with
            slots := a.slots.set i { r with lift := .lowering .venting, lowerTimer := some 8000 }
            inbox := b.inbox })
      ∧ (r.lift = .lowering .awaitingIsolator → e.pins.down.get i = true →
        (b.slots.get i).lift = .down ∧ (b.slots.get i).lowerTimer = none
        ∧ ∀ y ∈ r.lowerWaiters, b.Tells (.answered y (.lower i) .done))))

/-- R28, R24: while the breaker is CLOSING or CLOSED the selector is at rest at the position of the confirmed system and exactly
one isolator is CLOSED; and the two isolators are never both CLOSING or CLOSED. Every step keeps this. -/
def Obligations.BreakerInterlockKept : Prop :=
  ∀ s t : State, s.Interlocked → step s = .next t → t.Interlocked

/-- R36: the coupling network is connected exactly while a test is in progress. R37, R38: the completion of a test that was
taken: its result, in the order of the rule, is recorded and told to its requesters, and ROOF_TEST is written. Without a test in
progress nothing happens. While no configuration is loaded Lroof is 0 (the model's choice, log 41). -/
def Obligations.RoofTestCompletion : Prop :=
  ∀ (s : State) (x : Option Reflection),
    let lroof := match s.env.cfg with | some c => c.lroof | none => 0
    let count := match x with | some r => r.count.val | none => 0
    let result (r : TestResult) (n : Nat) : Prop :=
      ∃ b : State, exec (.roofTestCompletion x) s = .next b.finish
        ∧ b =
          { s with
            act :=
              { s.act with
                test := { running := false, waiters := [], result := r, count := n, distance := n * 125 }
                inbox := b.act.inbox
                logs := s.act.logs ++
                  [s.act.entry .roofTest 255 (n16 r.code) (n32 (n * 125 + 65536 * n))] } }
        ∧ b.act.coupled = false ∧ ∀ w ∈ s.act.test.waiters, b.Tells (.answered w .roofTest (.tested r))
    (s.act.coupled = true ↔ s.act.test.running = true)
    ∧ (s.act.test.running = false → exec (.roofTestCompletion x) s = .next s.finish)
    ∧ (s.act.test.running = true →
        (s.env.cls.latest ≠ .dead → result .invalid count)
        ∧ (s.env.cls.latest = .dead →
            (x = none → result .noEcho 0)
            ∧ ∀ r, x = some r →
                (r.positive = false → result .earth count)
                ∧ (r.positive = true → lroof ≤ count * 125 + 300 → count * 125 ≤ lroof + 300 →
                    result .normal count)
                ∧ (r.positive = true → ¬ (lroof ≤ count * 125 + 300 ∧ count * 125 ≤ lroof + 300) →
                    result .broken count)))

/-- R34: an admitted CLEAR_FAULT whose mask names no slot: a selector in FAULT becomes UNKNOWN, an isolator in FAULT whose
contact shows OPEN becomes OPEN, a breaker in LOCKOUT whose contact shows OPEN becomes OPEN with its history emptied; any other
state is unchanged, and SWITCHGEAR_CLEARED names the devices changed where there are any. R49: an admitted CLEAR_FAULT that
names a slot: DROPPED with the down switch closed becomes DOWN, its latch staying set; DOWN with the latch set has it cleared;
every other slot is left as it is. SLOT_CLEARED is written for each slot changed. A breaker that leaves LOCKOUT and each slot
changed are reported to the sequencer (R46; for the breaker it is the model's reading of R126, log 27). What CLEAR_FAULT does
with requests that wait is the model's reading too (log 27); that slot 0 is acted on and recorded first is its choice (log 35).
-/
def Obligations.ClearFaultOrder : Prop :=
  (∀ (s : State) (own : Nat) (dst src mask : Byte) (arg : Half),
    s.Admits own .clearFault dst src → maskNames mask .zero = false → maskNames mask .one = false →
    ∃ b : State, exec (.clearFaultSwitchgear dst src mask arg) s = .next b.finish
      ∧ b.env = s.env ∧ b.act.slots = s.act.slots ∧ b.act.link = s.act.link
      ∧ b.act.selector.state =
          (if s.act.selector.state = .fault then .unknown else s.act.selector.state)
      ∧ (∀ i, (b.act.isolators.get i).state =
          if (s.act.isolators.get i).state = .fault ∧ s.env.pins.isolators.get i = .opened then .opened
          else (s.act.isolators.get i).state)
      ∧ b.act.breaker =
          (if s.act.breaker.state = .lockout ∧ s.env.pins.breakerClosed = false then
            { s.act.breaker with state := .opened, lastTrip := none }
          else s.act.breaker)
      ∧ (s.act.breaker.state = .lockout → s.env.pins.breakerClosed = false → b.Tells .breakerOpened)
      ∧ (let cleared (i : Slot) : Prop :=
          (s.act.isolators.get i).state = .fault ∧ s.env.pins.isolators.get i = .opened
        let what : Nat := (if s.act.selector.state = .fault then 1 else 0) + (if cleared .zero then 2 else 0)
          + (if cleared .one then 4 else 0)
          + if s.act.breaker.state = .lockout ∧ s.env.pins.breakerClosed = false then 8 else 0
        ∃ es, (s.Unarmed → es = [])
          ∧ b.act.logs = s.act.logs ++ es ++
            if what = 0 then [] else [s.act.entry .switchgearCleared 255 (n16 what) 0]))
  ∧ (∀ (s : State) (own : Nat) (dst src mask : Byte) (arg : Half),
    s.Admits own .clearFault dst src → s.Unarmed → maskNames mask .zero || maskNames mask .one →
    let back (i : Slot) : Bool :=
      maskNames mask i && decide ((s.act.slots.get i).lift = .dropped) && s.env.pins.down.get i
    let freed (i : Slot) : Bool :=
      maskNames mask i && decide ((s.act.slots.get i).lift = .down) && (s.act.slots.get i).latch
    ∃ b : State, exec (.clearFaultSlots dst src mask arg) s = .next b.finish
      ∧ b =
        { s with
          act :=
            { s.act with
              slots := b.act.slots, inbox := b.act.inbox
              logs := s.act.logs ++
                ([Slot.zero, Slot.one].filter fun i => back i || freed i).map
                  fun i => s.act.entry .slotCleared i.code (if back i then 1 else 2) 0 } }
      ∧ (∀ i, (back i || freed i) = true → b.Tells (.slotChanged i))
      ∧ ∀ i, b.act.slots.get i =
          { s.act.slots.get i with
            lift := if back i then .down else (s.act.slots.get i).lift
            latch := if freed i then false else (s.act.slots.get i).latch })

/-! ### Lift Drive -/

/-- R51: the force and pressure setpoints of a slot, step by step, each division floored; and their ranges. -/
def Obligations.ForceComputer : Prop :=
  ∀ (y : Supply) (p : Profile) (v ice : Nat) (r : SlotRec),
    let f1 := (p.f0 * 1000 + p.kmu * (v * v) / 1000) / 1000
    let f2 := if ice = 2 ∨ ice = 3 then f1 * 11 / 10 else f1
    let f3 := if r.duty = .scrape then f2 + p.scrapeAdd else f2
    let f4 := if f3 < p.fmin then p.fmin else if p.fmax < f3 then p.fmax else f3
    ice ≤ 3 → p.fmin ≤ p.fmax →
      r.compute y p v ice =
        { r with force := f4, pressure := min 600 (r.p0 + f4 * r.gain / 100), setProfile := some y }
      ∧ p.fmin ≤ (r.compute y p v ice).force ∧ (r.compute y p v ice).force ≤ p.fmax
      ∧ (r.compute y p v ice).pressure ≤ 600

/-- R40, R53: the raise valve is enabled exactly in RISING, UP and LOWERING in AWAITING_ISOLATOR, and the pressure output
carries the setpoint while it is, 0 otherwise. R42, R44, R45: a slot's contacts. The up switch closing makes a RISING slot UP,
the down switch closing makes a VENTING one DOWN, the ADD operating drops one that is RISING, UP or LOWERING; any other change
only shows at the pin. R45: the drop's steps: the timers stop; with duty COLLECT the breaker is commanded open before the
isolator, so that a CLOSED isolator waits for it without a BREAKER_FORCED_OPEN, or has its coil driven where the breaker is
open; a raise is answered FAILED, lowers DONE; SLOT_DROPPED carries the duty and the lift state before, and ALERT DROPPED is
offered. R42, R44: a raise that times out is recorded with its duty and answered FAILED, and leaves the slot latched, without
duty and on its way down; a lowering that times out is recorded and answered FAILED, and the slot stays in VENTING. An expiry
lets the milliseconds pass that its timer had left (the model's choice, log 2). -/
def Obligations.SlotContactsAndTimers : Prop :=
  (∀ r : SlotRec,
    (r.valve = true ↔ r.lift = .rising ∨ r.lift = .up ∨ r.lift = .lowering .awaitingIsolator)
    ∧ r.pressureOutput = if r.valve = true then r.pressure else 0)
  ∧ (∀ (s : State) (i : Slot),
    let r := s.act.slots.get i
    let up (x : Bool) : Env := { s.env with pins := { s.env.pins with up := s.env.pins.up.set i x } }
    let down (x : Bool) : Env := { s.env with pins := { s.env.pins with down := s.env.pins.down.set i x } }
    let add (x : Bool) : Env := { s.env with pins := { s.env.pins with add := s.env.pins.add.set i x } }
    (r.lift = .rising → ∃ b : State, exec (.slotUp i true) s = .next b.finish
      ∧ b =
        { s with
          env := up true
          act :=
            { s.act with
              slots := s.act.slots.set i { r with lift := .up, riseTimer := none, raiseWaiting := false }
              inbox := b.act.inbox } }
      ∧ b.Tells (.slotChanged i) ∧ (r.raiseWaiting = true → b.Tells (.raiseAnswered i .done)))
    ∧ (∀ x, (r.lift ≠ .rising ∨ x = false) → exec (.slotUp i x) s = .next (State.finish { s with env := up x })
        ∧ (s.Quiet → exec (.slotUp i x) s = .next { s with env := up x }))
    ∧ (r.lift = .lowering .venting → ∃ b : State, exec (.slotDown i true) s = .next b.finish
      ∧ b =
        { s with
          env := down true
          act :=
            { s.act with
              slots := s.act.slots.set i { r with lift := .down, lowerTimer := none, lowerWaiters := [] }
              inbox := b.act.inbox } }
      ∧ b.Tells (.slotChanged i) ∧ ∀ w ∈ r.lowerWaiters, b.Tells (.answered w (.lower i) .done))
    ∧ (∀ x, (r.lift ≠ .lowering .venting ∨ x = false) →
        exec (.slotDown i x) s = .next (State.finish { s with env := down x })
        ∧ (s.Quiet → exec (.slotDown i x) s = .next { s with env := down x }))
    ∧ ((r.Raised ∨ ∃ p, r.lift = .lowering p) → ∃ b t : State, exec (.slotDropped i true) s = .next t ∧ t = b.finish
      ∧ b.env = add true ∧ t.env = add true
      ∧ b.act.slots.get i =
        { b.act.slots.get i with
          lift := .dropped, duty := .idle, latch := true, riseTimer := none, lowerTimer := none, raiseWaiting := false
          lowerWaiters := [] }
      ∧ b.Tells (.slotChanged i) ∧ (r.raiseWaiting = true → b.Tells (.raiseAnswered i .failed))
      ∧ (∀ w ∈ r.lowerWaiters, b.Tells (.answered w (.lower i) .done))
      ∧ (let k := s.act.breaker
        let x := s.act.isolators.get i
        let live := BreakerState.isLive k.state
        let opens := live = true ∧ (r.duty = .collect ∨ x.state = .closed)
        (opens → s.env.pins.breakerClosed = true → b.act.breaker.state = .opening ∧ b.act.breaker.timer = some 100)
        ∧ (opens → s.env.pins.breakerClosed = false → b.act.breaker.state = .opened ∧ b.act.breaker.timer = none)
        ∧ (opens → ∀ w ∈ k.closeWaiters, b.Tells (.answered w .closeBreaker .failed))
        ∧ (¬ opens → b.act.breaker = k)
        ∧ (x.state = .closed → b.act.breaker.state = .opening →
          b.act.isolators.get i = { x with state := .opening false, timer := none })
        ∧ (x.state = .closed → b.act.breaker.state ≠ .opening → s.env.pins.isolators.get i = .closed →
          b.act.isolators.get i = { x with state := .opening true, timer := some 300 })
        ∧ (x.state = .closed → b.act.breaker.state ≠ .opening → s.env.pins.isolators.get i = .opened →
          (b.act.isolators.get i).state = .opened)
        ∧ IsolatorState.isLive (b.act.isolators.get i).state = false
        ∧ ∃ l, b.act.logs = s.act.logs
          ++ (if live = true ∧ x.state = .closed ∧ r.duty ≠ .collect then
              [s.act.entry .breakerForcedOpen 255 4 (n32 s.env.cls.confirmed.code)]
            else [])
          ++ s.act.entry .slotDropped i.code (n16 r.duty.code) (n32 r.lift.toCode.code) :: l)
      ∧ Link.Alerted { code := .dropped, slot := some i } s.act.link b.act.link
      ∧ (t.act.slots.get i).lift = .dropped ∧ (t.act.slots.get i).latch = true
      ∧ (t.act.slots.get i).duty = .idle ∧ (t.act.slots.get i).locked = r.locked
      ∧ (t.act.slots.get i.other).latch = (s.act.slots.get i.other).latch
      ∧ (t.act.slots.get i.other).locked = (s.act.slots.get i.other).locked)
    ∧ (∀ x, (r.lift = .down ∨ r.lift = .dropped ∨ x = false) →
        exec (.slotDropped i x) s = .next (State.finish { s with env := add x })
        ∧ (s.Quiet → exec (.slotDropped i x) s = .next { s with env := add x })))
  ∧ (∀ (s : State) (i : Slot) (n : Nat),
    let r := s.act.slots.get i
    (r.lift = .rising → r.riseTimer = some n → ∃ b t : State, exec (.riseTimeout i) s = .next t ∧ t = b.finish
      ∧ b.env = s.env.elapse n ∧ t.env = s.env.elapse n
      ∧ (∃ l, b.act.logs = s.act.logs ++ s.act.entry .raiseFail i.code (n16 r.duty.code) 0 :: l)
      ∧ (r.raiseWaiting = true → b.Tells (.raiseAnswered i .failed))
      ∧ (b.act.slots.get i).latch = true ∧ (b.act.slots.get i).duty = .idle
      ∧ (b.act.slots.get i).riseTimer = none ∧ (b.act.slots.get i).raiseWaiting = false
      ∧ ((s.act.isolators.get i).state ≠ .opened → (b.act.slots.get i).lift = .lowering .awaitingIsolator)
      ∧ ((s.act.isolators.get i).state = .opened →
        if s.env.pins.down.get i = true then (b.act.slots.get i).lift = .down
        else (b.act.slots.get i).lift = .lowering .venting ∧ (b.act.slots.get i).lowerTimer = some 8000)
      ∧ (t.act.slots.get i).latch = true ∧ (t.act.slots.get i).duty = .idle
      ∧ ((t.act.slots.get i).lift = .down ∨ ∃ p, (t.act.slots.get i).lift = .lowering p)
      ∧ (t.act.slots.get i).locked = r.locked
      ∧ (t.act.slots.get i.other).latch = (s.act.slots.get i.other).latch
      ∧ (t.act.slots.get i.other).locked = (s.act.slots.get i.other).locked)
    ∧ (r.lift = .lowering .venting → r.lowerTimer = some n →
      ∃ b : State, exec (.lowerTimeout i) s = .next b.finish
        ∧ b =
          { s.elapse n with
            act :=
              { s.act.elapse n with
                slots :=
                  (s.act.elapse n).slots.set i
                    { (s.act.elapse n).slots.get i with lowerTimer := none, lowerWaiters := [] }
                inbox := b.act.inbox
                logs := s.act.logs ++ [s.act.entry .lowerFail i.code 0 1] } }
        ∧ ∀ w ∈ r.lowerWaiters, b.Tells (.answered w (.lower i) .failed)))

/-- R47: an admitted LOCK locks each slot its mask names, and a named slot is no longer raised; SLOT_LOCK with data0 1 and the
source is written for each slot whose lock changed; the lock of a slot it does not name, and every fault latch, stay as they
were; to all, naming both slots, it is the lock-all, of which the sequencer is told. R48: an admitted UNLOCK unlocks each slot
its mask names and changes nothing else of any slot; SLOT_LOCK with data0 0 and the source is written for each slot whose lock
changed. Where both change, slot 0's record stands first (the model's choice, log 35). -/
def Obligations.LockAndUnlockOrders : Prop :=
  (∀ (s : State) (own : Nat) (dst src mask : Byte) (arg : Half), s.Admits own .lock dst src →
    ∃ b t : State, exec (.lock dst src mask arg) s = .next t
      ∧ t = b.finish
      ∧ (dst.toNat = 0 → maskNames mask .zero = true → maskNames mask .one = true → b.Tells .lockAll)
      ∧ (∀ i, maskNames mask i = true → (s.act.slots.get i).locked = false → b.Tells (.slotChanged i))
      ∧ (let locks (x : LogEntry) : Bool := decide (x.code = .slotLock)
        b.act.logs.filter locks = s.act.logs.filter locks ++
          ([Slot.zero, Slot.one].filter fun i => maskNames mask i && !(s.act.slots.get i).locked).map
            fun i => s.act.entry .slotLock i.code 1 (n32 src.toNat))
      ∧ t.env = s.env ∧ t.port = s.port
      ∧ ∀ i, (t.act.slots.get i).locked = (maskNames mask i || (s.act.slots.get i).locked)
        ∧ (t.act.slots.get i).latch = (s.act.slots.get i).latch
        ∧ (maskNames mask i = true → ¬ (t.act.slots.get i).Raised))
  ∧ (∀ (s : State) (own : Nat) (dst src mask : Byte) (arg : Half), s.Admits own .unlock dst src → s.Unarmed →
    ∃ b : State, exec (.unlock dst src mask arg) s = .next b.finish
      ∧ b =
        { s with
          act :=
            { s.act with
              slots := b.act.slots, inbox := b.act.inbox
              logs := s.act.logs ++
                ([Slot.zero, Slot.one].filter fun i => maskNames mask i && (s.act.slots.get i).locked).map
                  fun i => s.act.entry .slotLock i.code 0 (n32 src.toNat) } }
      ∧ (∀ i, b.act.slots.get i =
          { s.act.slots.get i with locked := !maskNames mask i && (s.act.slots.get i).locked })
      ∧ (∀ i, maskNames mask i = true → (s.act.slots.get i).locked = true → b.Tells (.slotChanged i))
      ∧ ∀ i, (b.finish.act.slots.get i).locked = (!maskNames mask i && (s.act.slots.get i).locked))

/-- R50: the preferred collecting slot after an admitted PREFER, by the slots its mask names; nothing else of the slots, the
inputs or the view changes at the order itself, and PREFERRED_SLOT is written and the sequencer is told (R46) where the
preference changes. -/
def Obligations.PreferOrder : Prop :=
  ∀ (s : State) (own : Nat) (dst src mask : Byte) (arg : Half), s.Admits own .prefer dst src → s.Unarmed →
    let new : Option Slot :=
      if maskNames mask .zero = true ∧ maskNames mask .one = false then some .zero
      else if maskNames mask .zero = false ∧ maskNames mask .one = true then some .one
      else if maskNames mask .zero = false ∧ maskNames mask .one = false then none
      else s.act.preferred
    ∃ b : State, exec (.prefer dst src mask arg) s = .next b.finish
      ∧ b =
        { s with
          act :=
            { s.act with
              preferred := new, inbox := b.act.inbox
              logs := s.act.logs ++
                if new = s.act.preferred then []
                else [s.act.entry .preferredSlot 255 (n16 (optSlotCode new)) (n32 src.toNat)] } }
      ∧ (new ≠ s.act.preferred → b.Tells .preferredChanged)
      ∧ b.finish.act.preferred = new

/-- R39, R41 to R47: a duty is held only while RISING or UP, a locked or latched slot is not raised, a DROPPED slot is latched,
pressure setpoints stay within 600 kPa, and the two slots never hold the same duty. Every step keeps this. -/
def Obligations.SlotSafetyKept : Prop :=
  ∀ s t : State, s.SlotsSafe → step s = .next t → t.SlotsSafe

/-! ### Start-up Controller and orders -/

/-- R84: an order that is addressed to the station or to all and fails its source condition only writes FRAME_REFUSED; one that
is addressed to another node does nothing. The same for ROUTE and CANCEL. R66: while the own entry is ON_WIRE nothing is
delivered from the receive lane: every frame, and every other activity on the line, leaves the part as it is. That the line's
other activity counts as nothing then is the model's reading (log 11). -/
def Obligations.FramesNotDelivered : Prop :=
  (∀ (s : State) (own : Nat) (dst src mask : Byte) (arg : Half) (temp : Int),
    s.Hears own dst src → s.Unarmed →
    let refused (kind verb : Nat) : State :=
      { s with
        act := { s.act with logs := s.act.logs ++ [s.act.entry .frameRefused src.toNat (n16 kind) (n32 verb)] } }
    let addressed := dst.toNat = 0 ∨ dst.toNat = own
    (∀ v, addressed → (if v = .lock then src.toNat < 9 else s.env.pv.authority ≠ some src.toNat) →
      exec (orderCommand v dst src mask arg temp) s = .next (refused 8 v.code).finish)
    ∧ (∀ v, ¬ addressed →
      exec (orderCommand v dst src mask arg temp) s = .next s.finish
      ∧ (s.Quiet → exec (orderCommand v dst src mask arg temp) s = .next s))
    ∧ (∀ n : Notice, n.id ≠ 0 → addressed → s.env.pv.authority ≠ some src.toNat →
      exec (.route dst src n) s = .next (refused 6 0).finish
      ∧ exec (.cancel dst src n.id) s = .next (refused 7 0).finish)
    ∧ (∀ n : Notice, n.id ≠ 0 → ¬ addressed →
      exec (.route dst src n) s = .next s.finish ∧ exec (.cancel dst src n.id) s = .next s.finish))
  ∧ (∀ (s : State) (dst src mask kind id number : Byte) (arg : Half) (temp : Int) (v : Verb) (p : RoofPayload)
    (c : CabPayload) (b : BidPayload) (x : Alert) (n : Notice) (payload : List Byte),
    s.act.link.readback = true →
    exec (orderCommand v dst src mask arg temp) s = .next s.finish
    ∧ exec (.clearFaultSwitchgear dst src mask arg) s = .next s.finish
    ∧ exec (.stateRoof dst src p) s = .next s.finish ∧ exec (.stateCab dst src c) s = .next s.finish
    ∧ exec (.bid dst src b) s = .next s.finish ∧ exec (.cede dst src number) s = .next s.finish
    ∧ exec (.alert dst src x) s = .next s.finish ∧ exec (.route dst src n) s = .next s.finish
    ∧ exec (.cancel dst src id) s = .next s.finish
    ∧ exec (.unknownKind dst src kind payload) s = .next s.finish
    ∧ exec (.framingError payload) s = .next s.finish)

/-- R144: RESUME. Outside HELD, or with a condition of the rule failing, RESUME_REFUSED with its reason is all it does; taken, a
passage begins with the rule's collector and target: at SENSING behind a connected collector, at PREPARE otherwise. Where
several conditions fail, the reason is the first of them in the order of the reasons' numbers (the model's reading, log 34). -/
def Obligations.ResumeOrder : Prop :=
  ∀ (s : State) (own : Nat) (dst src mask : Byte) (arg : Half), s.Admits own .resume dst src → s.Unarmed →
    let a := s.act
    let held := ∃ r, a.seq.state = .held r
    let fault := a.selector.state = .fault ∨ a.isolators.zero.state = .fault ∨ a.isolators.one.state = .fault
    let refused (reason : Nat) : State :=
      { s with
        act := { a with logs := a.logs ++ [a.entry .resumeRefused 255 (n16 reason) (n32 src.toNat)] } }
    let connected (i : Slot) := (a.slots.get i).lift = .up ∧ (a.slots.get i).duty = .collect
      ∧ (a.isolators.get i).state = .closed
    (¬ held → exec (.resume dst src mask arg) s = .next (refused 1).finish)
    ∧ (held → a.breaker.state ≠ .opened → exec (.resume dst src mask arg) s = .next (refused 2).finish)
    ∧ (held → a.breaker.state = .opened → fault → exec (.resume dst src mask arg) s = .next (refused 3).finish)
    ∧ (held → a.breaker.state = .opened → ¬ fault → a.bids.profile = none →
        exec (.resume dst src mask arg) s = .next (refused 4).finish)
    ∧ (∀ y, held → a.breaker.state = .opened → ¬ fault → a.bids.profile = some y →
        (∀ i, ¬ connected i) →
        ∃ b : State, exec (.resume dst src mask arg) s = .next b.finish
          ∧ b.env = s.env ∧ b.act.seq.state = .prepare .clearing ∧ b.act.seq.reselectUsed = false
          ∧ b.act.seq.testCount = 0
          ∧ b.act.seq.target = (match a.seq.target with | some x => some x | none => some y))
    ∧ (∀ i y p, held → a.breaker.state = .opened → ¬ fault → a.bids.profile = some p →
        connected i → (i = .one → ¬ connected .zero) → a.selector.state = .rest (.system y) →
        s.env.cls.confirmed = .noSystem →
        ∃ b : State, exec (.resume dst src mask arg) s = .next b.finish
          ∧ b.env = s.env ∧ b.act.seq.state = .sensing ∧ b.act.seq.reselectUsed = false
          ∧ b.act.seq.collector = some i ∧ b.act.seq.target = some y ∧ b.act.seq.noSupplyTimer = some 10000)

/-- R167, R168: MUTE and UNMUTE. With destination 0, and in a mode of the rule that does not take them, ORDER_IGNORED is all
they do; a MUTE in force changes nothing; a taken MUTE brings MUTING with the JOIN timer stopped, takes both slots down, and the
mode is MUTED exactly from the event at which both are DOWN or DROPPED; a taken UNMUTE brings JOIN with its timer started. The
sequencer, told of the MUTE and of the mode (R125), is in DORMANT at the event's end. Its DORMANT comes first, then a lower
request of the Start-up Controller's for each slot and the test of both slots, which each slot change repeats. MUTED offers the
final STATE_ROOF: the gate closes when its entry leaves the queue, or at once where the offer is refused. -/
def Obligations.MuteAndUnmute : Prop :=
  (∀ (s : State) (own : Nat) (dst src mask : Byte) (arg : Half), s.Unarmed → own ≠ 0 →
    let a := s.act
    let ignored (v : Verb) (reason : Nat) : State :=
      { s with
        act := { a with logs := a.logs ++ [a.entry .orderIgnored src.toNat (n16 v.code) (n32 reason)] } }
    (s.Admits own .mute dst src →
      (dst.toNat = 0 → exec (.mute dst src mask arg) s = .next (ignored .mute 1).finish)
      ∧ (dst.toNat = own →
          (a.startup.mode = .listen ∨ a.startup.mode = .safe →
            exec (.mute dst src mask arg) s = .next (ignored .mute 3).finish)
          ∧ (a.startup.mode = .muting ∨ a.startup.mode = .muted →
            exec (.mute dst src mask arg) s = .next s.finish)
          ∧ (a.startup.mode = .join ∨ a.startup.mode = .ready →
            ∃ b : State, exec (.mute dst src mask arg) s = .next b.finish
              ∧ b.env = s.env ∧ b.act.startup.mode = .muting ∧ b.act.startup.joinTimer = none
              ∧ b.Tells .muteTaken ∧ b.Tells .modeChanged
              ∧ (b.finish.act.startup.mode = .muting ∨ b.finish.act.startup.mode = .muted)
              ∧ b.finish.act.startup.joinTimer = none
              ∧ (b.finish.act.startup.mode = .muted → ∀ i, (b.finish.act.slots.get i).restsDown = true)
              ∧ (s.Quiet →
                b.finish.act.seq.state = .dormant
                ∧ (∀ i, ¬ (b.finish.act.slots.get i).Raised)
                ∧ ((∀ i, (a.slots.get i).restsDown = true) → b.finish.act.startup.mode = .muted)))))
    ∧ (s.Admits own .unmute dst src →
      (dst.toNat = 0 → exec (.unmute dst src mask arg) s = .next (ignored .unmute 1).finish)
      ∧ (dst.toNat = own →
          (a.startup.mode ≠ .muting ∧ a.startup.mode ≠ .muted →
            exec (.unmute dst src mask arg) s = .next (ignored .unmute 3).finish)
          ∧ (a.startup.mode = .muting ∨ a.startup.mode = .muted →
            ∃ b : State, exec (.unmute dst src mask arg) s = .next b.finish
              ∧ b.env = s.env ∧ b.act.link.gateOpen = true ∧ b.act.startup.pendingClose = false
              ∧ b.finish.act.startup.mode = .join ∧ b.finish.act.startup.joinTimer = some 200))))
  ∧ (∀ (e : Env) (a : Act),
    let down (x : Act) : Prop := ∀ i, (x.slots.get i).lift = .down ∨ (x.slots.get i).lift = .dropped
    (Act.handle e .muteTaken a = (a.goDormant e .muteTaken).muteSlots e)
    ∧ (∀ i, Act.handle e (.slotChanged i) a = (a.seqSlotChanged e i).mutedTest e)
    ∧ (let b := a.muteSlots e
      (∀ i, ¬ (b.slots.get i).Raised)
      ∧ (∀ i p, (b.slots.get i).lift = .lowering p → .startup ∈ (b.slots.get i).lowerWaiters)
      ∧ (a.startup.mode = .muting →
        (down b → b.startup.mode = .muted) ∧ (¬ down b → b.startup.mode = .muting)))
    ∧ (let b := a.mutedTest e
      (a.startup.mode ≠ .muting ∨ ¬ down a → b = a)
      ∧ (a.startup.mode = .muting → down a →
        b.startup.mode = .muted
        ∧ (a.link.gateOpen = false → b.link.gateOpen = false ∧ b.link.waiting = [])
        ∧ (a.link.gateOpen = true → a.bids.bid = none →
          (a.link.length < 8 → b.startup.pendingClose = true ∧ b.link.gateOpen = true
            ∧ ∃ x p, (b.link.head.map TxHead.entry = some x ∨ x ∈ b.link.waiting)
              ∧ .final ∈ x.requesters ∧ x.frame = .stateRoof p ∧ p.mode = .muted)
          ∧ (8 ≤ a.link.length → (∀ h, a.link.head = some h → h.entry.isStateRoof = false) →
            (∀ x ∈ a.link.waiting, x.isStateRoof = false) →
            b.link.gateOpen = false ∧ b.link.waiting = []))))
    ∧ (let b := Act.handle e .finalLeft a
      (a.startup.pendingClose = false → b = a)
      ∧ (a.startup.pendingClose = true → b.startup.pendingClose = false
        ∧ b.link.gateOpen = false ∧ b.link.stateTimer = none ∧ b.link.waiting = [])))

/-- R169: the arming record. RESET_ARM to the station arms it; RESET_ARM or RESET to all disarms it, and is ignored where it is
disarmed; a RESET to the station from a cab that has not armed it is ignored; any other accepted frame from the arming cab, with
destination 0 or the station, disarms it and is then delivered; frames of the arming cab to another node, and frames of every
other source, leave it; the arming timer disarms it. An expiry lets the milliseconds pass that its timer had left (the model's
choice, log 2). Where R169's prose says less than its table, for a second cab's RESET_ARM and for another cab's RESET, the table
is followed, and an accepted frame is reported for arming before it is delivered (the model's reading, log 16). -/
def Obligations.ArmingRecord : Prop :=
  ∀ (s : State) (own : Nat) (dst src mask : Byte) (arg : Half) (temp : Int), own ≠ 0 →
    let a := s.act
    let ignored (v : Verb) (reason : Nat) : State :=
      { s with
        act := { a with logs := a.logs ++ [a.entry .orderIgnored src.toNat (n16 v.code) (n32 reason)] } }
    let disarmed (c why : Nat) (a : Act) : Act :=
      { a with
        startup := { a.startup with armedBy := none, armingTimer := none }
        logs := a.logs ++ [a.entry .resetDisarmed c (n16 why) 0] }
    let addressed := dst.toNat = 0 ∨ dst.toNat = own
    let frames (ok : Verb → Prop) (holds : Instr → Prop) : Prop :=
      (∀ p, frameValid (.stateRoof p) = true → holds (.stateRoof dst src p))
      ∧ (∀ p, holds (.stateCab dst src p))
      ∧ (∀ b, frameValid (.bid b) = true → holds (.bid dst src b))
      ∧ (∀ n, holds (.cede dst src n))
      ∧ (∀ x : Alert, x.slotFits = true → holds (.alert dst src x))
      ∧ (∀ n : Notice, n.id ≠ 0 → holds (.route dst src n) ∧ holds (.cancel dst src n.id))
      ∧ holds (.clearFaultSwitchgear dst src mask arg)
      ∧ ∀ v, ok v → holds (orderCommand v dst src mask arg temp)
    let leaves (c : Instr) : Prop :=
      ∃ t, exec c s = .next t ∧ t.act.startup.armedBy = a.startup.armedBy
        ∧ t.act.startup.armingTimer = a.startup.armingTimer
    (s.Admits own .resetArm dst src → dst.toNat = own →
      exec (.resetArm dst src mask arg) s =
        .next (State.finish
          { s with
            act :=
              { a with
                startup := { a.startup with armedBy := some src.toNat, armingTimer := some 1000 }
                logs := a.logs ++ [a.entry .resetArmed src.toNat 0 0] } }))
    ∧ (∀ v, v = .resetArm ∨ v = .reset → s.Admits own v dst src → dst.toNat = 0 →
      (a.startup.armedBy = none →
        exec (orderCommand v dst src mask arg temp) s = .next (ignored v 1).finish)
      ∧ ∀ c, a.startup.armedBy = some c →
        exec (orderCommand v dst src mask arg temp) s = .next (State.finish { s with act := disarmed c 1 a }))
    ∧ (s.Admits own .reset dst src → dst.toNat = own → a.startup.armedBy ≠ some src.toNat →
      exec (.reset dst src mask arg temp) s = .next (ignored .reset 2).finish)
    ∧ (s.Hears own dst src → a.startup.armedBy = some src.toNat → addressed →
      let left : State := { s with act := disarmed src.toNat 1 a }
      left.Unarmed
      ∧ frames (fun v => v = .resetArm ∨ v = .reset → s.env.pv.authority ≠ some src.toNat) fun c =>
          exec c s = exec c left ∧ ∃ t, exec c s = .next t ∧ t.act.startup.armedBy = none)
    ∧ (s.Hears own dst src → a.startup.armedBy = some src.toNat → ¬ addressed → frames (fun _ => True) leaves)
    ∧ (s.Hears own dst src → a.startup.armedBy ≠ some src.toNat →
      frames (fun v => v = .resetArm ∨ v = .reset → s.env.pv.authority ≠ some src.toNat ∨ ¬ addressed) leaves)
    ∧ (∀ n c, a.startup.armingTimer = some n → a.startup.armedBy = some c →
      exec .armingTimerExpiry s =
        .next (State.finish { s.elapse n with act := disarmed c 2 (s.act.elapse n) }))

/-- R163: each attempt of a load sends a read command for address 0 on the SPI controller port and clocks in 256 bytes; the
first begins at the end of a power-on reset, the next at once where one fails. R163, R164, R162: the end of an attempt. A buffer
that is not read correctly is tried again, and rejected with reason 1 at the third; a correct one that fails a check is rejected
with its reason; both rejections end in SAFE, with CONFIG_BAD of the reason and the failing field's offset. A buffer that passes
becomes the loaded configuration, with CONFIG_LOADED of the attempts and the identity word: address and slot values are taken,
the gate stays CLOSED, and the mode is LISTEN with its timer started. After the load, or outside START, no buffer is judged.
R164: what makes a correct buffer fail, row by row: a configuration is accepted exactly when every field lies in its range. -/
def Obligations.ConfigurationLoad : Prop :=
  (∀ (s : State) (b : List Byte), b.length = 256 →
    let reads (n : Nat) (t : State) : Prop := t.act.memoryRead = some { attempt := n, address := 0, length := 256 }
    let bad (reason offset : Nat) (c : State) : Prop :=
      ∃ l, c.act.logs = s.act.logs ++ s.act.entry .configBad 0 (n16 reason) (n32 offset) :: l
    (∀ n, s.act.startup.mode = .start → s.act.startup.load = .reading n →
      reads n s
      ∧ (readCorrect b = false → n < 3 →
        let t : State := { s with act := { s.act with startup := { s.act.startup with load := .reading (n + 1) } } }
        exec (.configAttemptEnd b) s = .next t.finish ∧ reads (n + 1) t.finish)
      ∧ (readCorrect b = false → 3 ≤ n → ∃ c t : State, exec (.configAttemptEnd b) s = .next t
          ∧ t = c.finish ∧ bad 1 0 c ∧ t.act.memoryRead = none ∧ t.env = s.env ∧ t.act.startup.load = .rejected 1 ∧ t.act.startup.mode = .safe)
      ∧ (∀ reason offset, readCorrect b = true → configFailure b = some (reason, offset) →
          ∃ c t : State, exec (.configAttemptEnd b) s = .next t ∧ t = c.finish ∧ bad reason offset c
            ∧ t.act.memoryRead = none
            ∧ t.env = s.env ∧ t.act.startup.load = .rejected reason ∧ t.act.startup.mode = .safe)
      ∧ (readCorrect b = true → configFailure b = none → ∃ c t : State, exec (.configAttemptEnd b) s = .next t
          ∧ t = c.finish
          ∧ (∃ l, c.act.logs = s.act.logs ++ s.act.entry .configLoaded (at8 b 4) (n16 n) (identityWord b) :: l)
          ∧ t.act.memoryRead = none ∧ t.env = { s.env with cfg := some (readBlock b) }
          ∧ t.act.startup.load = .accepted ∧ t.act.startup.mode = .listen
          ∧ t.act.startup.listenTimer = some 500
          ∧ t.act.link.address = some (at8 b 4) ∧ (t.act.link.gateOpen = true → s.act.link.gateOpen = true)
          ∧ (t.act.slots.get .zero).dA = at16 b 7 ∧ (t.act.slots.get .one).dA = at16 b 9
          ∧ (t.act.slots.get .zero).head = (if at8 b 5 = 1 then .headB else .headA)
          ∧ (t.act.slots.get .one).head = (if at8 b 6 = 1 then .headB else .headA)
          ∧ (t.act.slots.get .zero).p0 = at16 b 11 ∧ (t.act.slots.get .zero).gain = at16 b 13
          ∧ (t.act.slots.get .one).p0 = at16 b 15 ∧ (t.act.slots.get .one).gain = at16 b 17))
    ∧ ((s.act.startup.mode ≠ .start ∨ ∀ n, s.act.startup.load ≠ .reading n) →
      s.act.memoryRead = none ∧ exec (.configAttemptEnd b) s = .next s.finish
      ∧ (s.Quiet → exec (.configAttemptEnd b) s = .next s)))
  ∧ (∀ (pins : Pins) (s : State), ∃ t, exec (.powerOnReset pins) s = .next t
    ∧ t.act.memoryRead = some { attempt := 1, address := 0, length := 256 })
  ∧ (∀ b : List Byte,
    let signed := (b.getD 25 0xFF).toInt
    let good (y : Supply) :=
      let o := profileOffset y
      1 ≤ at8 b o ∧ at8 b o ≤ 8 ∧ at8 b (o + 5) ≤ 1 ∧ 1 ≤ at8 b (o + 6) ∧ at8 b (o + 6) ≤ 3
      ∧ at16 b (o + 9) ≤ 5000 ∧ at16 b (o + 11) ≤ at16 b (o + 13)
    let address := 1 ≤ at8 b 4 ∧ at8 b 4 ≤ 8
    let slot := at16 b 7 ≤ 8000 ∧ at16 b 9 ≤ 8000 ∧ at8 b 5 ≤ 1 ∧ at8 b 6 ≤ 1
    let thresholds := at8 b 21 < at8 b 22 ∧ at8 b 22 < at8 b 23
    let profiles := ∀ y, good y
    let temperature := -20 ≤ signed ∧ signed ≤ 10
    (configFailure b = none ↔ address ∧ slot ∧ thresholds ∧ profiles ∧ temperature)
    ∧ (¬ address → (configFailure b).map Prod.fst = some 2)
    ∧ (address → ¬ slot → (configFailure b).map Prod.fst = some 3)
    ∧ (address → slot → ¬ thresholds → (configFailure b).map Prod.fst = some 4)
    ∧ (address → slot → thresholds → ¬ profiles → (configFailure b).map Prod.fst = some 5)
    ∧ (address → slot → thresholds → profiles → ¬ temperature → (configFailure b).map Prod.fst = some 6))

/-- R165, R58: the LISTEN timer's expiry in LISTEN brings JOIN, with the JOIN timer started and the gate opened, which seeds the
generator and starts the STATE timer; the JOIN timer's expiry in JOIN brings READY; the sequencer is told of each change of
mode. An expiry lets the milliseconds pass that its timer had left (the model's choice, log 2). -/
def Obligations.ModeTimers : Prop :=
  ∀ (s : State) (n : Nat),
    (s.act.startup.mode = .listen → s.act.startup.listenTimer = some n →
      ∃ b : State, exec .listenTimerExpiry s = .next b.finish
        ∧ b.env = s.env.elapse n
        ∧ (∀ own, s.act.link.address = some own →
            b.act.link.gateOpen = true ∧ b.act.link.seed = some (own, s.env.now + n)
            ∧ b.act.link.stateTimer = some 50)
        ∧ b.Tells .modeChanged
        ∧ b.finish.act.startup.mode = .join ∧ b.finish.act.startup.listenTimer = none
        ∧ b.finish.act.startup.joinTimer = some 200)
    ∧ (s.act.startup.mode = .join → s.act.startup.joinTimer = some n →
      ∃ b t : State, exec .joinTimerExpiry s = .next t
        ∧ t = b.finish ∧ b.Tells .modeChanged
        ∧ t.env = s.env.elapse n ∧ t.act.startup.mode = .ready ∧ t.act.startup.joinTimer = none)

/-! ### Consist Link Controller -/

/-- R60, R59: the STATE timer restarts at 50 ms at its expiry, and behind an OPEN gate a STATE_ROOF of the state as it stands is
offered. One that defers at the head, or else the first that waits, takes the new frame in place, and no entry is added; with no
such entry the frame joins at the tail, and with 8 entries TX_FULL is written and the queue stays. Behind a CLOSED gate nothing
is offered. R60: which block's state each field of a STATE_ROOF shows. Which of two STATE_ROOFs takes the frame is the model's
choice (log 32), and so is that an expiry lets the milliseconds pass that its timer had left (log 2). -/
def Obligations.StateTimer : Prop :=
  (∀ (s : State) (n : Nat), s.act.link.stateTimer = some n →
    let k := s.act.link
    let frame := Frame.stateRoof ((s.act.elapse n).composeStateRoof (s.env.elapse n))
    let offered : TxEntry := { frame := frame, requesters := [.other] }
    let answers (m : Link) (written : List LogEntry) : Prop :=
      exec .stateTimerExpiry s =
        .next (State.finish
          { s.elapse n with
            act :=
              { s.act.elapse n with
                link := { m with stateTimer := some 50 }, logs := s.act.logs ++ written } })
    let defers (h : TxHead) : Prop := h.entry.isStateRoof = true ∧ h.access = .deferring
    (k.gateOpen = false → answers k [])
    ∧ (k.gateOpen = true →
      (k.head = none → k.waiting = [] →
        answers { k with head := some { entry := offered, access := .deferring, attempts := 0 } } [])
      ∧ (∀ h, k.head = some h → defers h →
          answers
            { k with
              head := some { h with entry := { frame := frame, requesters := h.entry.requesters ++ [.other] } } } [])
      ∧ (∀ h before x after, k.head = some h → ¬ defers h → k.waiting = before ++ x :: after →
          x.isStateRoof = true → (∀ y ∈ before, y.isStateRoof = false) →
          answers
            { k with
              waiting := before ++ { frame := frame, requesters := x.requesters ++ [.other] } :: after } [])
      ∧ (∀ h, k.head = some h → ¬ defers h → (∀ y ∈ k.waiting, y.isStateRoof = false) →
          (k.waiting.length + 1 < 8 → answers { k with waiting := k.waiting ++ [offered] } [])
          ∧ (8 ≤ k.waiting.length + 1 →
            answers k [s.act.entry .txFull 255 (n16 1) (n32 (k.waiting.length + 1))]))))
  ∧ (∀ (e : Env) (a : Act),
    let p := a.composeStateRoof e
    p.mode = a.startup.mode
    ∧ p.seq =
      (match a.seq.state with
      | .dormant => .dormant
      | .prepare _ => .prepare
      | .raising => .raising
      | .connecting => .connecting
      | .sensing => .sensing
      | .reselect => .reselect
      | .closing => .closing
      | .running => .running
      | .opening => .opening
      | .coasting => .coasting
      | .isolating => .isolating
      | .lowering => .lowering
      | .gap _ => .gap
      | .held _ => .held)
    ∧ p.powerless = a.seq.powerless ∧ p.odoStale = e.pv.geometry.odoStale ∧ p.confirmed = e.cls.confirmed
    ∧ p.selector =
      (match a.selector.state with
      | .rest .park => .park
      | .rest (.system .ac25) => .ac25
      | .rest (.system .ac15) => .ac15
      | .rest (.system .dc3) => .dc3
      | .rest (.system .dc15) => .dc15
      | .moving _ => .moving
      | .unknown => .unknown
      | .fault => .fault)
    ∧ p.breaker = a.breaker.state
    ∧ (∀ i, p.isolators.get i =
      match (a.isolators.get i).state with
      | .opened => .opened
      | .closing => .closing
      | .closed => .closed
      | .opening _ => .opening
      | .fault => .fault)
    ∧ (∀ i,
      let r := a.slots.get i
      let x := p.slots.get i
      (r.dA ≤ 8000 → x.dA.toNat = r.dA) ∧ x.head = r.head ∧ x.duty = r.duty ∧ x.locked = r.locked
      ∧ x.latch = r.latch
      ∧ x.lift =
        match r.lift with
        | .down => .down
        | .rising => .rising
        | .up => .up
        | .lowering _ => .lowering
        | .dropped => .dropped)
    ∧ (a.ice.ownRate ≤ 255 → p.arcRate.toNat = a.ice.ownRate)
    ∧ (a.ice.level ≤ 3 → p.iceLevel.toNat = a.ice.level)
    ∧ (a.ice.heaters.length ≤ 3 → p.heatUnits.toNat = a.ice.heaters.length)
    ∧ (a.bids.bid = none → p.bid = none)
    ∧ (∀ b, a.bids.bid = some b → ∃ o, p.bid = some o ∧ o.kind = b.kind ∧ o.slot = b.slot
      ∧ (b.number ≤ 255 → o.number.toNat = b.number) ∧ (o.committed = true ↔ b.phase = .committed))
    ∧ p.alert = a.link.lastAlert)

/-- R56, R57, R63: what the station sends on the line: while the head is ON_WIRE the preamble, the delimiter, and header,
payload and CRC of its frame, each byte least significant bit first; while it is JAMMING sixteen bits of 0; nothing otherwise
(how long a bit lasts is left out, log 23). R62 to R65: the head entry's way. A DEFERRING head starts an attempt; a bit sent as
1 that reads 0 jams it, late from counted bit 32 on; a backoff's end defers it again; the last CRC bit takes it out of the
queue, counts it and tells its requesters SENT. Each of these commands does nothing in another access state. -/
def Obligations.HeadEntry : Prop :=
  ∀ s : State,
    let k := s.act.link
    let with_ (m : Link) : State := { s with act := { s.act with link := m } }
    (∀ h, k.head = some h →
      (∀ own, k.address = some own → h.access = .onWire →
        let payload := payloadBytes h.entry.frame
        let body : List Byte := [0, n8 own, n8 h.entry.frame.kind, n8 payload.length] ++ payload
        let bits (x : Byte) : List Bool := (List.range 8).map fun n => x.getLsbD n
        s.sending =
          some
            ((List.range 16).map (fun n => n % 2 == 0) ++ [true, true, false, false, true, true, false, true]
              ++ (body ++ le16 (crc body)).flatMap bits))
      ∧ (∀ late, h.access = .jamming late → s.sending = some (List.replicate 16 false))
      ∧ ((h.access = .deferring ∨ ∃ r, h.access = .backoff r) → s.sending = none)
      ∧ (h.access = .deferring →
        exec .attemptStart s =
          .next (with_ { k with head := some { h with access := .onWire, attempts := h.attempts + 1 } }).finish)
      ∧ (h.access ≠ .deferring → exec .attemptStart s = .next s.finish)
      ∧ (∀ bit, h.access = .onWire → (wireBits s.act.station h.entry.frame)[bit]? = some true →
          exec (.collision bit) s =
            .next (with_ { k with head := some { h with access := .jamming (decide (24 + 32 ≤ bit)) } }).finish)
      ∧ (∀ bit, h.access ≠ .onWire ∨ (wireBits s.act.station h.entry.frame)[bit]? ≠ some true →
          exec (.collision bit) s = .next s.finish)
      ∧ (∀ r, h.access = .backoff r →
          exec .backoffExpiry s = .next (with_ { k with head := some { h with access := .deferring } }).finish)
      ∧ ((∀ r, h.access ≠ .backoff r) → exec .backoffExpiry s = .next s.finish)
      ∧ (h.access ≠ .onWire → exec .frameSent s = .next s.finish)
      ∧ (h.access = .onWire → ∃ b : State, exec .frameSent s = .next b.finish
          ∧ b =
            { s with
              act :=
                { s.act with
                  inbox := b.act.inbox
                  link :=
                    { k with
                      head :=
                        (k.waiting.head?).map fun x => { entry := x, access := .deferring, attempts := 0 }
                      waiting := k.waiting.tail
                      framesSent := min 65535 (k.framesSent + 1) } } }
          ∧ ∀ m, .bid m ∈ h.entry.requesters → b.Tells (.txAnswered m .sent)))
    ∧ (k.head = none →
      s.sending = none ∧ exec .attemptStart s = .next s.finish ∧ (∀ bit, exec (.collision bit) s = .next s.finish)
      ∧ exec .backoffExpiry s = .next s.finish ∧ exec .frameSent s = .next s.finish)

/-- R58, R63, R64: a jam's end counts the collision, and a late one as late. Behind a CLOSED gate the entry is removed and
answered CLOSED; after the twelfth attempt it is discarded, counted, answered DISCARDED and, unless a STATE_ROOF, recorded;
otherwise it waits a number of slot times in the range of the rule, deferring at once for none. R64: the draw after the n-th
collision is one of 0 to 2^min(n, 8) − 1, and the free value behind it, of the seed the gate's opening gave and of the draw's
index, can give each of them; that form of the free value, taken modulo the size of the range, is the model's choice (log 5). -/
def Obligations.JamEnd : Prop :=
  (∀ (s : State) (h : TxHead) (late : Bool), s.act.link.head = some h → h.access = .jamming late →
    let k := s.act.link
    let k1 : Link :=
      { k with
        collisions := min 65535 (k.collisions + 1)
        lateCollisions := if late then min 65535 (k.lateCollisions + 1) else k.lateCollisions }
    let next : Link :=
      { k1 with
        head := (k.waiting.head?).map fun x => { entry := x, access := .deferring, attempts := 0 }
        waiting := k.waiting.tail }
    ∃ b : State, exec .jamEnd s = .next b.finish
      ∧ b.env = s.env ∧ b.act.slots = s.act.slots ∧ b.act.bids = s.act.bids
      ∧ (k.gateOpen = false → b.act.link = next
          ∧ ∀ m, .bid m ∈ h.entry.requesters → b.Tells (.txAnswered m .closed))
      ∧ (k.gateOpen = true → 12 ≤ h.attempts →
          b.act.link = { next with discards := min 65535 (k.discards + 1) }
          ∧ b.act.logs = s.act.logs ++
              (if h.entry.isStateRoof then []
              else [s.act.entry .linkDiscard 255 (n16 h.entry.frame.kind) 0])
          ∧ ∀ m, .bid m ∈ h.entry.requesters → b.Tells (.txAnswered m .discarded))
      ∧ b.freeIndex = s.freeIndex + 1
      ∧ (k.gateOpen = true → h.attempts < 12 →
          let r := backoffSlots h.attempts (Config.backoffDraw k.seed s.freeIndex)
          r < 2 ^ min h.attempts 8
          ∧ b.act.link =
              { k1 with head := some { h with access := if r = 0 then .deferring else .backoff r } }))
  ∧ (∀ n, (∀ draw, backoffSlots n draw < 2 ^ min n 8) ∧ ∀ r, r < 2 ^ min n 8 → ∃ draw, backoffSlots n draw = r)

/-- R57, R66: activity that ends before its header does nothing; a length above 56, activity that ends before the last CRC bit,
and a failing CRC each count one CRC error; a frame whose CRC is right goes on to the checks of R67 and R68, as UNKNOWN_KIND
gives them. R67, R68: a frame that will not do. With no address it is dropped; an address field out of its range, and a kind,
length, code or number outside the tables, counts one unknown kind; a frame from the own address is not delivered, and brings a
station that is in LISTEN, JOIN, READY, MUTING or MUTED to SAFE and its sequencer to DORMANT. R166: DUPLICATE_ADDRESS is written
with the kind heard and the mode before, a CLOSED gate is opened and an OPEN one stays, a close that waits is cancelled, and
ALERT DUPLICATE is offered last: taken, or TX_FULL where the queue has no room. That line activity with a right CRC does what
UNKNOWN_KIND does with it, and the order of the fields behind `decodeFrame`, are the model's reading (log 11); so is the CRC's
orientation (log 9). -/
def Obligations.FramesDiscarded : Prop :=
  (∀ (s : State) (dst src kind len : Byte) (rest : List Byte), s.act.link.readback = false →
    let counted : State :=
      { s with
        act := { s.act with link := { s.act.link with crcErrors := min 65535 (s.act.link.crcErrors + 1) } } }
    (∀ bytes : List Byte, bytes.length < 4 → exec (.framingError bytes) s = .next s.finish)
    ∧ (56 < len.toNat ∨ rest.length < len.toNat + 2 →
      exec (.framingError (dst :: src :: kind :: len :: rest)) s = .next counted.finish
      ∧ (s.Quiet → exec (.framingError (dst :: src :: kind :: len :: rest)) s = .next counted))
    ∧ (∀ (payload : List Byte) (c0 c1 : Byte), len.toNat ≤ 56 → payload.length = len.toNat →
      rest = payload ++ [c0, c1] →
      (le16 (crc ([dst, src, kind, len] ++ payload)) ≠ [c0, c1] →
        exec (.framingError (dst :: src :: kind :: len :: rest)) s = .next counted.finish)
      ∧ (le16 (crc ([dst, src, kind, len] ++ payload)) = [c0, c1] →
        exec (.framingError (dst :: src :: kind :: len :: rest)) s = exec (.unknownKind dst src kind payload) s)))
  ∧ (∀ (s : State) (dst src kind : Byte) (payload : List Byte), s.act.link.readback = false →
    let counted : State :=
      { s with
        act := { s.act with link := { s.act.link with unknownKinds := min 65535 (s.act.link.unknownKinds + 1) } } }
    (s.act.link.address = none → exec (.unknownKind dst src kind payload) s = .next s.finish)
    ∧ (∀ own, s.act.link.address = some own →
      (src.toNat = 0 ∨ 15 < src.toNat ∨ 15 < dst.toNat →
        exec (.unknownKind dst src kind payload) s = .next counted.finish
        ∧ (s.Quiet → exec (.unknownKind dst src kind payload) s = .next counted))
      ∧ (s.Hears own dst src → decodeFrame kind.toNat payload = none →
        exec (.unknownKind dst src kind payload) s = .next counted.finish)
      ∧ (1 ≤ src.toNat → src.toNat ≤ 15 → dst.toNat ≤ 15 → src.toNat = own →
        s.act.startup.mode ≠ .safe → s.act.startup.mode ≠ .start →
        ∃ b t : State, exec (.unknownKind dst src kind payload) s = .next t
          ∧ t = b.finish ∧ b.Tells .modeChanged ∧ (s.Quiet → t.act.seq.state = .dormant)
          ∧ (∃ l, b.act.logs = s.act.logs ++
              s.act.entry .duplicateAddress own (n16 kind.toNat) (n32 s.act.startup.mode.code) :: l)
          ∧ b.act.link.gateOpen = true
          ∧ (s.act.link.gateOpen = true →
            b.act.link.seed = s.act.link.seed ∧ b.act.link.stateTimer = s.act.link.stateTimer)
          ∧ (s.act.link.gateOpen = false →
            b.act.link.seed = some (own, s.env.now) ∧ b.act.link.stateTimer = some 50)
          ∧ b.act.startup.pendingClose = false
          ∧ (∀ h, b.act.link.head = some h → .final ∉ h.entry.requesters)
          ∧ (∀ x ∈ b.act.link.waiting, .final ∉ x.requesters)
          ∧ (let alert : Alert := { code := .duplicate, slot := none }
            let entry : TxEntry := { frame := .alert alert, requesters := [.other] }
            b.act.link.lastAlert = some alert
              ∧ (b.act.link.head.map TxHead.entry = some entry ∨ entry ∈ b.act.link.waiting)
            ∨ b.act.link.lastAlert = s.act.link.lastAlert ∧ 8 ≤ b.act.link.length
              ∧ ∃ l, b.act.logs = l ++ [b.act.entry .txFull 255 5 (n32 b.act.link.length)])
          ∧ t.env = s.env ∧ t.act.startup.mode = .safe ∧ t.act.startup.listenTimer = none
          ∧ t.act.startup.joinTimer = none ∧ t.act.link.unknownKinds = s.act.link.unknownKinds)
      ∧ (1 ≤ src.toNat → src.toNat ≤ 15 → dst.toNat ≤ 15 → src.toNat = own → s.act.startup.mode = .safe →
        exec (.unknownKind dst src kind payload) s = .next s.finish)))

/-- R57: a receiver that runs the CRC over a body and its two CRC bytes, low byte first, holds 0; and the CRC of the nine
digits, bit order and preset as the rule gives them, is 6F91 in hexadecimal (which orientation R57 means is the model's reading,
log 9). -/
def Obligations.CrcResidue : Prop :=
  (∀ body : List Byte, crc (body ++ le16 (crc body)) = 0)
  ∧ crc [0x31, 0x32, 0x33, 0x34, 0x35, 0x36, 0x37, 0x38, 0x39] = 0x6F91

/-- R57, R60, R68 to R72: every frame whose fields lie in their ranges is read back from its payload bytes, for each of the
eight kinds, and each payload has the length of its kind. The order of the fields in a payload is the model's reading (log 11).
-/
def Obligations.FrameCodec : Prop :=
  ∀ f : Frame, frameValid f = true →
    decodeFrame f.kind (payloadBytes f) = some f
    ∧ (payloadBytes f).length =
        match f with
        | .stateRoof _ => 32
        | .stateCab _ => 14
        | .bid _ => 5
        | .cede _ => 1
        | .alert _ => 2
        | .route _ => 14
        | .cancel _ => 1
        | .order _ _ _ => 4

/-- R58, R59, R73: at most 8 entries with nothing behind an absent head, an OPEN gate only with an address, behind a CLOSED gate
only an entry on the wire, and the counters within 16 bits. Every step keeps this. -/
def Obligations.TransmitLaneKept : Prop :=
  ∀ s t : State, s.act.link.Inv → step s = .next t → t.act.link.Inv

/-! ### Peer View -/

/-- R76, R80: a STATE_ROOF or STATE_CAB that is heard is stored in its sender's entry, which is FRESH with its age timer at 150
ms; every other entry stays as it is, and so do classifier, inputs and configuration. PEER_JOINED is written for a new entry,
PEER_MOVED for one whose node kind or whose dA changes; a refreshed roof entry writes nothing. An entry that changes its node
kind, and a new one, has no pending bid and no alert; otherwise both stay, but for a bid that the STATE_ROOF no longer shows in
WINDOW. That a frame for another node is taken too is the model's choice (log 47). -/
def Obligations.StateFramesHeard : Prop :=
  ∀ (s : State) (own : Nat) (dst src : Byte), s.Hears own dst src →
    let old := s.env.pv.entry src.toNat
    let recorded (b : State) (x : StatePayload) : Prop :=
      let record (c : EventCode) (data1 : Nat) : LogEntry :=
        s.act.entry c src.toNat (match x with | .roof _ => 0 | .cab _ => 1) (n32 data1)
      let dAs : Nat := match x with
        | .roof p => p.slots.zero.dA.toNat + 65536 * p.slots.one.dA.toNat
        | .cab _ => 0
      let moved := ∃ p, old = some p ∧ (p.last.isRoof ≠ x.isRoof
        ∨ ∃ o r, p.last = .roof o ∧ x = .roof r
          ∧ (o.slots.zero.dA ≠ r.slots.zero.dA ∨ o.slots.one.dA ≠ r.slots.one.dA))
      let logged (l : List LogEntry) : Prop :=
        ∃ es fs, b.act.logs = s.act.logs ++ es ++ l ++ fs ∧ (s.Unarmed → es = [])
          ∧ (x.isRoof = true → (∀ p, old = some p → p.last.isRoof = true) → fs = [])
      (old = none → logged [record .peerJoined 0])
      ∧ (moved → logged [record .peerMoved dAs])
      ∧ (old ≠ none → ¬ moved → logged [])
    let stored (b t : State) (x : StatePayload) (q : Peer) : Prop :=
      t = b.finish ∧ recorded b x
      ∧ t.env.pv.entry src.toNat = some q
      ∧ q.last = x ∧ q.fresh = true ∧ q.heard = s.env.now ∧ q.ageTimer = some 150 ∧ q.removalTimer = none
      ∧ (∀ a, a ≠ src.toNat → t.env.pv.entry a = s.env.pv.entry a)
      ∧ t.env.now = s.env.now ∧ t.env.pins = s.env.pins ∧ t.env.cls = s.env.cls ∧ t.env.cfg = s.env.cfg
      ∧ t.port = s.port
      ∧ (old = none → q.bid = none ∧ q.bidTimer = none ∧ q.alert = none)
      ∧ (∀ p, old = some p → p.last.isRoof ≠ x.isRoof → q.bid = none ∧ q.bidTimer = none ∧ q.alert = none)
      ∧ (∀ p, old = some p → p.last.isRoof = x.isRoof → q.alert = p.alert)
    (∀ p : RoofPayload, frameValid (.stateRoof p) = true →
      ∃ b t q, exec (.stateRoof dst src p) s = .next t ∧ stored b t (.roof p) q
        ∧ ∀ r x, old = some r → r.last.isRoof = true → r.bid = some x →
          ((∃ o, p.bid = some o ∧ o.committed = false ∧ o.number = x.bid.number) →
            q.bid = some x ∧ q.bidTimer = r.bidTimer)
          ∧ ((∀ o, p.bid = some o → o.committed = true ∨ o.number ≠ x.bid.number) →
            q.bid = none ∧ q.bidTimer = none))
    ∧ ∀ c : CabPayload, ∃ b t q, exec (.stateCab dst src c) s = .next t ∧ stored b t (.cab c) q
        ∧ ∀ r, old = some r → r.last.isRoof = false → q.bid = r.bid ∧ q.bidTimer = r.bidTimer

/-- R85: the controls by the hold and the authority's last STATE_CAB; a STATE_CAB that changes permit or authority is reported
to the sequencer, and the event at which the permit is lost ends in DORMANT. R82, R83, R86 to R88: what a STATE_CAB does to
authority, hold and geometry. The authority is the one FRESH cab that shows OWNING, the hold follows it; AUTHORITY_CHANGE is
written where it changes, AUTHORITY_CONFLICT where the conflict flag is set; from the authority the geometry is taken, speed and
length clamped. R52: at each STATE_CAB of the authority both slots' setpoints are computed anew; without an active profile they
are kept. Where it was UNKNOWN the received odometer is the base. In the held direction the base is the received odometer, or
the extrapolated one where it lies above by less than 100 dm; above by more, the base goes back and ODO_REBASED is written; a
refusal run ends. A change of direction is refused while the train moves, and the geometry stays but for the refusal run; at a
stand it is accepted, the geometry is taken anew and the notices are flushed, with NOTICE_FLUSHED (R120). That a frame for
another node is taken too is the model's choice (log 47). That an accepted change sets base time, ODO_STALE and refusal run as
an ordinary frame does is the model's reading (log 18); past 32 bits the extrapolated odometer is the free value of log 6. -/
def Obligations.CabAuthorityAndGeometry : Prop :=
  (∀ v : PeerView,
    (∀ a, a ∈ v.owners ↔
      ∃ p ∈ v.table, p.address = a ∧ p.fresh = true ∧ ∃ x, p.last = .cab x ∧ x.claim = .owning)
    ∧ (∀ a, authorityOf v.owners = some a ↔ v.owners = [a])
    ∧ (v.hold ≠ .present → v.permit = false ∧ v.iceMode = .auto ∧ v.expected = none)
    ∧ ∀ a p x, v.hold = .present → v.authority = some a → v.entry a = some p → p.last = .cab x →
      v.permit = x.permit ∧ v.iceMode = x.iceMode ∧ v.expected = x.expected)
  ∧ (∀ s : State, s.reauthorize =
      { s with
        env := { s.env with pv := s.env.pv.reauthorize }
        act := { s.act with logs := s.act.logs ++ s.act.authorityRecords s.env.pv s.env.pv.reauthorize } })
  ∧ (∀ (s : State) (own : Nat) (dst src : Byte) (c : CabPayload), s.Hears own dst src →
    ∃ b t : State, exec (.stateCab dst src c) s = .next t
      ∧ t = b.finish
      ∧ (∃ es fs, b.act.logs = s.act.logs ++ es ++ s.act.authorityRecords s.env.pv t.env.pv ++ fs
          ∧ (s.Unarmed → (∃ p, s.env.pv.entry src.toNat = some p ∧ p.last.isRoof = false) → es = []))
      ∧ (t.env.pv.authority = some src.toNat → b.Tells .cabTaken ∧ b.act.SetpointsComputed t.env
          ∧ (b.act.active t.env = none → s.act.SetpointsKept b.act))
      ∧ (t.env.pv.permit ≠ s.env.pv.permit ∨ t.env.pv.authority ≠ s.env.pv.authority → b.Tells .permitChanged)
      ∧ (s.Quiet → s.env.pv.geometry.known = false ∨ c.direction = s.env.pv.geometry.direction ∨ c.speed.toNat ≠ 0 →
        s.env.pv.permit = true → t.env.pv.permit = false → t.act.seq.state = .dormant)
      ∧ t.env.pv.authority = authorityOf t.env.pv.owners
      ∧ t.env.pv.conflict = decide (2 ≤ t.env.pv.owners.length)
      ∧ (∀ a, t.env.pv.authority = some a → t.env.pv.hold = .present
          ∧ (s.env.pv.hold ≠ .present → t.env.pv.holdTimer = none))
      ∧ (t.env.pv.authority = none →
          (s.env.pv.hold = .present → t.env.pv.hold = .holding ∧ t.env.pv.holdTimer = some 2000)
          ∧ (s.env.pv.hold ≠ .present →
              t.env.pv.hold = s.env.pv.hold ∧ t.env.pv.holdTimer = s.env.pv.holdTimer))
      ∧ (t.env.pv.authority ≠ some src.toNat → t.env.pv.geometry = s.env.pv.geometry)
      ∧ (t.env.pv.authority = some src.toNat → s.env.pv.geometry.known = false →
          t.env.pv.geometry =
            { known := true, direction := c.direction, speed := min 4000 c.speed.toNat
              length := min 8000 c.length.toNat, baseOdometer := c.odometer.toNat, baseTime := s.env.now
              odoStale := false, refusalRun := s.env.pv.geometry.refusalRun }))
  ∧ (∀ (s : State) (own : Nat) (dst src : Byte) (c : CabPayload), s.Hears own dst src →
    s.env.pv.geometry.known = true → c.direction = s.env.pv.geometry.direction →
    let ext := s.env.pv.geometry.front s.env.now
    let odo := c.odometer.toNat
    ∃ t, exec (.stateCab dst src c) s = .next t
      ∧ (t.env.pv.authority = some src.toNat →
          t.env.pv.geometry =
            { known := true, direction := c.direction, speed := min 4000 c.speed.toNat
              length := min 8000 c.length.toNat
              baseOdometer := if ext ≤ odo then odo else if ext - odo < 100 then ext else odo
              baseTime := s.env.now, odoStale := false, refusalRun := false }
          ∧ (100 ≤ ext - odo → ∃ es fs, t.ring = s.ring.writeAll s.env.now
              (s.act.logs ++ es ++ s.act.entry .odoRebased 255 0 (n32 (ext - odo)) :: fs))))
  ∧ (∀ (s : State) (own : Nat) (dst src : Byte) (c : CabPayload), s.Hears own dst src →
    s.env.pv.geometry.known = true → c.direction ≠ s.env.pv.geometry.direction →
    ∃ t, exec (.stateCab dst src c) s = .next t
      ∧ (t.env.pv.authority = some src.toNat → c.speed.toNat ≠ 0 →
          t.env.pv.geometry = { s.env.pv.geometry with refusalRun := true }
          ∧ (s.env.pv.geometry.refusalRun = false → ∃ es fs, t.ring = s.ring.writeAll s.env.now
              (s.act.logs ++ es
                ++ s.act.entry .directionRefused 255 (n16 (min 4000 c.speed.toNat))
                  (n32 s.env.pv.geometry.direction.code) :: fs)))
      ∧ (t.env.pv.authority = some src.toNat → c.speed.toNat = 0 →
          t.env.pv.geometry =
            { known := true, direction := c.direction, speed := 0, length := min 8000 c.length.toNat
              baseOdometer := c.odometer.toNat, baseTime := s.env.now, odoStale := false, refusalRun := false }
          ∧ t.act.notices.held = []
          ∧ ∃ es fs, t.ring = s.ring.writeAll s.env.now
              (s.act.logs ++ es ++ s.act.entry .noticeFlushed 0 (n16 s.act.notices.held.length) c.odometer
                :: s.act.entry .directionChange 255 (n16 c.direction.code) c.odometer :: fs)))

/-- R77, R80: the timers of an entry. The age timer's expiry makes it STALE and starts the removal timer; the removal timer's
removes it; the bid timer's clears its pending bid. PEER_STALE and PEER_REMOVED carry the node kind and the time last heard; a
bid timer writes nothing. Of other entries only the timers run on. R82, R83, R85: where a cab's entry ages or goes, the
authority is recomputed, with its records, a hold that loses it is HOLDING for 2,000 ms with the permit NONE, and the sequencer
is told of a change of permit or authority; the event at which the permit is lost ends in DORMANT. R83, R87: the hold timer's
expiry makes the hold LOST, with AUTHORITY_LOST, of which the sequencer is told, and takes both slots down; the extrapolation's
cap sets ODO_STALE at 1,000 ms after the base time, with the record of the held speed and the frozen odometer, and the sequencer
is told. An expiry lets the milliseconds pass that its timer had left (the model's choice, log 2). -/
def Obligations.PeerViewTimers : Prop :=
  (∀ (s : State) (a n : Nat) (p : Peer), s.env.pv.entry a = some p →
    let others (t : State) : Prop :=
      t.env.now = s.env.now + n
      ∧ ∀ b, b ≠ a → t.env.pv.entry b = (s.env.pv.entry b).map (Peer.elapse n)
    let authority (c : EventCode) (b t : State) : Prop :=
      t = b.finish
      ∧ (∃ fs, b.act.logs = s.act.logs ++
            s.act.entry c a (if p.last.isRoof = true then 0 else 1) (n32 p.heard) :: fs
          ∧ (p.last.isRoof = true → fs = [])
          ∧ (p.last.isRoof = false → ∃ gs, fs = s.act.authorityRecords s.env.pv t.env.pv ++ gs))
      ∧ (t.env.pv.permit ≠ s.env.pv.permit ∨ t.env.pv.authority ≠ s.env.pv.authority → b.Tells .permitChanged)
      ∧ (s.Quiet → s.env.pv.permit = true → t.env.pv.permit = false → t.act.seq.state = .dormant)
      ∧ (p.last.isRoof = false →
        t.env.pv.authority = authorityOf t.env.pv.owners
        ∧ (s.env.pv.hold = .present → t.env.pv.authority = none →
          t.env.pv.hold = .holding ∧ t.env.pv.holdTimer = some 2000 ∧ t.env.pv.permit = false))
    (p.ageTimer = some n → ∃ b t : State, exec (.peerAgeExpiry a) s = .next t ∧ authority .peerStale b t
      ∧ others t
      ∧ t.env.pv.entry a =
          some { Peer.elapse n p with fresh := false, ageTimer := none, removalTimer := some 9850 })
    ∧ (p.removalTimer = some n → ∃ b t : State, exec (.peerRemovalExpiry a) s = .next t
      ∧ authority .peerRemoved b t ∧ others t
      ∧ t.env.pv.entry a = none)
    ∧ (p.bidTimer = some n → ∃ b t : State, exec (.peerBidTimerExpiry a) s = .next t ∧ t = b.finish
      ∧ b.act.logs = s.act.logs ∧ others t
      ∧ t.env.pv.entry a = some { Peer.elapse n p with bid := none, bidTimer := none }))
  ∧ (∀ s : State,
    (∀ n, s.env.pv.hold = .holding → s.env.pv.holdTimer = some n →
      ∃ b t : State, exec .authorityHoldExpiry s = .next t
        ∧ t = b.finish ∧ b.Tells .holdLost
        ∧ (∃ l, b.act.logs = s.act.logs ++ s.act.entry .authorityLost 255 0 0 :: l)
        ∧ t.env.now = s.env.now + n ∧ t.env.pv.hold = .lost ∧ t.env.pv.holdTimer = none
        ∧ t.env.cls.confirmed = s.env.cls.confirmed
        ∧ ∀ i, ¬ (t.act.slots.get i).Raised
          ∧ (t.act.slots.get i).locked = (s.act.slots.get i).locked
          ∧ (t.act.slots.get i).latch = (s.act.slots.get i).latch)
    ∧ (s.env.pv.geometry.odoStale = false → s.env.pv.geometry.baseTime ≤ s.env.now →
      ∃ b t : State, exec .odoStale s = .next t
        ∧ t = b.finish ∧ b.Tells .odoStale
        ∧ b.act.logs = s.act.logs ++ [s.act.entry .odoStale 255 (n16 s.env.pv.geometry.speed) (n32 t.env.front)]
        ∧ t.env.now = max s.env.now (s.env.pv.geometry.baseTime + 1000)
        ∧ t.env.pv.geometry = { s.env.pv.geometry with odoStale := true }))

/-- R79 to R81: a BID is recorded in its sender's entry for 300 ms, a CEDE clears the bid of its number and no other, an ALERT
is kept with its time; the entry's age is not changed by these, and neither is any other entry. That a frame for another node is
taken too is the model's choice (log 47). -/
def Obligations.BidCedeAlertHeard : Prop :=
  ∀ (s : State) (own : Nat) (dst src : Byte), s.Hears own dst src →
    let same (t : State) : Prop :=
      t.env.now = s.env.now ∧ t.env.cls = s.env.cls ∧ t.env.pv.geometry = s.env.pv.geometry
      ∧ t.env.pv.authority = s.env.pv.authority
      ∧ ∀ a, a ≠ src.toNat → t.env.pv.entry a = s.env.pv.entry a
    let old := s.env.pv.entry src.toNat
    (∀ b : BidPayload, b.dfront.toNat ≤ 8000 → ∃ t, exec (.bid dst src b) s = .next t ∧ same t
      ∧ t.env.pv.entry src.toNat =
          old.map fun p => { p with bid := some { bid := b, time := s.env.now }, bidTimer := some 300 })
    ∧ (∀ number : Byte, ∃ t, exec (.cede dst src number) s = .next t ∧ same t
      ∧ (∀ p b, old = some p → p.bid = some b → b.bid.number = number →
          t.env.pv.entry src.toNat = some { p with bid := none, bidTimer := none })
      ∧ (∀ p, old = some p → (∀ b, p.bid = some b → b.bid.number ≠ number) →
          t.env.pv.entry src.toNat = some p)
      ∧ (old = none → t.env.pv.entry src.toNat = none))
    ∧ ∀ x : Alert, x.slotFits = true → ∃ t, exec (.alert dst src x) s = .next t ∧ same t
      ∧ t.env.pv.entry src.toNat = old.map fun p => { p with alert := some (x, s.env.now) }

/-- R90: the lead is the larger of 500 dm and speed × 3,000 / 3,600, floored, with the rule's own table of speeds. R87, R89: the
Dfront of a slot by the direction, within 0 to L; the track position, 0 where the Dfront exceeds the front odometer; and the
extrapolated front odometer, frozen from 1,000 ms on, while it keeps to 32 bits (beyond them it is the free value of log 6). -/
def Obligations.LeadAndPositions : Prop :=
  (∀ g : Geometry,
    g.lead = (if 500 ≤ g.speed * 3000 / 3600 then g.speed * 3000 / 3600 else 500)
    ∧ (g.speed = 0 → g.lead = 500) ∧ (g.speed = 500 → g.lead = 500) ∧ (g.speed = 600 → g.lead = 500)
    ∧ (g.speed = 720 → g.lead = 600) ∧ (g.speed = 3000 → g.lead = 2500) ∧ (g.speed = 4000 → g.lead = 3333))
  ∧ ((∀ (g : Geometry) (dA : Nat),
    (g.direction = .aLeads → g.dfront dA = if g.length < dA then g.length else dA)
    ∧ (g.direction = .bLeads → g.dfront dA = if g.length < dA then 0 else g.length - dA)
    ∧ g.dfront dA ≤ g.length)
  ∧ (∀ (e : Env) (dA : Nat),
    (e.front < e.dfront dA → e.track dA = 0) ∧ (e.dfront dA ≤ e.front → e.track dA + e.dfront dA = e.front))
  ∧ ∀ (g : Geometry) (now : Nat),
    let x := if now - g.baseTime < 1000 then now - g.baseTime else 1000
    g.baseOdometer + g.speed * x / 3600 < 4294967296 → g.front now = g.baseOdometer + g.speed * x / 3600)

/-- R75, R77, R79, R82, R83, R86: the peer table in increasing order of distinct addresses 1 to 15 without the own one, each
entry's timers as its freshness and its bid say; authority, conflict flag and hold as the owning cabs give them; speed and
length within their ranges. Every step keeps this. -/
def Obligations.PeerViewKept : Prop :=
  ∀ s t : State, s.PeersInv → step s = .next t → t.PeersInv

/-! ### Bid Unit -/

/-- R97: precedence is a strict order of all bids. R100, R101: what an admissible bid has been tested for. R98: a request opens
a bid exactly when its conditions hold; the queue takes the BID, the bid is OFFERED with the next number and OPENED is told, or
NOT_OPENED. R99: the answers for a BID, and for one whose CEDE is owed. R102: ceding ends the bid, starts the spacing timer,
withdraws the BID or offers or owes a CEDE, writes BID_CEDED and tells CEDED; its causes are a BID that outranks it and makes it
fail, an evaluation that finds it fail, its withdrawn request, the end of READY or of the hold (R108). R104: the raise's answer
ends a COMMITTED bid. R105: an evaluation, made when no report is under way: profile, held bid, settle-down, COLLECT before
SCRAPE. R106, R107: settle-down retracts a collector of too high a rank or too near a higher one, a scraper below a higher one
or too near a collector, and no other slot. Which of several reasons at one event is given, and that collectors settle before
scrapers, are the model's (log 21; log 42), and so is that a BID of any address counts (log 39). -/
def Obligations.BidPrecedenceAndAdmission : Prop :=
  ((∀ x, bidOutranks x x = false)
  ∧ (∀ x y z, bidOutranks x y = true → bidOutranks y z = true → bidOutranks x z = true)
  ∧ (∀ x y, x ≠ y → bidOutranks x y = true ∨ bidOutranks y x = true)
  ∧ (∀ x y : BidKind × Placed, x.1 = .collect → y.1 = .scrape → bidOutranks x y = true)
  ∧ (∀ x y : BidKind × Placed, x.1 = .collect → y.1 = .collect → y.2.dfront < x.2.dfront → bidOutranks x y = true)
  ∧ (∀ x y : BidKind × Placed, x.1 = .scrape → y.1 = .scrape → x.2.dfront < y.2.dfront → bidOutranks x y = true)
  ∧ ∀ x y : BidKind × Placed, x.1 = y.1 → x.2.dfront = y.2.dfront → x.2.address < y.2.address →
      bidOutranks x y = true)
  ∧ (∀ (e : Env) (a : Act) (i : Slot) (pending : List (BidKind × Placed)),
    let own := a.bidPlace e i
    let r := a.slots.get i
    let above := (pending.filter fun b => decide (b.1 = .collect) && b.2.outranks .collect own).map Prod.snd
    (a.admissible e .collect i pending = true ↔
      ∃ p, a.active e = some p ∧ r.locked = false ∧ r.latch = false ∧ r.lift = .down
        ∧ p.heads.permits r.head = true
        ∧ (∀ j, (a.slots.get j).duty ≠ .collect)
        ∧ (a.inView e .collect).length + above.length < p.maxCollect
        ∧ (∀ x ∈ a.inView e .collect ++ above,
            p.minSpacing ≤ (x.dfront - own.dfront) + (own.dfront - x.dfront))
        ∧ ∀ x ∈ a.inView e .scrape, x.dfront + p.scrapeSpacing ≤ own.dfront)
    ∧ (a.admissible e .scrape i pending = true ↔
      ∃ p, a.active e = some p ∧ r.locked = false ∧ r.latch = false ∧ r.lift = .down
        ∧ p.scrapeAllowed = true ∧ a.ice.level = 3
        ∧ a.link.address.map (fun n => (n, i)) = a.ice.candidate
        ∧ a.inView e .scrape = []
        ∧ (∀ b ∈ pending, b.1 = .scrape → b.2.outranks .scrape own = false)
        ∧ ∀ x, (x ∈ a.inView e .collect ∨ (BidKind.collect, x) ∈ pending) →
            own.dfront + p.scrapeSpacing ≤ x.dfront))
  ∧ (∀ (e : Env) (a : Act) (k : BidKind),
    let b := a.tryRequest e k
    let n := a.bids.nextNumber
    let opens (i : Slot) : Prop :=
      a.bids.bid = none ∧ a.bids.spacingTimer = none ∧ a.bids.request k = some i ∧ a.startup.mode = .ready
      ∧ e.pv.permit = true ∧ a.admissible e k i e.pv.pendings = true
    ((∀ i, ¬ opens i) → b = a)
    ∧ (∀ i, opens i → a.link.gateOpen = true → a.link.length < 8 →
      b =
        { a with
          link :=
            a.link.enqueue
              { frame := .bid { kind := k, slot := i, dfront := n16 (a.dfront e i), number := n8 n }
                requesters := [.bid n] }
          bids :=
            { a.bids with
              bid := some { kind := k, slot := i, dfront := a.dfront e i, number := n, phase := .offered }
              nextNumber := (n + 1) % 256 }
          logs := a.logs ++ [a.entry .bidOpened i.code (n16 (k.code + 256 * n)) (n32 (a.dfront e i))]
          inbox := b.inbox }
      ∧ b.Tells (.outcome k .opened))
    ∧ (∀ i, opens i → (a.link.gateOpen = false ∨ 8 ≤ a.link.length) →
      b =
        { a with
          logs := a.logs ++
            if a.link.gateOpen then [a.entry .txFull 255 (n16 3) (n32 a.link.length)] else []
          inbox := b.inbox }
      ∧ b.Tells (.outcome k .notOpened)))
  ∧ (∀ (a : Act) (n : Nat),
    let ceded : Link := a.link.enqueue { frame := .cede (n8 n), requesters := [.other] }
    (∀ h, a.bids.bid = some h → h.phase = .offered → h.number = n →
      a.bidTxAnswered n .sent =
        { a with bids := { a.bids with bid := some { h with phase := .window }, windowTimer := some 150 } }
      ∧ ∀ ans, ans = .discarded ∨ ans = .closed →
          let b := a.bidTxAnswered n ans
          b = { a with bids := { a.bids with bid := none }, inbox := b.inbox } ∧ b.Tells (.outcome h.kind .dropped))
    ∧ ((∀ h, a.bids.bid = some h → h.phase = .offered → h.number ≠ n) →
      (a.bids.owedCede ≠ some n → ∀ ans, a.bidTxAnswered n ans = a)
      ∧ (a.bids.owedCede = some n →
        (a.link.gateOpen = true → a.link.length < 8 →
          a.bidTxAnswered n .sent = { a with bids := { a.bids with owedCede := none }, link := ceded })
        ∧ (a.bidTxAnswered n .sent).bids = { a.bids with owedCede := none }
        ∧ ∀ ans, ans = .discarded ∨ ans = .closed →
            a.bidTxAnswered n ans = { a with bids := { a.bids with owedCede := none } })))
  ∧ (∀ (e : Env) (a : Act) (h : HeldBid) (reason : Nat), a.bids.bid = some h →
    let b := a.cedeFor h reason
    let record (announced : Nat) :=
      a.entry .bidCeded h.slot.code (n16 (reason + 256 * h.number)) (n32 announced)
    let view : Option Nat :=
      if e.pv.permit = false ∨ a.fits e h.kind h.slot e.pv.pendings = false then some 2
      else if a.slotRaisable h.slot = false then some 3 else none
    let early := h.phase = .offered ∨ h.phase = .window
    (b.bids =
        { a.bids with
          bid := none, windowTimer := none, spacingTimer := some 100, owedCede := b.bids.owedCede }
      ∧ b.Tells (.outcome h.kind .ceded) ∧ b.inbox.evalDue = true ∧ b.slots = a.slots ∧ b.seq = a.seq
      ∧ (h.phase = .offered → ∀ k, a.link.withdrawBid h.number = some k →
          b.link = k ∧ b.bids.owedCede = a.bids.owedCede ∧ b.logs = a.logs ++ [record 0])
      ∧ (h.phase = .offered → a.link.withdrawBid h.number = none →
          b.link = a.link ∧ b.bids.owedCede = some h.number ∧ b.logs = a.logs ++ [record 1])
      ∧ (h.phase = .window → a.link.gateOpen = true → a.link.length < 8 →
          b.link = a.link.enqueue { frame := .cede (n8 h.number), requesters := [.other] }
          ∧ b.bids.owedCede = a.bids.owedCede ∧ b.logs = a.logs ++ [record 1]))
    ∧ a.viewReason e h = view
    ∧ (∀ r, early → a.cede e r = a.cedeFor h (match view with | some v => min v r | none => r))
    ∧ (h.phase = .committed → ∀ r, a.cede e r = a)
    ∧ (∀ (src : Nat) (x : BidPayload),
      let theirs : BidKind × Placed := (x.kind, { dfront := x.dfront.toNat, address := src, slot := x.slot })
      let pending := (e.pv.pendings.filter fun y => decide (y.2.address ≠ src)) ++ [theirs]
      let beaten : Bool :=
        bidOutranks theirs (h.kind, a.bidPlace e h.slot) && !a.admissible e h.kind h.slot pending
      a.bidDelivered e src x = (if early ∧ beaten = true then a.evalDue.cede e 1 else a.evalDue))
    ∧ (let w := ({ a with
          bids :=
            { a.bids with
              collectRequest := if h.kind = .collect then none else a.bids.collectRequest
              scrapeRequest := if h.kind = .scrape then none else a.bids.scrapeRequest } } : Act).evalDue
      a.withdrawRequest e h.kind = w.cede e 4)
    ∧ (early → a.bidsEnd e = a.cede e 5)
    ∧ (h.phase = .committed →
      let b := a.bidsEnd e
      b = { a with bids := { a.bids with bid := none }, inbox := b.inbox } ∧ b.Tells (.outcome h.kind .failed))
    ∧ (∀ ans, (h.phase = .committed →
      let b := a.bidRaiseAnswered h.slot ans
      b = { a with bids := { a.bids with bid := none }, inbox := b.inbox }
      ∧ b.Tells (.outcome h.kind (if ans = .done then .raised else .failed)))
      ∧ (early → ∀ i, a.bidRaiseAnswered i ans = a)))
  ∧ (∀ (e : Env) (a : Act),
    let first : Act := ({ a with inbox := { a.inbox with evalDue := false } } : Act).recomputeProfile e
    let second : Act := match first.bids.bid with
      | some h =>
        if h.phase = .committed then first
        else match first.viewReason e h with
          | some r => first.cedeFor h r
          | none => first
      | none => first
    a.evaluate e = ((second.settleDown e).tryRequest e .collect).tryRequest e .scrape
    ∧ (a.inbox.reports = [] → a.inbox.iceDue = false → a.inbox.evalDue = true → a.settleOnce e = some (a.evaluate e)))
  ∧ (∀ (p : Profile) (view collectors : List Placed) (own : Placed),
    let above := view.filter fun x => x.outranks .collect own
    let far (x y : Placed) : Nat := (x.dfront - y.dfront) + (y.dfront - x.dfront)
    (p.maxCollect < above.length + 1 → collectorReason p view own = some 1)
    ∧ (above.length + 1 ≤ p.maxCollect →
      ((∃ x ∈ above, far x own < p.minSpacing) → collectorReason p view own = some 2)
      ∧ ((∀ x ∈ above, p.minSpacing ≤ far x own) → collectorReason p view own = none))
    ∧ ((∃ x ∈ view, x.outranks .scrape own = true) → scraperReason p view collectors own = some 3)
    ∧ ((∀ x ∈ view, x.outranks .scrape own = false) →
      ((∃ x ∈ collectors, x.dfront < own.dfront + p.scrapeSpacing) → scraperReason p view collectors own = some 4)
      ∧ ((∀ x ∈ collectors, own.dfront + p.scrapeSpacing ≤ x.dfront) →
        scraperReason p view collectors own = none)))
  ∧ (∀ (e : Env) (a : Act),
    let collector (a : Act) (p : Profile) (x : Placed) := collectorReason p (a.inView e .collect) x
    let scraper (a : Act) (p : Profile) (x : Placed) :=
      scraperReason p (a.inView e .scrape) (a.inView e .collect) x
    a.settleDown e = (a.settleDuty e .collect collector).settleDuty e .scrape scraper
    ∧ ∀ (d : Duty) (why : Act → Profile → Placed → Option Nat),
      (a.active e = none → a.settleDuty e d why = a)
      ∧ ((∀ i, (a.slots.get i).duty ≠ d) → a.settleDuty e d why = a)
      ∧ ∀ p i, a.active e = some p → (a.slots.get i).duty = d → (a.slots.get i.other).duty ≠ d →
          (why a p (a.bidPlace e i) = none → a.settleDuty e d why = a)
          ∧ ∀ r, why a p (a.bidPlace e i) = some r → (a.slots.get i).Raised →
            let b := a.settleDuty e d why
            ¬ (b.slots.get i).Raised ∧ (b.slots.get i).duty = .idle
            ∧ (b.slots.get i.other).lift = (a.slots.get i.other).lift
            ∧ (b.slots.get i.other).duty = (a.slots.get i.other).duty
            ∧ ∃ l, b.logs = a.logs ++ l ++ [a.entry .retracted i.code (n16 d.code) (n32 r)])

/-- R103, R105: the window timer's expiry. A bid that fails the check is cleared and its requester told LAPSED; one that passes
is COMMITTED, BID_WON is written with kind, number and Dfront, its requester told WON, and its slot raised with its duty (where
neither the ADD contact nor the up switch ends the rise at once). The spacing timer's expiry makes an evaluation due. An expiry
lets the milliseconds pass that its timer had left (the model's choice, log 2). -/
def Obligations.BidTimers : Prop :=
  ∀ (s : State) (n : Nat),
    let e := s.env.elapse n
    let a := s.act.elapse n
    (∀ b, s.act.bids.windowTimer = some n → s.act.bids.bid = some b → b.phase = .window →
      let passes : Bool := a.mayBid e && a.admissible e b.kind b.slot e.pv.pendings
      let won : LogEntry :=
        s.act.entry .bidWon b.slot.code (n16 (b.kind.code + 256 * b.number)) (n32 b.dfront)
      (passes = false → ∃ t : State, exec .bidWindowExpiry s = .next t.finish
        ∧ t =
          { s.elapse n with
            act := { a with bids := { a.bids with bid := none, windowTimer := none }, inbox := t.act.inbox } }
        ∧ t.Tells (.outcome b.kind .lapsed))
      ∧ (passes = true → ∃ t : State, exec .bidWindowExpiry s = .next t.finish
          ∧ t.env = e ∧ t.act.bids.bid = some { b with phase := .committed } ∧ t.act.bids.windowTimer = none
          ∧ t.Tells (.outcome b.kind .won) ∧ won ∈ t.act.logs)
      ∧ (passes = true → s.env.pins.add.get b.slot = false → s.env.pins.up.get b.slot = false →
        ∃ t : State, exec .bidWindowExpiry s = .next t.finish
          ∧ t.env = e
          ∧ t.act.bids.bid = some { b with phase := .committed } ∧ t.act.bids.windowTimer = none
          ∧ t.Tells (.outcome b.kind .won) ∧ t.act.logs = s.act.logs ++ [won]
          ∧ (t.act.slots.get b.slot).lift = .rising ∧ (t.act.slots.get b.slot).duty = b.kind.duty
          ∧ (t.act.slots.get b.slot).riseTimer = some 10000
          ∧ (t.act.slots.get b.slot).raiseWaiting = true
          ∧ (t.act.slots.get b.slot.other).lift = (s.act.slots.get b.slot.other).lift
          ∧ (t.act.slots.get b.slot.other).duty = (s.act.slots.get b.slot.other).duty))
    ∧ (s.act.bids.spacingTimer = some n →
      exec .bidSpacingExpiry s =
        .next (State.finish
          { s.elapse n with
            act :=
              { a with
                bids := { a.bids with spacingTimer := none }, inbox := { a.inbox with evalDue := true } } }))

/-- R95: the active profile after a recomputation is the first of the rule's four cases that applies; a change is recorded with
the old and the new system and reported, and both slots' setpoints are computed anew where it is to a system, kept where it is
to none (R52), and no change leaves the blocks as they are. -/
def Obligations.ActiveProfile : Prop :=
  ∀ (e : Env) (a : Act),
    let inGap := ∃ g, a.seq.state = .gap g
    let beyond (y : Supply) :=
      (inGap ∨ a.seq.state = .raising ∨ a.seq.state = .connecting)
      ∧ ∃ h, a.seq.notice = some h ∧ h.notice.kind = .systemGap ∧ h.notice.beyond = some y
    let now := (a.recomputeProfile e).bids.profile
    (e.cfg = none → now = none)
    ∧ (∀ c, e.cfg = some c →
      (∀ y, beyond y → now = some y)
      ∧ ((∀ y, ¬ beyond y) →
        (∀ y, e.cls.confirmed = .system y → now = some y)
        ∧ ((∀ y, e.cls.confirmed ≠ .system y) → now = e.pv.expected)))
    ∧ (now = a.bids.profile → a.recomputeProfile e = a)
    ∧ (now ≠ a.bids.profile →
      (a.recomputeProfile e).logs = a.logs ++
        [a.entry .activeProfile 255 (n16 (optSupplyCode now)) (n32 (optSupplyCode a.bids.profile))]
      ∧ Report.profileChanged ∈ (a.recomputeProfile e).inbox.reports
      ∧ (now = none → (a.recomputeProfile e).slots = a.slots)
      ∧ (∀ y c, now = some y → e.cfg = some c → ∀ i,
        (a.recomputeProfile e).slots.get i =
          (a.slots.get i).compute y (c.profile y) (e.pv.geometry.speed / 10) a.ice.level))

/-! ### Notice Queue -/

/-- R112 to R115: an admitted ROUTE. One of a wrong extent, with no head named, or with the current notice's id, is refused with
the reason of the first that holds, and so is one that overlaps another; a stale one is recorded; otherwise, with room, it is
held in the place its start gives it, in place of a held one of its id, late if its start is reached already. On a full queue
the farthest notice is evicted for a nearer one, unless it is current; otherwise the new one is refused with reason 5. The other
notices stay. R116: an admitted CANCEL. A held notice that is not current is removed, with NOTICE_CANCELLED; the current one
stays and the CANCEL is refused with reason 3; an id that is not held is refused with reason 6. -/
def Obligations.RouteAndCancel : Prop :=
  (∀ (s : State) (own : Nat) (dst src : Byte) (n : Notice),
    s.Hears own dst src → s.Unarmed → dst.toNat = 0 ∨ dst.toNat = own → s.env.pv.authority = some src.toNat →
    n.id ≠ 0 →
    let q := s.act.notices
    let extent := n.stop.toNat ≤ n.start.toNat ∨ n.start.toNat + 20000 < n.stop.toNat
    let form := n.heads = some ⟨false, false⟩
    let current := q.current = some n.id
    let taken : Notice := if n.kind = .systemGap then n else { n with beyond := none }
    let others := q.held.filter fun h => h.notice.id != n.id
    let overlap := ∃ h ∈ others, n.start.toNat < h.notice.stop.toNat ∧ h.notice.start.toNat < n.stop.toNat
    let logged (c : EventCode) (d0 : Half) (d1 : Word) : State :=
      { s with act := { s.act with logs := s.act.logs ++ [s.act.entry c n.id.toNat d0 d1] } }
    let answers (t : State) := exec (.route dst src n) s = .next t.finish
    let late := decide (n.start.toNat ≤ s.act.frontPosition s.env)
    let insertedAmong (rest : List HeldNotice) (before : List LogEntry) : Prop :=
      let held := insertByStart { notice := taken, late := late, pointReached := false } rest
      ∃ b : State, answers b
        ∧ b =
          { s with
            act :=
              { s.act with
                notices := { q with held := held }, inbox := b.act.inbox
                logs := s.act.logs ++ before ++
                  [s.act.entry (if late then .noticeLate else .noticeAccepted) n.id.toNat
                    (n16 (if (q.find n.id).isSome then 1 else 0)) n.start] } }
        ∧ b.Tells .noticesChanged
        ∧ b.finish.act.notices.held.map HeldNotice.notice = held.map HeldNotice.notice
    (extent → answers (logged .noticeRefused 1 n.start))
    ∧ (¬ extent → form → answers (logged .noticeRefused 2 n.start))
    ∧ (¬ extent → ¬ form → current → answers (logged .noticeRefused 3 n.start))
    ∧ (¬ extent → ¬ form → ¬ current → n.stop.toNat < s.act.rearPosition s.env →
        answers (logged .noticeStale (n16 n.kind.code) n.stop))
    ∧ (¬ extent → ¬ form → ¬ current → s.act.rearPosition s.env ≤ n.stop.toNat → overlap →
        answers (logged .noticeRefused 4 n.start))
    ∧ (¬ extent → ¬ form → ¬ current → s.act.rearPosition s.env ≤ n.stop.toNat → ¬ overlap → others.length < 6 →
        insertedAmong others [])
    ∧ (¬ extent → ¬ form → ¬ current → s.act.rearPosition s.env ≤ n.stop.toNat → ¬ overlap → 6 ≤ others.length →
        ∀ rest far, others = rest ++ [far] →
          (n.start.toNat < far.notice.start.toNat → q.current ≠ some far.notice.id →
            insertedAmong rest
              [s.act.entry .noticeEvicted far.notice.id.toNat (n16 far.notice.kind.code) far.notice.start])
          ∧ (far.notice.start.toNat ≤ n.start.toNat ∨ q.current = some far.notice.id →
            answers (logged .noticeRefused 5 n.start))))
  ∧ (∀ (s : State) (own : Nat) (dst src id : Byte),
    s.Hears own dst src → s.Unarmed → dst.toNat = 0 ∨ dst.toNat = own → s.env.pv.authority = some src.toNat →
    id ≠ 0 →
    let q := s.act.notices
    let refused (reason : Half) : State :=
      { s with act := { s.act with logs := s.act.logs ++ [s.act.entry .noticeRefused id.toNat reason 0] } }
    (q.find id = none → exec (.cancel dst src id) s = .next (refused 6).finish)
    ∧ (∀ h, q.find id = some h → q.current = some id → exec (.cancel dst src id) s = .next (refused 3).finish)
    ∧ (∀ h, q.find id = some h → q.current ≠ some id →
      ∃ b : State, exec (.cancel dst src id) s = .next b.finish
        ∧ b =
          { s with
            act :=
              { s.act with
                notices := { q with held := q.held.filter fun x => x.notice.id != id }
                inbox := b.act.inbox
                logs := s.act.logs ++
                  [s.act.entry .noticeCancelled id.toNat (n16 h.notice.kind.code) h.notice.start] } }
        ∧ b.Tells .noticesChanged))

/-- R119: a review removes every held notice whose end and 50 dm more lie below both own positions, nearest first, and no other;
the mark goes with its notice; the review timer is started again at 10 ms. R118: the next notice is the first held notice whose
start is at or beyond the end of the current one, or the first held notice where none is current. R117: a mark request moves the
mark to a held notice, with NOTICE_CURRENT, and gives its record; one for a notice that is not held, or that is current already,
changes nothing; a clear request leaves no mark. An expiry lets the milliseconds pass that its timer had left (the model's
choice, log 2). -/
def Obligations.NoticeReview : Prop :=
  (∀ (s : State) (n : Nat), s.act.notices.reviewTimer = some n →
    let e := s.env.elapse n
    let passed (h : HeldNotice) : Bool :=
      decide (h.notice.stop.toNat + 50 < (s.act.elapse n).track e .zero)
        && decide (h.notice.stop.toNat + 50 < (s.act.elapse n).track e .one)
    ∃ b : State, exec .noticeReviewTimerExpiry s = .next b.finish
      ∧ b.env = e ∧ b.act.notices.reviewTimer = some 10
      ∧ b.act.notices.held = s.act.notices.held.filter (fun h => !passed h)
      ∧ ((∃ h ∈ s.act.notices.held, passed h = true ∧ s.act.notices.current = some h.notice.id) →
          b.act.notices.current = none ∧ b.Tells .currentRetired)
      ∧ ((∀ h ∈ s.act.notices.held, passed h = true → s.act.notices.current ≠ some h.notice.id) →
          b.act.notices.current = s.act.notices.current)
      ∧ b.act.logs = s.act.logs ++
          (s.act.notices.held.filter passed).map (fun h =>
            s.act.entry .noticeRetired h.notice.id.toNat
              (if s.act.notices.current = some h.notice.id then 1 else 0) h.notice.stop)
      ∧ b.finish.act.notices.held.map HeldNotice.notice =
          (s.act.notices.held.filter fun h => !passed h).map HeldNotice.notice)
  ∧ (∀ q : NoticeQueue,
    (q.currentNotice = none → q.next = q.held.head?)
    ∧ (∀ c h, q.currentNotice = some c →
        (q.next = some h ↔ ∃ before after, q.held = before ++ h :: after
          ∧ c.notice.stop.toNat ≤ h.notice.start.toNat
          ∧ ∀ x ∈ before, x.notice.start.toNat < c.notice.stop.toNat))
    ∧ (∀ c, q.currentNotice = some c →
        (q.next = none ↔ ∀ h ∈ q.held, h.notice.start.toNat < c.notice.stop.toNat))
    ∧ (∀ c, q.currentNotice = some c → q.current = some c.notice.id ∧ c ∈ q.held)
    ∧ (q.current = none → q.currentNotice = none))
  ∧ (∀ (a : Act) (id : Byte),
    let b := (a.markNotice id).2
    (a.markNotice id).1 = a.notices.find id
    ∧ (a.notices.find id = none ∨ a.notices.current = some id → b = a)
    ∧ (∀ h, a.notices.find id = some h → a.notices.current ≠ some id →
      b =
        { a with
          notices := { a.notices with current := some id }
          logs := a.logs ++ [a.entry .noticeCurrent id.toNat (n16 id.toNat) h.notice.start], inbox := b.inbox }
      ∧ b.Tells .noticesChanged)
    ∧ a.clearMark = { a with notices := { a.notices with current := none }, inbox := a.clearMark.inbox }
    ∧ (a.notices.current ≠ none → a.clearMark.Tells .noticesChanged))

/-- R111, R117: at most 6 notices with distinct ids other than 0, each with its end above its start, each beginning at or beyond
the end of the one before it, and the mark on a held one. Every step keeps this. -/
def Obligations.NoticeQueueKept : Prop :=
  ∀ s t : State, s.act.notices.Inv → step s = .next t → t.act.notices.Inv

/-! ### Roof Sequencer -/

/-- R124, R128, R129, R131, R134, R136: the sequencer's timers run out. The retry timer makes the refused request of the present
stay again and forgets one of an earlier stay; the test retry asks for another roof test in TESTING; the powerless timer sets
POWERLESS in RAISING; the no-supply timer reports in SENSING; the reclose hold ends; each does no more in another state. A
request goes to its block for the present stay, and its answer is awaited. The review timer starts again at 10 ms. That the
no-supply timer does nothing outside SENSING is the model's reading (log 19), that an expiry lets the milliseconds pass that its
timer had left its choice (log 2). -/
def Obligations.SequencerTimers : Prop :=
  (∀ (s : State) (n : Nat),
    let a := s.act.elapse n
    let e := s.env.elapse n
    let q := a.seq
    let only (x : Sequencer) : State := { s.elapse n with act := { a with seq := x } }
    let asks (r : Request) (x : Sequencer) : State := { s.elapse n with act := ({ a with seq := x } : Act).ask e r }
    (s.act.seq.retryTimer = some n →
      (∀ r v, s.act.seq.retry = some (r, v) → v = q.visit → a.stillNamed r = true →
        exec .seqRetryExpiry s = .next (asks r { q with retryTimer := none, retry := none }).finish
        ∧ (asks r { q with retryTimer := none, retry := none }).act.seq =
            { q with retryTimer := none, retry := none, awaiting := q.awaiting ++ [r] })
      ∧ ((s.act.seq.retry = none ∨ ∃ r v, s.act.seq.retry = some (r, v)
            ∧ (v ≠ q.visit ∨ a.stillNamed r = false)) →
        exec .seqRetryExpiry s = .next (only { q with retryTimer := none, retry := none }).finish))
    ∧ (s.act.seq.testRetryTimer = some n →
      ((s.act.seq.state = .prepare .testing ∨ s.act.seq.state = .gap .testing) →
        exec .testRetryExpiry s =
          .next (asks .roofTest { q with testRetryTimer := none, testCount := q.testCount + 1 }).finish
        ∧ (asks .roofTest { q with testRetryTimer := none, testCount := q.testCount + 1 }).act.seq =
            { q with
              testRetryTimer := none, testCount := q.testCount + 1, awaiting := q.awaiting ++ [.roofTest] })
      ∧ (s.act.seq.state ≠ .prepare .testing → s.act.seq.state ≠ .gap .testing →
        exec .testRetryExpiry s = .next (only { q with testRetryTimer := none }).finish))
    ∧ (s.act.seq.powerlessTimer = some n →
      (s.act.seq.state = .raising →
        exec .powerlessTimerExpiry s =
          .next (State.finish
            { s.elapse n with
              act :=
                { a with
                  seq := { q with powerlessTimer := none, powerless := true }
                  logs := a.logs ++ [a.entry .powerless 255 (n16 (optSlotCode q.collector)) 0] } }))
      ∧ (s.act.seq.state ≠ .raising →
        exec .powerlessTimerExpiry s = .next (only { q with powerlessTimer := none }).finish))
    ∧ (s.act.seq.noSupplyTimer = some n →
      (s.act.seq.state = .sensing → ∃ b : State, exec .noSupplyTimerExpiry s = .next b.finish
        ∧ b =
          { s.elapse n with
            act := { a with seq := { q with noSupplyTimer := none }, link := b.act.link, logs := b.act.logs } }
        ∧ ∃ l, b.act.logs = a.logs ++
            a.entry .noSupply 255 (n16 a.selector.state.toCode.code) (n32 10000) :: l)
      ∧ (s.act.seq.state ≠ .sensing →
        exec .noSupplyTimerExpiry s = .next (only { q with noSupplyTimer := none }).finish))
    ∧ (s.act.seq.recloseHold = some n →
      (s.act.seq.state ≠ .sensing ∨ s.env.cls.confirmed = .noSystem →
        exec .recloseHoldExpiry s = .next (only { q with recloseHold := none }).finish)
      ∧ (∀ y, s.act.seq.state = .sensing → s.env.cls.confirmed = .system y →
        s.act.selector.state = .rest (.system y) →
        ∃ b : State, exec .recloseHoldExpiry s = .next b.finish
          ∧ b.env = s.env.elapse n ∧ b.act.seq.state = .closing ∧ b.act.seq.recloseHold = none
          ∧ b.act.seq.awaiting = [.closeBreaker]))
    ∧ (s.act.seq.reviewTimer = some n →
      (∃ t, exec .seqReviewTimerExpiry s = .next t
        ∧ t.env = s.env.elapse n ∧ t.act.seq.reviewTimer = some 10)
      ∧ (s.act.seq.state = .dormant →
        exec .seqReviewTimerExpiry s = .next (only { q with reviewTimer := some 10 }).finish)))
  ∧ (∀ (e : Env) (a : Act),
    let awaits (r : Request) : Act := { a with seq := { a.seq with awaiting := a.seq.awaiting ++ [r] } }
    let by_ := [Requester.sequencer a.seq.visit]
    (∀ y, a.ask e (.moveSelector y) = (awaits (.moveSelector y)).moveSelector e y by_
      ∧ (a.stillNamed (.moveSelector y) = true ↔ a.seq.target = some y))
    ∧ (∀ i, a.ask e (.closeIsolator i) = (awaits (.closeIsolator i)).closeIsolator i by_
      ∧ (a.stillNamed (.closeIsolator i) = true ↔ a.seq.collector = some i)
      ∧ a.ask e (.openIsolator i) = (awaits (.openIsolator i)).openIsolator e i by_
      ∧ a.ask e (.lower i) = (awaits (.lower i)).lower e i by_)
    ∧ a.ask e .closeBreaker = (awaits .closeBreaker).closeBreaker e by_
    ∧ a.stillNamed .closeBreaker = true
    ∧ a.ask e .openBreaker = (awaits .openBreaker).openBreaker e by_
    ∧ a.ask e .roofTest = (awaits .roofTest).requestTest by_)

/-- R123 to R145, the passage. R125, R143, R126: entering DORMANT and HELD, leaving DORMANT. R125: the reports that bring
DORMANT, each with its cause (permit NONE 1, hold LOST 2, a mode other than READY 3, MUTE 4, lock-all 5), the highest of those
on their way at one event, in DORMANT none. R126: the reports at which leaving DORMANT is tested, and that each report of an
event is handed on, the oldest first (the order is the model's choice, log 1). A change of mode writes MODE (R165). R124: late
answers are ignored; a refusal holds where a device cannot act, be it the one asked for or another that the interlock reads, and
is retried otherwise; fault reports hold. R127: who is eligible, and the choice. R128 to R133: PREPARE with its phases, RAISING
with its outcomes, CONNECTING, SENSING with its table, RESELECT, CLOSING, RUNNING. R134, R135, R141: the open point and what it
brings. R137 to R140: OPENING, COASTING, ISOLATING, LOWERING, GAP and their waits. R136, R142, R145: a trip, the collector's
loss, retirement and flush; after a loss the open point is tested in the state entered (the model's choice, log 48).
`Act.handle` hands the sequencer a report. SEQ_STATE is written after the entry actions (the model's reading, log 12), a choice
in RAISING that collects already connects at once (log 14), the waits of COASTING and GAP are tested with the open point's
events (log 13), and the open point itself is not tested at the event that ends such a wait (the model's choice, log 33). Also
the model's reading: a retirement taken after a wait's end drops the copy (log 45), the HELD reasons after a refusal (log 15),
R111's heads for "permitted beyond" in R139 and R140 (log 22), which LOWERING slots LOWERING's requests join (log 36). Its
choice: which of several devices that cannot act gives the reason (log 51); SYSTEM_MISMATCH stands before SEQ_STATE (log 44); at
a change of the notices the Ice Unit goes before the sequencer, where R160 lets either go first (log 1). Where a profile is
asked for heads it is one that is held; without one the head's permission is the free value of log 7. -/
def Obligations.DormantAndHeld : Prop :=
  (∀ (e : Env) (a : Act),
    (∀ cause,
      let b := a.enterDormant e cause
      b.seq.state = .dormant ∧ b.seq.notice = none ∧ b.seq.target = none ∧ b.seq.collector = none
      ∧ b.seq.committed = false ∧ b.seq.powerless = false ∧ b.seq.reselectUsed = false ∧ b.seq.tripMarker = false
      ∧ b.seq.retryTimer = none ∧ b.seq.testRetryTimer = none ∧ b.seq.powerlessTimer = none
      ∧ b.seq.noSupplyTimer = none ∧ b.seq.recloseHold = none ∧ b.seq.reviewTimer = a.seq.reviewTimer
      ∧ b.notices.current = none ∧ b.bids.collectRequest = none
      ∧ b.entry .seqState 0 (n16 (256 * a.seq.state.toCode.code)) (n32 (256 * cause)) ∈ b.logs
      ∧ BreakerState.isLive b.breaker.state = false ∧ ∀ i, ¬ (b.slots.get i).Raised)
    ∧ (∀ r,
      let b := a.enterHeld e r
      b.seq.state = .held r ∧ b.seq.notice = none ∧ b.seq.powerless = false ∧ b.seq.tripMarker = false
      ∧ b.seq.retryTimer = none ∧ b.seq.powerlessTimer = none ∧ b.seq.noSupplyTimer = none
      ∧ b.seq.reviewTimer = a.seq.reviewTimer ∧ b.notices.current = none ∧ b.bids.collectRequest = none
      ∧ BreakerState.isLive b.breaker.state = false))
  ∧ (∀ (e : Env) (a : Act), a.seq.state = .dormant →
    let ok (y : Supply) := a.bids.profile = some y ∧ a.startup.mode = .ready ∧ e.pv.permit = true
      ∧ a.breaker.state ≠ .lockout ∧ ∃ i, a.eligible e (some y) i = true
    (∀ y, ok y → (a.leaveDormant e).seq.state = .prepare .clearing ∧ (a.leaveDormant e).seq.target = some y
      ∧ (a.leaveDormant e).seq.awaiting = [.openBreaker, .openIsolator .zero, .openIsolator .one])
    ∧ ((∀ y, ¬ ok y) → a.leaveDormant e = a))
  ∧ (∀ (e : Env) (a : Act) (r : Report),
    let brings (x : Report) (cause : Nat) : Prop :=
      x = .permitChanged ∧ e.pv.permit = false ∧ cause = 1
      ∨ x = .holdLost ∧ cause = 2
      ∨ x = .modeChanged ∧ a.startup.mode ≠ .ready ∧ cause = 3
      ∨ x = .muteTaken ∧ cause = 4
      ∨ x = .lockAll ∧ cause = 5
    let here := r :: a.inbox.reports
    let b := a.goDormant e r
    (a.seq.state = .dormant → b = a)
    ∧ ((∀ x ∈ here, ∀ n, ¬ brings x n) → b = a)
    ∧ (∀ n, a.seq.state ≠ .dormant → (∃ x ∈ here, brings x n) → (∀ x ∈ here, ∀ m, brings x m → m ≤ n) →
      b = a.enterDormant e n)
    ∧ (∀ n, brings r n → (Act.handle e r a).seq.state = .dormant))
  ∧ (∀ (e : Env) (a : Act),
    Act.handle e .permitChanged a = (a.goDormant e .permitChanged).leaveDormant e
    ∧ Act.handle e .modeChanged a = (a.goDormant e .modeChanged).leaveDormant e
    ∧ Act.handle e .holdLost a = a.goDormant e .holdLost
    ∧ Act.handle e .muteTaken a = (a.goDormant e .muteTaken).muteSlots e
    ∧ Act.handle e .lockAll a = a.goDormant e .lockAll
    ∧ Act.handle e .profileChanged a = (a.leaveDormant e).seqRechoice e
    ∧ Act.handle e .preferredChanged a = (a.leaveDormant e).seqRechoice e
    ∧ Act.handle e .breakerOpened a = a.leaveDormant e
    ∧ (a.seq.state = .dormant → ∀ i,
      Act.handle e (.slotChanged i) a = (((a.leaveDormant e).seqRechoice e).testOpenPoint e).mutedTest e)
    ∧ (∀ m, (a.setMode e m).Tells .modeChanged ∧ (a.setMode e m).startup.mode = m
      ∧ ∃ l, (a.setMode e m).logs = a.logs ++
        { a.entry .mode 255 (n16 (m.code + 256 * a.startup.mode.code)) 0 with mode := n8 m.code } :: l)
    ∧ (∀ r rest n, a.inbox.reports = r :: rest →
      a.settle e (n + 1) = (Act.handle e r { a with inbox := { a.inbox with reports := rest } }).settle e n))
  ∧ (∀ s : State, s.finish.act = { s.act.settle s.env 256 with logs := [] })
  ∧ (∀ (e : Env) (a : Act) (st : SeqState) (why : Nat) (f : Act → Act),
    let left := a.leaveState e
    let x := f { left with seq := { left.seq with state := st, visit := a.seq.visit + 1, awaiting := [] } }
    let y :=
      x.log .seqState x.seq.copyId (n16 (st.toCode.code + 256 * a.seq.state.toCode.code))
        (n32 (optSupplyCode x.seq.target + 256 * why))
    a.enter e st why f = ((y.recomputeProfile e).iceDue).evalDue)
  ∧ (∀ (e : Env) (a : Act) (i : Slot),
    let r := a.slots.get i
    let ok (i : Slot) : Prop := a.eligible e a.seq.target i = true
    let rearmost := ok i.other →
      a.dfront e i.other < a.dfront e i ∨ a.dfront e i.other = a.dfront e i ∧ i = .zero
    (∀ y p, e.profile y = some p →
      (a.eligible e y i = true ↔
        r.locked = false ∧ r.latch = false ∧ (r.lift = .down ∨ a.Collects i)
        ∧ (a.seq.notice = none → p.heads.permits r.head = true)
        ∧ ∀ c, a.seq.notice = some c →
            (c.notice.heads.getD p.heads).permits r.head = true ∧ c.notice.stop.toNat + 50 < a.track e i))
    ∧ (a.Collects i → ok i → (i = .one → ¬ (a.Collects .zero ∧ ok .zero)) → a.chooseCollector e = some i)
    ∧ ((∀ j, ¬ (a.Collects j ∧ ok j)) →
      (a.preferred = some i → ok i → a.chooseCollector e = some i)
      ∧ ((∀ j, a.preferred = some j → ¬ ok j) → ok i → rearmost → a.chooseCollector e = some i))
    ∧ ((∀ j, ¬ ok j) → a.chooseCollector e = none))
  ∧ (∀ (e : Env) (a : Act),
    let q := a.seq
    let hears (r : Request) (ans : Answer) : Act := Act.handle e (.answered (.sequencer q.visit) r ans) a
    let rest (r : Request) : Act := { a with seq := { q with awaiting := q.awaiting.filter fun x => x ≠ r } }
    let retries (r : Request) : Act :=
      { rest r with seq := { (rest r).seq with retryTimer := some 100, retry := some (r, q.visit) } }
    let faults (x : Report) (r : HeldReason) : Prop :=
      ((q.state = .dormant ∨ ∃ r, q.state = .held r) → Act.handle e x a = a)
      ∧ (q.state ≠ .dormant → (∀ r, q.state ≠ .held r) → Act.handle e x a = a.enterHeld e r)
    let holds (x : Request) (r : HeldReason) : Prop := hears x .refused = (rest x).enterHeld e r
    let selector := a.selector.state = .fault
    let isolator := ∃ i, (a.isolators.get i).state = .fault
    (∀ v r ans, v ≠ q.visit → Act.handle e (.answered (.sequencer v) r ans) a = a)
    ∧ (∀ y, let x : Request := .moveSelector y
      (selector → holds x .selectorFault) ∧ (¬ selector → isolator → holds x .isolatorFault)
      ∧ (¬ selector → ¬ isolator → hears x .refused = retries x))
    ∧ (∀ i, let x : Request := .closeIsolator i
      let own := (a.isolators.get i).state = .fault
      (own → holds x .isolatorFault) ∧ (¬ own → selector → holds x .selectorFault)
      ∧ (¬ own → ¬ selector → isolator → holds x .isolatorFault)
      ∧ (¬ selector → ¬ isolator → hears x .refused = retries x))
    ∧ (let x : Request := .closeBreaker
      let own := a.breaker.state = .lockout
      (own → holds x .lockout) ∧ (¬ own → selector → holds x .selectorFault)
      ∧ (¬ own → ¬ selector → isolator → holds x .isolatorFault)
      ∧ (¬ own → ¬ selector → ¬ isolator → hears x .refused = retries x))
    ∧ faults .selectorFault .selectorFault ∧ faults .isolatorFault .isolatorFault
    ∧ faults .breakerFault .breakerFault ∧ faults .lockout .lockout
    ∧ (∀ n, Act.handle e (.breakerForced n) a = a))
  ∧ (∀ (e : Env) (a : Act),
    let q := a.seq
    let hears (r : Request) (ans : Answer) : Act := Act.handle e (.answered (.sequencer q.visit) r ans) a
    let rest (r : Request) : Act := { a with seq := { q with awaiting := q.awaiting.filter fun x => x ≠ r } }
    let c := a.chooseCollector e
    let raises (b : Act) : Prop :=
      (∀ i, c = some i → a.Collects i → b.Stands .connecting c [.closeIsolator i])
      ∧ ((∀ i, c = some i → ¬ a.Collects i) →
        b.Stands .raising c [] ∧ b.bids.collectRequest = c ∧ b.seq.powerlessTimer = some 10000)
    (let b := a.enterPrepare e;
      b.Stands (.prepare .clearing) q.collector [.openBreaker, .openIsolator .zero, .openIsolator .one]
      ∧ b.seq.target = q.target ∧ b.seq.testCount = 0 ∧ BreakerState.isLive b.breaker.state = false
      ∧ ∀ i, IsolatorState.isLive (b.isolators.get i).state = false)
    ∧ (q.state = .prepare .clearing → ∀ r,
      ((rest r).seq.awaiting ≠ [] → hears r .done = rest r)
      ∧ ((rest r).seq.awaiting = [] →
        (hears r .done).Stands (.prepare .testing) q.collector [.roofTest]
        ∧ (hears r .done).seq.testCount = q.testCount + 1))
    ∧ (∀ test select,
      (test = .prepare .testing ∧ select = .prepare .selecting ∨ test = .gap .testing ∧ select = .gap .selecting) →
      q.state = test →
      (∀ y, q.target = some y →
        (hears .roofTest (.tested .normal)).Stands select q.collector [.moveSelector y])
      ∧ (q.testCount < 4 → hears .roofTest (.tested .invalid) =
          { rest .roofTest with seq := { (rest .roofTest).seq with testRetryTimer := some 200 } })
      ∧ (4 ≤ q.testCount →
          hears .roofTest (.tested .invalid) = (rest .roofTest).enterHeld e .roofTestInvalid)
      ∧ ∀ r, r = .broken ∨ r = .earth ∨ r = .noEcho →
          hears .roofTest (.tested r) = ((rest .roofTest).alert .roofFault none).enterHeld e .roofFault)
    ∧ (q.state = .prepare .selecting → ∀ y, raises (hears (.moveSelector y) .done))
    ∧ raises (a.enterRaising e)
    ∧ (∀ i, q.collector = some i → (a.enterConnecting e).Stands .connecting (some i) [.closeIsolator i])
    ∧ (q.state = .connecting → ∀ i,
        hears (.closeIsolator i) .done = (rest (.closeIsolator i)).enterSensing e)
    ∧ (q.state = .reselect → ∀ i,
        hears (.openIsolator i) .done = (rest (.openIsolator i)).enterPrepare e)
    ∧ (a.enterClosing e).Stands .closing q.collector [.closeBreaker]
    ∧ (q.state = .closing →
      let b := hears .closeBreaker .done
      b.Stands .running q.collector [] ∧ b.seq.tripMarker = false ∧ b.seq.reselectUsed = false
      ∧ b.seq.notice = if a.notices.current = none then none else q.notice))
  ∧ (∀ (e : Env) (a : Act), a.seq.state = .raising →
    let q := a.seq
    let c := a.chooseCollector e
    let told (o : Outcome) : Act := Act.handle e (.outcome .collect o) a
    let again (b : Act) : Prop :=
      (∀ i, c = some i → a.Collects i → b.Stands .connecting c [.closeIsolator i])
      ∧ ((∀ i, c = some i → ¬ a.Collects i) →
        b.Stands .raising c q.awaiting ∧ b.bids.collectRequest = c ∧ b.seq.powerlessTimer = q.powerlessTimer)
    told .opened = { a with seq := { q with powerlessTimer := some 10000, powerless := false } }
    ∧ told .won = { a with seq := { q with committed := true } }
    ∧ (∀ o, o = .notOpened ∨ o = .dropped ∨ o = .ceded ∨ o = .lapsed → told o = a)
    ∧ (q.committed = false → told .raised = a ∧ told .failed = a)
    ∧ (q.committed = true →
      (∀ i, q.collector = some i → (told .raised).Stands .connecting (some i) [.closeIsolator i]
        ∧ (told .raised).bids.collectRequest = none ∧ (told .raised).seq.committed = false)
      ∧ again (told .failed) ∧ (told .failed).seq.committed = false)
    ∧ Act.handle e .preferredChanged a = a.seqRechoice e ∧ Act.handle e .profileChanged a = a.seqRechoice e
    ∧ (q.committed = true → a.seqRechoice e = a)
    ∧ (q.committed = false → c = q.collector → (∀ i, c = some i → ¬ a.Collects i) → a.seqRechoice e = a)
    ∧ (q.committed = false → c ≠ q.collector → again (a.seqRechoice e))
    ∧ (a.leaveState e).seq = { q with powerlessTimer := none, powerless := false, committed := false }
    ∧ (a.leaveState e).bids.collectRequest = none)
  ∧ (∀ (e : Env) (a : Act),
    let q := a.seq
    let announced : Option Supply := match q.notice with
      | some c => match c.notice.beyond with
        | some y => some y
        | none => e.pv.expected
      | none => e.pv.expected
    let reads (a b : Act) : Prop :=
      (e.cls.confirmed = .noSystem → b.seq.state = .sensing)
      ∧ (e.cls.confirmed = .indeterminate → b.seq.state = .held .indeterminate)
      ∧ ∀ y, e.cls.confirmed = .system y →
        (a.selector.state = .rest (.system y) → a.seq.recloseHold.isSome = true → b.seq.state = .sensing)
        ∧ (a.selector.state = .rest (.system y) → a.seq.recloseHold = none →
          b.Stands .closing a.seq.collector [.closeBreaker])
        ∧ (a.selector.state ≠ .rest (.system y) → a.seq.reselectUsed = true →
          b.seq.state = .held .secondMismatch)
        ∧ (a.selector.state ≠ .rest (.system y) → a.seq.reselectUsed = false →
          b.seq.reselectUsed = true ∧ b.seq.target = some y
          ∧ (a.seq.collector = none → b.seq.state = .prepare .clearing)
          ∧ ∀ i p, a.seq.collector = some i → e.profile (some y) = some p →
            (p.heads.permits (a.slots.get i).head = true → b.Stands .reselect (some i) [.openIsolator i])
            ∧ (p.heads.permits (a.slots.get i).head = false →
              b.Stands .reselect none [.openIsolator i] ∧ ¬ (b.slots.get i).Raised))
    reads a (a.enterSensing e)
    ∧ (e.cls.confirmed = .noSystem → (a.enterSensing e).seq.noSupplyTimer = some 10000)
    ∧ (∀ y, e.cls.confirmed = .system y → a.selector.state = .rest (.system y) → q.recloseHold = none →
      a.sense e =
        (match announced with
          | some x =>
            if x = y then a
            else a.log .systemMismatch q.copyId (n16 y.code) (n32 x.code)
          | none => a).enterClosing e)
    ∧ (q.state = .sensing →
      reads a (Act.handle e .confirmedChanged a)
      ∧ (e.cls.confirmed = .noSystem →
        Act.handle e .confirmedChanged a = { a with seq := { q with noSupplyTimer := some 10000 } })
      ∧ ((Act.handle e .confirmedChanged a).seq.state = .sensing → e.cls.confirmed ≠ .noSystem →
        (Act.handle e .confirmedChanged a).seq.noSupplyTimer = none))
    ∧ (q.state = .running →
      reads { a with seq := { q with reselectUsed := false } } (Act.handle e .confirmedChanged a)
      ∧ reads { a with seq := { q with reselectUsed := false, recloseHold := some 1000 } } (Act.handle e .trip a)
      ∧ ((Act.handle e .trip a).seq.state = .sensing →
        (Act.handle e .trip a).seq.tripMarker = true ∧ (Act.handle e .trip a).seq.recloseHold = some 1000))
    ∧ (q.state = .closing → reads a (Act.handle e .confirmedChanged a))
    ∧ (q.state ≠ .sensing → q.state ≠ .running → q.state ≠ .closing → Act.handle e .confirmedChanged a = a)
    ∧ (q.state ≠ .running → Act.handle e .trip a = a))
  ∧ (∀ (e : Env) (a : Act) (h : HeldNotice),
    let q := a.seq
    let raised (i : Slot) : Prop := (a.slots.get i).Raised ∨ ∃ p, (a.slots.get i).lift = .lowering p
    let reaches (position : Nat) : Prop :=
      h.late = true ∨ h.notice.start.toNat - e.lead ≤ position
      ∨ e.pv.geometry.odoStale = true ∧ h.notice.start.toNat - 2 * e.lead ≤ position
    (∀ i, raised i → ¬ raised i.other → (a.openPointReached e h = true ↔ reaches (a.track e i)))
    ∧ ((raised .zero ↔ raised .one) →
      (a.openPointReached e h = true ↔ reaches (max (a.track e .zero) (a.track e .one))))
    ∧ (a.notices.next = none → a.testOpenPoint e = a)
    ∧ (a.notices.next = some h → a.openPointReached e h = false → a.testOpenPoint e = a)
    ∧ (a.notices.next = some h → a.openPointReached e h = true →
      let b := a.testOpenPoint e
      let busy := q.state = .running ∨ q.state = .raising ∨ q.state = .connecting ∨ q.state = .sensing
        ∨ q.state = .closing
      (busy → a.notices.find h.notice.id = some h →
        b.Stands .opening q.collector [.openBreaker] ∧ b.seq.notice = some h
        ∧ b.notices.current = some h.notice.id ∧ b.seq.reselectUsed = false
        ∧ BreakerState.isLive b.breaker.state = false)
      ∧ ((∃ r, q.state = .held r) → b.seq = q ∧ ∀ i ∈ a.mustLower e h.notice, ¬ (b.slots.get i).Raised)
      ∧ (¬ busy → (∀ r, q.state ≠ .held r) → b = a))
    ∧ (q.state ≠ .coasting → q.state ≠ .gap .waiting →
      a.positionsMoved e = a.testOpenPoint e ∧ Act.handle e .cabTaken a = a.testOpenPoint e)
    ∧ Act.handle e .odoStale a = a.testOpenPoint e
    ∧ Act.handle e .noticesChanged a = (a.iceNotices e).testOpenPoint e)
  ∧ (∀ (e : Env) (a : Act) (c : HeldNotice), a.seq.notice = some c →
    let q := a.seq
    let n := c.notice
    let hears (r : Request) (ans : Answer) : Act := Act.handle e (.answered (.sequencer q.visit) r ans) a
    let rest (r : Request) : Act := { a with seq := { q with awaiting := q.awaiting.filter fun x => x ≠ r } }
    let passed (i : Slot) : Prop := n.stop.toNat + 50 < a.track e i
    let downs := a.mustLower e n
    let asked := a.lowerRequests e n
    (∀ i p, e.profile q.target = some p → q.state = .opening → q.collector = some i →
      let coasts := n.kind = .phaseGap ∧ a.Collects i ∧ (n.heads.getD p.heads).permits (a.slots.get i).head = true
      let b := hears .openBreaker .done
      (coasts → ¬ passed i → b.Stands .coasting (some i) [])
      ∧ (¬ coasts → b.Stands .isolating (some i) [.openIsolator i]))
    ∧ (∀ i, q.state = .coasting → q.collector = some i →
      let b := a.positionsMoved e
      (¬ passed i → b = a)
      ∧ (passed i → (a.isolators.get i).state = .closed → b = a.enterSensing e)
      ∧ (passed i → (a.isolators.get i).state ≠ .closed → b = a.enterConnecting e))
    ∧ (q.collector = none → a.enterIsolating e = (a.enter e .isolating 0 id).isolated e)
    ∧ (q.state = .isolating → ∀ i, hears (.openIsolator i) .done = (rest (.openIsolator i)).isolated e)
    ∧ (∀ i, i ∈ downs ↔
        (a.slots.get i).Raised ∧ (n.kind = .lowerZone ∨ a.headBeyond e n (a.slots.get i).head = false))
    ∧ (∀ i, i ∈ asked ↔
        i ∈ downs
        ∨ (∃ p, (a.slots.get i).lift = .lowering p) ∧ Requester.iceUnit ∈ (a.slots.get i).lowerWaiters
          ∧ (n.kind = .lowerZone ∨ a.headBeyond e n (a.slots.get i).head = false))
    ∧ (∀ h, (∀ s, n.heads = some s → a.headBeyond e n h = s.permits h)
      ∧ (n.heads = none →
        (∀ y p, n.kind = .systemGap → n.beyond = some y → e.profile (some y) = some p →
          a.headBeyond e n h = p.heads.permits h)
        ∧ (∀ p, (n.kind ≠ .systemGap ∨ n.beyond = none) → a.active e = some p →
          a.headBeyond e n h = p.heads.permits h)))
    ∧ (downs ≠ [] ∨ asked ≠ [] ∧ n.kind = .lowerZone →
      let b := a.isolated e
      b.Stands .lowering q.collector (asked.map Request.lower)
      ∧ (∀ i ∈ downs, ¬ (b.slots.get i).Raised)
      ∧ ∀ i ∈ asked, i ∉ downs →
        (b.slots.get i).lift = (a.slots.get i).lift
        ∧ (b.slots.get i).lowerWaiters = (a.slots.get i).lowerWaiters ++ [.sequencer b.seq.visit])
    ∧ (downs = [] → n.kind ≠ .lowerZone → a.isolated e = a.enterGap e)
    ∧ (asked = [] → n.kind = .lowerZone → a.isolated e = (a.enter e .lowering 0 id).enterGap e)
    ∧ (q.state = .lowering → ∀ i ans, ans = .done ∨ ans = .failed →
      ((rest (.lower i)).seq.awaiting ≠ [] → hears (.lower i) ans = rest (.lower i))
      ∧ ((rest (.lower i)).seq.awaiting = [] → hears (.lower i) ans = (rest (.lower i)).enterGap e))
    ∧ (∀ y, n.kind = .systemGap → n.beyond = some y →
      let b := a.enterGap e
      (a.selector.state ≠ .rest (.system y) →
        b.Stands (.gap .testing) q.collector [.roofTest] ∧ b.seq.target = some y ∧ b.seq.testCount = 1)
      ∧ (a.selector.state = .rest (.system y) → b = (a.enter e (.gap .waiting) 0 id).gapWait e))
    ∧ ((n.kind ≠ .systemGap ∨ n.beyond = none) → a.enterGap e = (a.enter e (.gap .waiting) 0 id).gapWait e)
    ∧ (q.state = .gap .selecting → ∀ y, hears (.moveSelector y) .done =
        Act.gapWait e { a with seq := { q with state := .gap .waiting, visit := q.visit + 1, awaiting := [] } })
    ∧ (q.collector = none → a.gapWait e = a.enterRaising e)
    ∧ (∀ i, q.collector = some i →
      let connects := a.Collects i ∧ a.headBeyond e n (a.slots.get i).head = true
      (¬ passed i → a.gapWait e = a)
      ∧ (passed i → connects → a.gapWait e = a.enterConnecting e)
      ∧ (passed i → ¬ connects → a.gapWait e = a.enterRaising e))
    ∧ (q.state = .gap .waiting →
      a.positionsMoved e = a.gapWait e ∧ Act.handle e .cabTaken a = a.gapWait e))
  ∧ (∀ (e : Env) (a : Act),
    let q := a.seq
    let wire := q.state = .connecting ∨ q.state = .sensing ∨ q.state = .closing ∨ q.state = .running
    let passing := q.state = .opening ∨ q.state = .coasting ∨ q.state = .isolating ∨ q.state = .lowering
      ∨ ∃ g, q.state = .gap g
    let dropped : Act :=
      (((({ a with seq := { q with notice := none } } : Act).recomputeProfile e).iceDue).evalDue).seqRechoice e
    (∀ i,
      let lost := q.collector = some i ∧ ¬ a.Collects i
      (lost → a.seqSlotChanged e i = ((((a.collectorLost e).leaveDormant e).seqRechoice e).testOpenPoint e))
      ∧ (¬ lost → a.seqSlotChanged e i = (((a.leaveDormant e).seqRechoice e).testOpenPoint e)))
    ∧ (wire → a.collectorLost e =
        ({ a with seq := { q with tripMarker := false, recloseHold := none } } : Act).enterRaising e)
    ∧ (q.state = .coasting → a.collectorLost e = (a.enter e (.gap .waiting) 0 id).gapWait e)
    ∧ (¬ wire → q.state ≠ .coasting → a.collectorLost e = a)
    ∧ (passing → Act.handle e .currentRetired a = a ∧ Act.handle e .flushed a = a.enterHeld e .passageBroken)
    ∧ (¬ passing → Act.handle e .currentRetired a = dropped ∧ Act.handle e .flushed a = dropped))

/-! ### Ice Unit -/

/-- R147: an arc pulse of 50 µs or more on a slot UP with duty COLLECT counts once, up to 255; any other is ignored. R148 to
R151: an interval end clears the arc counters and restarts the clock; own rate the larger count, train rate the largest of it
and the FRESH roof entries'; a reading of −50 to 100 °C is taken, the first other one after it writes TEMP_INVALID; forced by
FORCE, OFF or the temperature, the level takes a new forced value; otherwise R152's, but not where it was forced up to then.
R151, R153 outside intervals: the ice mode, an ALERT DROPPED (one for another node too, the model's choice, log 47). R154, R159:
a level's change is recorded, and both slots' setpoints follow it (R52); falling from 3 retracts the scraper. R157: the
candidate is the frontmost slot of the train that may scrape, or none. R158: the SCRAPE request stands for the own candidate
while no own slot has duty SCRAPE, so not from the commit on (the model's reading, log 40). R160: a notice whose scraper point
is reached retracts an own scraper it requires lowered. The review at an event's end follows the reports (the model's choice,
log 1). An expiry lets the milliseconds pass that its timer had left (the model's choice, log 2). -/
def Obligations.ArcsAndIntervals : Prop :=
  (∀ (s : State) (i : Slot) (micros : Nat),
    let ok := 50 ≤ micros ∧ (s.act.slots.get i).lift = .up ∧ (s.act.slots.get i).duty = .collect
    let counted : State :=
      { s with
        act :=
          { s.act with
            ice :=
              { s.act.ice with arcs := s.act.ice.arcs.set i (min 255 (s.act.ice.arcs.get i + 1)) } } }
    (ok → exec (.arcPulse i micros) s = .next counted.finish
      ∧ (s.Quiet → exec (.arcPulse i micros) s = .next counted))
    ∧ (¬ ok → exec (.arcPulse i micros) s = .next s.finish ∧ (s.Quiet → exec (.arcPulse i micros) s = .next s)))
  ∧ (∀ (s : State) (n : Nat),
    (∀ t : Int, s.act.ice.intervalTimer = some n → ∃ u, exec (.iceIntervalEnd t) s = .next u
      ∧ u.env = { s.env.elapse n with pins := { s.env.pins with temperature := t } }
      ∧ u.act.ice.arcs = ⟨0, 0⟩ ∧ u.act.ice.intervalTimer = some 1000
      ∧ u.act.ice.ownRate = max s.act.ice.arcs.zero s.act.ice.arcs.one
      ∧ u.act.ice.ownRate ≤ u.act.ice.trainRate
      ∧ (∀ p q, p ∈ s.env.pv.table → p.last = .roof q → p.fresh = true → q.arcRate.toNat ≤ u.act.ice.trainRate)
      ∧ (u.act.ice.trainRate = u.act.ice.ownRate
          ∨ ∃ p q, p ∈ s.env.pv.table ∧ p.last = .roof q ∧ p.fresh = true ∧ u.act.ice.trainRate = q.arcRate.toNat)
      ∧ u.act.ice.lastTemp = (if -50 ≤ t ∧ t ≤ 100 then some t else s.act.ice.lastTemp)
      ∧ (s.act.ice.level ≤ 3 → u.act.ice.level ≤ 3)
      ∧ (∀ v, u.act.ice.forced = some v → s.act.ice.forced = some v →
          u.act.ice.level = s.act.ice.level ∧ u.act.ice.fallCount = s.act.ice.fallCount)
      ∧ (∀ v, u.act.ice.forced = some v → s.act.ice.forced ≠ some v →
          u.act.ice.level = v ∧ u.act.ice.fallCount = 0)
      ∧ (u.act.ice.forced = none → (s.act.ice.forced ≠ none ∨ s.env.cfg = none) →
          u.act.ice.level = s.act.ice.level ∧ u.act.ice.fallCount = s.act.ice.fallCount)
      ∧ (∀ c, u.act.ice.forced = none → s.act.ice.forced = none → s.env.cfg = some c →
          let r : Act := { s.act with ice := { s.act.ice with trainRate := u.act.ice.trainRate } }
          u.act.ice.level = (r.evaluateLevel s.env c).ice.level
          ∧ u.act.ice.fallCount = (r.evaluateLevel s.env c).ice.fallCount)
      ∧ u.act.ice.forced =
          if s.env.pv.iceMode = .force then some 3
          else match s.env.cfg with
            | none => none
            | some c =>
              if s.env.pv.iceMode = .off then some 0
              else match u.act.ice.lastTemp with
                | some x => if c.iceTemp < x then some 0 else none
                | none => none)
    ∧ (s.act.ice.reviewTimer = some n → ∃ u, exec .iceReviewTimerExpiry s = .next u
      ∧ u.env = s.env.elapse n ∧ u.act.ice.reviewTimer = some 10 ∧ u.act.ice.level = s.act.ice.level
      ∧ u.act.ice.arcs = s.act.ice.arcs ∧ u.act.ice.ownRate = s.act.ice.ownRate))
  ∧ (∀ (a : Act) (t : Int),
    let b := a.takeReading t
    let taken := -50 ≤ t ∧ t ≤ 100
    (taken → b = { a with ice := { a.ice with lastTemp := some t, readingTaken := true } })
    ∧ (¬ taken →
      b =
        { a with
          ice := { a.ice with readingTaken := false }
          logs := a.logs ++ if a.ice.readingTaken = true then [a.entry .tempInvalid 255 (i16 t) 0] else [] }))
  ∧ (∀ (s : State) (own : Nat) (dst src : Byte) (x : Alert), s.Hears own dst src → x.slotFits = true →
    ∃ t, exec (.alert dst src x) s = .next t
      ∧ (x.code = .dropped → 1 ≤ s.act.ice.level → s.act.ice.forced = none →
          t.act.ice.level = 3 ∧ t.act.ice.fallCount = 0)
      ∧ (x.code ≠ .dropped ∨ s.act.ice.level = 0 ∨ s.act.ice.forced ≠ none →
          t.act.ice.level = s.act.ice.level ∧ t.act.ice.fallCount = s.act.ice.fallCount)
      ∧ t.act.ice.forced = s.act.ice.forced)
  ∧ (∀ (e : Env) (a : Act),
    let force : Option Nat :=
      if e.pv.iceMode = .force then some 3
      else match e.cfg with
        | none => none
        | some c =>
          if e.pv.iceMode = .off then some 0
          else match a.ice.lastTemp with
            | some x => if c.iceTemp < x then some 0 else none
            | none => none
    let b := a.iceModeChanged e
    (force = none → b = { a with ice := { a.ice with forced := none } })
    ∧ (∀ v, force = some v → a.ice.forced = some v → b = a)
    ∧ (∀ v, force = some v → a.ice.forced ≠ some v →
        b.ice.forced = some v ∧ b.ice.level = v ∧ b.ice.fallCount = 0))
  ∧ (∀ (e : Env) (a : Act) (new cause : Nat),
    let b := a.setLevel e new cause
    (new = a.ice.level → b = a)
    ∧ (new ≠ a.ice.level →
      b.ice = { a.ice with level := new }
      ∧ (∃ l, b.logs = a.logs ++
          a.entry .iceLevel 255 (n16 (new + 256 * a.ice.level)) (n32 (cause + 65536 * a.ice.trainRate)) :: l)
      ∧ b.inbox.iceDue = true ∧ b.inbox.evalDue = true
      ∧ b.SetpointsComputed e ∧ (a.active e = none → a.SetpointsKept b)
      ∧ (a.ice.level = 3 → ∀ i, (a.slots.get i).duty = .scrape → (a.slots.get i.other).duty ≠ .scrape →
          ¬ (b.slots.get i).Raised ∧ a.entry .retracted i.code (n16 2) (n32 5) ∈ b.logs)
      ∧ ∀ i, a.ice.level ≠ 3 ∨ (a.slots.get i).duty ≠ .scrape → (b.slots.get i).lift = (a.slots.get i).lift))
  ∧ (∀ (e : Env) (a : Act),
    let may (p : Profile) (x : TrainSlot) : Prop :=
      p.heads.permits x.head = true ∧ x.locked = false ∧ x.latch = false ∧ x.duty ≠ .collect
      ∧ (∀ c ∈ a.inView e .collect, x.place.dfront + p.scrapeSpacing ≤ c.dfront)
      ∧ ∀ h ∈ a.notices.held, h.pointReached = true →
          h.notice.kind ≠ .lowerZone ∧ a.headBeyond e h.notice x.head = true
    let sought (p : Profile) : Prop := a.active e = some p ∧ p.scrapeAllowed = true ∧ a.ice.level = 3
      ∧ e.pv.geometry.known = true ∧ a.inView e .collect ≠ []
    (∀ x, a.chosenCandidate e = some x → ∃ p, sought p ∧ x ∈ a.trainSlots e ∧ may p x
        ∧ ∀ y ∈ a.trainSlots e, may p y → y.place.outranks .scrape x.place = false)
    ∧ (a.chosenCandidate e = none → ∀ p, sought p → ∀ x ∈ a.trainSlots e, ¬ may p x)
    ∧ (let new := (a.chosenCandidate e).map fun x => (x.place.address, x.place.slot)
      (new = a.ice.candidate → a.recandidate e = a)
      ∧ (new ≠ a.ice.candidate →
        (a.recandidate e).ice = { a.ice with candidate := new } ∧ (a.recandidate e).inbox.evalDue = true
        ∧ ∃ x, (a.recandidate e).logs = a.logs ++ [x] ∧ x.code = .scraperCandidate))
    ∧ (let wanted : Option Slot := match a.ice.candidate, a.link.address with
        | some (n, i), some own =>
          if n = own ∧ a.slots.zero.duty ≠ .scrape ∧ a.slots.one.duty ≠ .scrape then some i else none
        | _, _ => none
      (a.rerequest e).bids.scrapeRequest = wanted ∧ (a.bids.scrapeRequest = wanted → a.rerequest e = a))
    ∧ (a.inbox.reports = [] → a.inbox.iceDue = true →
      a.settleOnce e =
        some
          (((({ a with inbox := { a.inbox with iceDue := false } } : Act).reheat e).recandidate e).rerequest e))
    ∧ (∀ i, (a.slots.get i).duty = .scrape → (a.slots.get i.other).duty ≠ .scrape →
      let b := a.iceNotices e
      let point (h : HeldNotice) : Prop :=
        (h.notice.kind = .lowerZone ∨ a.headBeyond e h.notice (a.slots.get i).head = false)
        ∧ (h.late = true ∨ h.notice.start.toNat - e.lead ≤ a.track e i
          ∨ e.pv.geometry.odoStale = true ∧ h.notice.start.toNat - 2 * e.lead ≤ a.track e i)
      let met := ∃ h, (a.notices.currentNotice = some h ∨ a.notices.next = some h) ∧ point h
      (met → ¬ (b.slots.get i).Raised ∧ a.entry .retracted i.code (n16 2) (n32 6) ∈ b.logs)
      ∧ (¬ met → b.slots = a.slots ∧ b.logs = a.logs)))

/-- R152: the level at an interval end at which it is not forced: it climbs at once to the highest threshold the rate reaches,
and falls by one at the thirtieth interval in a row below the fall bound of its level. R155: the demand is the head heaters of
the slots with duty COLLECT, of those with duty SCRAPE, and the insulator's, by the level, in the order of keeping. R156: the
share is heatBudget over the own station and the roof entries of the table, floored, 0 without a configuration; the demand's
first heaters up to the share are kept and the others shed, so the insulator is shed first; HEAT_SHED is written where the shed
set changes. The heater outputs are those of the heaters kept: with a share that covers the demand, the head of a slot with a
duty from level 1 on and the insulator from level 2 on; without a configuration none. -/
def Obligations.IceLevelAndHeat : Prop :=
  (∀ (e : Env) (c : Loaded) (a : Act), a.ice.level ≤ 3 → c.t1 < c.t2 → c.t2 < c.t3 →
    let threshold (n : Nat) := if n = 1 then c.t1 else if n = 2 then c.t2 else c.t3
    let rate := a.ice.trainRate
    let l := a.ice.level
    let b := a.evaluateLevel e c
    let bound := if threshold l - c.hysteresis = 0 then 1 else threshold l - c.hysteresis
    (l < 3 → threshold (l + 1) ≤ rate →
      l < b.ice.level ∧ b.ice.level ≤ 3 ∧ threshold b.ice.level ≤ rate
      ∧ (b.ice.level < 3 → rate < threshold (b.ice.level + 1)) ∧ b.ice.fallCount = 0)
    ∧ ((l = 3 ∨ rate < threshold (l + 1)) → 1 ≤ l → rate < bound →
      (a.ice.fallCount + 1 < 30 → b.ice.level = l ∧ b.ice.fallCount = a.ice.fallCount + 1)
      ∧ (30 ≤ a.ice.fallCount + 1 → b.ice.level = l - 1 ∧ b.ice.fallCount = 0))
    ∧ ((l = 3 ∨ rate < threshold (l + 1)) → (l = 0 ∨ bound ≤ rate) → b.ice.level = l ∧ b.ice.fallCount = 0))
  ∧ (∀ (e : Env) (a : Act),
    let b := a.reheat e
    let l := a.ice.level
    let holding (d : Duty) : List Slot := [Slot.zero, Slot.one].filter fun i => (a.slots.get i).duty = d
    let demand : List Heater :=
      (if 1 ≤ l then (holding .collect).map Heater.collectorHead ++ (holding .scrape).map Heater.scraperHead else [])
        ++ if 2 ≤ l then [Heater.insulator] else []
    let roofs := (e.pv.table.filter fun p => p.last.isRoof).length
    let share := match e.cfg with | some c => c.heatBudget / (1 + roofs) | none => 0
    let code (h : Heater) : Nat := match h with | .insulator => 1 | .scraperHead _ => 2 | .collectorHead _ => 4
    b =
      { a with
        ice := { a.ice with heaters := demand.take share, shed := demand.drop share }
        logs := a.logs ++
          if demand.drop share = a.ice.shed then []
          else
            [a.entry .heatShed 255 (n16 ((demand.drop share).map code).sum)
              (n32 (share + 65536 * demand.length))] }
    ∧ (∀ i, b.headHeater i = true ↔
        .collectorHead i ∈ demand.take share ∨ .scraperHead i ∈ demand.take share)
    ∧ (b.insulatorHeater = true ↔ .insulator ∈ demand.take share)
    ∧ (demand.length ≤ share →
      (∀ i, b.headHeater i = true ↔ 1 ≤ l ∧ (a.slots.get i).duty ≠ .idle) ∧ (b.insulatorHeater = true ↔ 2 ≤ l))
    ∧ (e.cfg = none → (∀ i, b.headHeater i = false) ∧ b.insulatorHeater = false))

/-! ### Event Ring and Service Port -/

/-- R175 to R177: a command whose five bytes are right is answered from the state as it stands, with its code, a status, the
payload's length, the payload and a CRC; nothing but the port changes (for ACK see `AckRemovesRecords`). EVENTS gives the oldest
records, as many as asked for, 1 to 16; a wrong CRC gives BAD_FRAME, an unknown code UNKNOWN_COMMAND. While a reply is being
sent every byte that arrives is discarded. R175: a byte is gathered, and the gap timer started at 5 ms, until five are in; a gap
discards the bytes gathered; the fifth byte gives the command that the five spell; a reply's end frees the port. An expiry lets
the milliseconds pass that its timer had left (the model's choice, log 2). Which row a byte belongs to, the payloads' widths and
the order and choice of their items are the model's where a chapter leaves them open (log 10, log 20). -/
def Obligations.ServiceCommands : Prop :=
  (∀ s : State,
    let sent (code status : Nat) (payload : List Byte) : State :=
      let body := [n8 code, n8 status] ++ le16 (n16 payload.length) ++ payload
      { s with port := { gathered := [], gapTimer := none, reply := some (body ++ le16 (crc body)) } }
    let answers (c : Instr) (t : State) : Prop := exec c s = .next t.finish ∧ (s.Quiet → exec c s = .next t)
    (s.port.reply = none →
      answers .status (sent 1 0 s.statusBytes)
      ∧ (∀ n : Half,
          let asked := if n.toNat = 0 then 1 else if 16 < n.toNat then 16 else n.toNat
          answers (.events n) (sent 2 0 ((s.ring.records.take asked).flatMap recordBytes)))
      ∧ answers .peers (sent 4 0 (tableBytes s.env.pv))
      ∧ answers .notices (sent 5 0 s.noticesBytes)
      ∧ (∀ c, s.env.cfg = some c → answers .config (sent 6 0 c.bytes))
      ∧ (∀ r, s.env.cfg = none → s.act.startup.load = .rejected r → answers .config (sent 6 3 [n8 r]))
      ∧ (s.env.cfg = none → (∀ r, s.act.startup.load ≠ .rejected r) → answers .config (sent 6 3 [0]))
      ∧ answers .counters
          (sent 7 0
            (le16 (n16 s.act.link.framesSent) ++ le16 (n16 s.act.link.collisions)
              ++ le16 (n16 s.act.link.lateCollisions) ++ le16 (n16 s.act.link.discards)
              ++ le16 (n16 s.act.link.crcErrors) ++ le16 (n16 s.act.link.unknownKinds)
              ++ le16 (n16 s.env.cls.badSamples)))
      ∧ (∀ c0 c1 c2 d0 d1, le16 (crc [c0, c1, c2]) ≠ [d0, d1] →
          answers (.badFrame c0 c1 c2 d0 d1) (sent c0.toNat 1 []))
      ∧ (∀ code arg, code.toNat = 0 ∨ 7 < code.toNat → answers (.unknownCommand code arg) (sent code.toNat 2 [])))
    ∧ ∀ r, s.port.reply = some r →
      (∀ c, c = .status ∨ c = .peers ∨ c = .notices ∨ c = .config ∨ c = .counters → answers c s)
      ∧ (∀ n, answers (.events n) s ∧ answers (.ack n) s)
      ∧ (∀ c0 c1 c2 d0 d1, answers (.badFrame c0 c1 c2 d0 d1) s)
      ∧ (∀ code arg, answers (.unknownCommand code arg) s) ∧ ∀ b, answers (.serviceByte b) s)
  ∧ (∀ s : State,
    (∀ b, s.port.reply = none → s.port.gathered.length < 4 →
      let t : State := { s with port := { s.port with gathered := s.port.gathered ++ [b], gapTimer := some 5 } }
      exec (.serviceByte b) s = .next t.finish ∧ (s.Quiet → exec (.serviceByte b) s = .next t))
    ∧ (∀ c0 c1 c2 d0 d1, s.port.reply = none → s.port.gathered = [c0, c1, c2, d0] →
      (le16 (crc [c0, c1, c2]) ≠ [d0, d1] →
        exec (.serviceByte d1) s = exec (.badFrame c0 c1 c2 d0 d1) s)
      ∧ (le16 (crc [c0, c1, c2]) = [d0, d1] →
        (c0 = 1 → exec (.serviceByte d1) s = exec .status s)
        ∧ (c0 = 2 → exec (.serviceByte d1) s = exec (.events (c2 ++ c1)) s)
        ∧ (c0 = 3 → exec (.serviceByte d1) s = exec (.ack (c2 ++ c1)) s)
        ∧ (c0 = 4 → exec (.serviceByte d1) s = exec .peers s)
        ∧ (c0 = 5 → exec (.serviceByte d1) s = exec .notices s)
        ∧ (c0 = 6 → exec (.serviceByte d1) s = exec .config s)
        ∧ (c0 = 7 → exec (.serviceByte d1) s = exec .counters s)
        ∧ (c0.toNat = 0 ∨ 7 < c0.toNat →
            exec (.serviceByte d1) s = exec (.unknownCommand c0 (c2 ++ c1)) s)))
    ∧ (∀ n, s.port.gapTimer = some n → exec .serviceByteGapExpiry s =
        .next (State.finish { s.elapse n with port := { s.port with gathered := [], gapTimer := none } }))
    ∧ (let t : State := { s with port := { s.port with reply := none } }
      exec .serviceReplyEnd s = .next t.finish ∧ (s.Quiet → exec .serviceReplyEnd s = .next t)))

/-- R173, R174, R176: ACK k removes the k oldest records, or all; with records dropped before and one removed now the marker
OVERRUN joins behind those left and the dropped count becomes 0; the busy flag is set again only if the moderation interval is 0
and records are held; and the reply tells the number removed, the number held and the oldest record's number. -/
def Obligations.AckRemovesRecords : Prop :=
  ∀ (s : State) (k : Half), s.port.reply = none →
    let r := s.ring
    let removed := min k.toNat r.records.length
    let marks := 0 < removed ∧ 0 < r.dropped
    let interval := match s.env.cfg with | some c => c.moderation | none => 0
    let marker : Record :=
      { seq := r.sequence, time := n32 s.env.now
        entry := s.act.entry .overrun 255 (r.firstDropped.zeroExtend 16) (n32 r.dropped) }
    let left := r.records.drop removed ++ (if marks then [marker] else [])
    r.records.length ≤ 128 →
      ∃ t : State, exec (.ack k) s = .next t.finish ∧ (s.Quiet → exec (.ack k) s = .next t)
        ∧ t = { s with ring := t.ring, port := t.port }
        ∧ t.ring.records = left
        ∧ t.ring.sequence = (if marks then r.sequence + 1 else r.sequence)
        ∧ t.ring.dropped = (if marks then 0 else r.dropped)
        ∧ t.ring.firstDropped = r.firstDropped
        ∧ t.ring.moderation = interval
        ∧ t.ring.busy = decide (left ≠ [] ∧ interval = 0)
        ∧ t.port.reply =
            some
              (replyBytes 3 0
                (le16 (n16 removed) ++ le16 (n16 left.length)
                  ++ le16 (match left with | x :: _ => x.seq | [] => 0)))

/-- R174: the attention line is asserted exactly while the busy flag is set. R172 to R174: a record that is written joins the
ring with the next number and the event's time while fewer than 128 are held; otherwise it is dropped and counted, the first
drop's code being kept. R174: the moderation counter's end. The milliseconds it had left pass; with records held and the line
released the attention line is asserted; a counter that is 0 already stays 0. An expiry lets the milliseconds pass that its
timer had left (the model's choice, log 2). -/
def Obligations.RecordsAndModeration : Prop :=
  (∀ s : State, s.attention = s.ring.busy)
  ∧ (∀ (now : Nat) (r : Ring) (e : LogEntry),
    (r.records.length < 128 →
      r.write now e =
        { r with
          records := r.records ++ [{ seq := r.sequence, time := n32 now, entry := e }]
          sequence := r.sequence + 1 })
    ∧ (128 ≤ r.records.length →
      r.write now e =
        { r with
          dropped := min 4294967295 (r.dropped + 1)
          firstDropped := if r.dropped = 0 then n8 e.code.code else r.firstDropped })
    ∧ ∀ l, r.writeAll now (e :: l) = ((r.write now e).attend).writeAll now l)
  ∧ (∀ s : State, ∃ t, exec .moderationCountEnd s = .next t
    ∧ t.env.now = s.env.now + s.ring.moderation
    ∧ t.ring.moderation = 0
    ∧ (s.act.inbox = Inbox.empty → s.act.logs = [] → t.ring.records = s.ring.records
      ∧ t.ring.sequence = s.ring.sequence ∧ t.ring.dropped = s.ring.dropped
      ∧ t.ring.busy = (s.ring.busy || decide (s.ring.records ≠ []))))

/-- R172 to R174: at most 128 records, numbered without a gap up to the number last given, records dropped only while 128 are
held, and the attention line asserted while records are held and the moderation counter is 0. Every step keeps this. -/
def Obligations.EventRingKept : Prop :=
  ∀ s t : State, s.ring.Inv → step s = .next t → t.ring.Inv

/-- The state after reset meets every invariant. The input levels of `State.reset` are the model's choice (log 3), and so is
that no report is under way between two events (log 25). -/
def Obligations.InvariantsHoldAtReset : Prop :=
  State.reset.env.cls.Inv ∧ State.reset.Interlocked ∧ State.reset.SlotsSafe ∧ State.reset.act.link.Inv
  ∧ State.reset.PeersInv ∧ State.reset.act.notices.Inv ∧ State.reset.ring.Inv ∧ State.reset.Quiet

end
end

