-- ==== Sys2Proof/Laws/State.lean ====
section
/-! SUPPORT. One lemma for each field and each named update of `Act` and `State`, so that no later proof unfolds an update. -/

namespace Sys2Proof.Machine

/-! ### Pairs -/

@[simp] theorem Pair.get_set {α : Type} (p : Pair α) (i j : Slot) (x : α) :
    (p.set i x).get j = if j = i then x else p.get j := by
  cases i <;> cases j <;> rfl

theorem Pair.ext_get {α : Type} {p q : Pair α} (h : ∀ i, p.get i = q.get i) : p = q := by
  cases p; cases q
  have h0 := h .zero
  have h1 := h .one
  simp only [Pair.get] at h0 h1
  simp [h0, h1]

@[simp] theorem Pair.set_get_self {α : Type} (p : Pair α) (i : Slot) : p.set i (p.get i) = p := by
  cases i <;> rfl

/-! ### Updates of the reacting blocks -/

@[simp] theorem Act.log_selector (c : EventCode) (x : Nat) (d : Half) (y : Word) (a : Act) : (a.log c x d y).selector = a.selector := rfl
@[simp] theorem Act.log_isolators (c : EventCode) (x : Nat) (d : Half) (y : Word) (a : Act) : (a.log c x d y).isolators = a.isolators := rfl
@[simp] theorem Act.log_breaker (c : EventCode) (x : Nat) (d : Half) (y : Word) (a : Act) : (a.log c x d y).breaker = a.breaker := rfl
@[simp] theorem Act.log_test (c : EventCode) (x : Nat) (d : Half) (y : Word) (a : Act) : (a.log c x d y).test = a.test := rfl
@[simp] theorem Act.log_slots (c : EventCode) (x : Nat) (d : Half) (y : Word) (a : Act) : (a.log c x d y).slots = a.slots := rfl
@[simp] theorem Act.log_preferred (c : EventCode) (x : Nat) (d : Half) (y : Word) (a : Act) : (a.log c x d y).preferred = a.preferred := rfl
@[simp] theorem Act.log_link (c : EventCode) (x : Nat) (d : Half) (y : Word) (a : Act) : (a.log c x d y).link = a.link := rfl
@[simp] theorem Act.log_bids (c : EventCode) (x : Nat) (d : Half) (y : Word) (a : Act) : (a.log c x d y).bids = a.bids := rfl
@[simp] theorem Act.log_notices (c : EventCode) (x : Nat) (d : Half) (y : Word) (a : Act) : (a.log c x d y).notices = a.notices := rfl
@[simp] theorem Act.log_seq (c : EventCode) (x : Nat) (d : Half) (y : Word) (a : Act) : (a.log c x d y).seq = a.seq := rfl
@[simp] theorem Act.log_ice (c : EventCode) (x : Nat) (d : Half) (y : Word) (a : Act) : (a.log c x d y).ice = a.ice := rfl
@[simp] theorem Act.log_startup (c : EventCode) (x : Nat) (d : Half) (y : Word) (a : Act) : (a.log c x d y).startup = a.startup := rfl
@[simp] theorem Act.log_inbox (c : EventCode) (x : Nat) (d : Half) (y : Word) (a : Act) : (a.log c x d y).inbox = a.inbox := rfl

/-- A report on its way and an isolator's record do not touch each other. -/
theorem Act.push_setIsolator (r : Report) (i : Slot) (x : Isolator) (a : Act) :
    (a.setIsolator i x).push r = (a.push r).setIsolator i x := by unfold Act.push Act.setIsolator; simp only; split <;> rfl

@[simp] theorem Act.push_selector (r : Report) (a : Act) : (a.push r).selector = a.selector := by unfold Act.push; split <;> rfl
@[simp] theorem Act.push_isolators (r : Report) (a : Act) : (a.push r).isolators = a.isolators := by unfold Act.push; split <;> rfl
@[simp] theorem Act.push_breaker (r : Report) (a : Act) : (a.push r).breaker = a.breaker := by unfold Act.push; split <;> rfl
@[simp] theorem Act.push_test (r : Report) (a : Act) : (a.push r).test = a.test := by unfold Act.push; split <;> rfl
@[simp] theorem Act.push_slots (r : Report) (a : Act) : (a.push r).slots = a.slots := by unfold Act.push; split <;> rfl
@[simp] theorem Act.push_preferred (r : Report) (a : Act) : (a.push r).preferred = a.preferred := by unfold Act.push; split <;> rfl
@[simp] theorem Act.push_link (r : Report) (a : Act) : (a.push r).link = a.link := by unfold Act.push; split <;> rfl
@[simp] theorem Act.push_bids (r : Report) (a : Act) : (a.push r).bids = a.bids := by unfold Act.push; split <;> rfl
@[simp] theorem Act.push_notices (r : Report) (a : Act) : (a.push r).notices = a.notices := by unfold Act.push; split <;> rfl
@[simp] theorem Act.push_seq (r : Report) (a : Act) : (a.push r).seq = a.seq := by unfold Act.push; split <;> rfl
@[simp] theorem Act.push_ice (r : Report) (a : Act) : (a.push r).ice = a.ice := by unfold Act.push; split <;> rfl
@[simp] theorem Act.push_startup (r : Report) (a : Act) : (a.push r).startup = a.startup := by unfold Act.push; split <;> rfl
@[simp] theorem Act.push_logs (r : Report) (a : Act) : (a.push r).logs = a.logs := by unfold Act.push; split <;> rfl

@[simp] theorem Act.evalDue_selector (a : Act) : (a.evalDue).selector = a.selector := rfl
@[simp] theorem Act.evalDue_isolators (a : Act) : (a.evalDue).isolators = a.isolators := rfl
@[simp] theorem Act.evalDue_breaker (a : Act) : (a.evalDue).breaker = a.breaker := rfl
@[simp] theorem Act.evalDue_test (a : Act) : (a.evalDue).test = a.test := rfl
@[simp] theorem Act.evalDue_slots (a : Act) : (a.evalDue).slots = a.slots := rfl
@[simp] theorem Act.evalDue_preferred (a : Act) : (a.evalDue).preferred = a.preferred := rfl
@[simp] theorem Act.evalDue_link (a : Act) : (a.evalDue).link = a.link := rfl
@[simp] theorem Act.evalDue_bids (a : Act) : (a.evalDue).bids = a.bids := rfl
@[simp] theorem Act.evalDue_notices (a : Act) : (a.evalDue).notices = a.notices := rfl
@[simp] theorem Act.evalDue_seq (a : Act) : (a.evalDue).seq = a.seq := rfl
@[simp] theorem Act.evalDue_ice (a : Act) : (a.evalDue).ice = a.ice := rfl
@[simp] theorem Act.evalDue_startup (a : Act) : (a.evalDue).startup = a.startup := rfl
@[simp] theorem Act.evalDue_logs (a : Act) : (a.evalDue).logs = a.logs := rfl

@[simp] theorem Act.iceDue_selector (a : Act) : (a.iceDue).selector = a.selector := rfl
@[simp] theorem Act.iceDue_isolators (a : Act) : (a.iceDue).isolators = a.isolators := rfl
@[simp] theorem Act.iceDue_breaker (a : Act) : (a.iceDue).breaker = a.breaker := rfl
@[simp] theorem Act.iceDue_test (a : Act) : (a.iceDue).test = a.test := rfl
@[simp] theorem Act.iceDue_slots (a : Act) : (a.iceDue).slots = a.slots := rfl
@[simp] theorem Act.iceDue_preferred (a : Act) : (a.iceDue).preferred = a.preferred := rfl
@[simp] theorem Act.iceDue_link (a : Act) : (a.iceDue).link = a.link := rfl
@[simp] theorem Act.iceDue_bids (a : Act) : (a.iceDue).bids = a.bids := rfl
@[simp] theorem Act.iceDue_notices (a : Act) : (a.iceDue).notices = a.notices := rfl
@[simp] theorem Act.iceDue_seq (a : Act) : (a.iceDue).seq = a.seq := rfl
@[simp] theorem Act.iceDue_ice (a : Act) : (a.iceDue).ice = a.ice := rfl
@[simp] theorem Act.iceDue_startup (a : Act) : (a.iceDue).startup = a.startup := rfl
@[simp] theorem Act.iceDue_logs (a : Act) : (a.iceDue).logs = a.logs := rfl

@[simp] theorem Act.setSlot_selector (i : Slot) (r : SlotRec) (a : Act) : (a.setSlot i r).selector = a.selector := rfl
@[simp] theorem Act.setSlot_isolators (i : Slot) (r : SlotRec) (a : Act) : (a.setSlot i r).isolators = a.isolators := rfl
@[simp] theorem Act.setSlot_breaker (i : Slot) (r : SlotRec) (a : Act) : (a.setSlot i r).breaker = a.breaker := rfl
@[simp] theorem Act.setSlot_test (i : Slot) (r : SlotRec) (a : Act) : (a.setSlot i r).test = a.test := rfl
@[simp] theorem Act.setSlot_slots (i : Slot) (r : SlotRec) (a : Act) : (a.setSlot i r).slots = a.slots.set i r := rfl
@[simp] theorem Act.setSlot_preferred (i : Slot) (r : SlotRec) (a : Act) : (a.setSlot i r).preferred = a.preferred := rfl
@[simp] theorem Act.setSlot_link (i : Slot) (r : SlotRec) (a : Act) : (a.setSlot i r).link = a.link := rfl
@[simp] theorem Act.setSlot_bids (i : Slot) (r : SlotRec) (a : Act) : (a.setSlot i r).bids = a.bids := rfl
@[simp] theorem Act.setSlot_notices (i : Slot) (r : SlotRec) (a : Act) : (a.setSlot i r).notices = a.notices := rfl
@[simp] theorem Act.setSlot_seq (i : Slot) (r : SlotRec) (a : Act) : (a.setSlot i r).seq = a.seq := rfl
@[simp] theorem Act.setSlot_ice (i : Slot) (r : SlotRec) (a : Act) : (a.setSlot i r).ice = a.ice := rfl
@[simp] theorem Act.setSlot_startup (i : Slot) (r : SlotRec) (a : Act) : (a.setSlot i r).startup = a.startup := rfl
@[simp] theorem Act.setSlot_inbox (i : Slot) (r : SlotRec) (a : Act) : (a.setSlot i r).inbox = a.inbox := rfl
@[simp] theorem Act.setSlot_logs (i : Slot) (r : SlotRec) (a : Act) : (a.setSlot i r).logs = a.logs := rfl

@[simp] theorem Act.setIsolator_selector (i : Slot) (r : Isolator) (a : Act) : (a.setIsolator i r).selector = a.selector := rfl
@[simp] theorem Act.setIsolator_isolators (i : Slot) (r : Isolator) (a : Act) : (a.setIsolator i r).isolators = a.isolators.set i r := rfl
@[simp] theorem Act.setIsolator_breaker (i : Slot) (r : Isolator) (a : Act) : (a.setIsolator i r).breaker = a.breaker := rfl
@[simp] theorem Act.setIsolator_test (i : Slot) (r : Isolator) (a : Act) : (a.setIsolator i r).test = a.test := rfl
@[simp] theorem Act.setIsolator_slots (i : Slot) (r : Isolator) (a : Act) : (a.setIsolator i r).slots = a.slots := rfl
@[simp] theorem Act.setIsolator_preferred (i : Slot) (r : Isolator) (a : Act) : (a.setIsolator i r).preferred = a.preferred := rfl
@[simp] theorem Act.setIsolator_link (i : Slot) (r : Isolator) (a : Act) : (a.setIsolator i r).link = a.link := rfl
@[simp] theorem Act.setIsolator_bids (i : Slot) (r : Isolator) (a : Act) : (a.setIsolator i r).bids = a.bids := rfl
@[simp] theorem Act.setIsolator_notices (i : Slot) (r : Isolator) (a : Act) : (a.setIsolator i r).notices = a.notices := rfl
@[simp] theorem Act.setIsolator_seq (i : Slot) (r : Isolator) (a : Act) : (a.setIsolator i r).seq = a.seq := rfl
@[simp] theorem Act.setIsolator_ice (i : Slot) (r : Isolator) (a : Act) : (a.setIsolator i r).ice = a.ice := rfl
@[simp] theorem Act.setIsolator_startup (i : Slot) (r : Isolator) (a : Act) : (a.setIsolator i r).startup = a.startup := rfl
@[simp] theorem Act.setIsolator_inbox (i : Slot) (r : Isolator) (a : Act) : (a.setIsolator i r).inbox = a.inbox := rfl
@[simp] theorem Act.setIsolator_logs (i : Slot) (r : Isolator) (a : Act) : (a.setIsolator i r).logs = a.logs := rfl

@[simp] theorem Act.setSeq_selector (q : Sequencer) (a : Act) : (a.setSeq q).selector = a.selector := rfl
@[simp] theorem Act.setSeq_isolators (q : Sequencer) (a : Act) : (a.setSeq q).isolators = a.isolators := rfl
@[simp] theorem Act.setSeq_breaker (q : Sequencer) (a : Act) : (a.setSeq q).breaker = a.breaker := rfl
@[simp] theorem Act.setSeq_test (q : Sequencer) (a : Act) : (a.setSeq q).test = a.test := rfl
@[simp] theorem Act.setSeq_slots (q : Sequencer) (a : Act) : (a.setSeq q).slots = a.slots := rfl
@[simp] theorem Act.setSeq_preferred (q : Sequencer) (a : Act) : (a.setSeq q).preferred = a.preferred := rfl
@[simp] theorem Act.setSeq_link (q : Sequencer) (a : Act) : (a.setSeq q).link = a.link := rfl
@[simp] theorem Act.setSeq_bids (q : Sequencer) (a : Act) : (a.setSeq q).bids = a.bids := rfl
@[simp] theorem Act.setSeq_notices (q : Sequencer) (a : Act) : (a.setSeq q).notices = a.notices := rfl
@[simp] theorem Act.setSeq_seq (q : Sequencer) (a : Act) : (a.setSeq q).seq = q := rfl
@[simp] theorem Act.setSeq_ice (q : Sequencer) (a : Act) : (a.setSeq q).ice = a.ice := rfl
@[simp] theorem Act.setSeq_startup (q : Sequencer) (a : Act) : (a.setSeq q).startup = a.startup := rfl
@[simp] theorem Act.setSeq_inbox (q : Sequencer) (a : Act) : (a.setSeq q).inbox = a.inbox := rfl
@[simp] theorem Act.setSeq_logs (q : Sequencer) (a : Act) : (a.setSeq q).logs = a.logs := rfl

@[simp] theorem Act.setIce_selector (x : IceUnit) (a : Act) : (a.setIce x).selector = a.selector := rfl
@[simp] theorem Act.setIce_isolators (x : IceUnit) (a : Act) : (a.setIce x).isolators = a.isolators := rfl
@[simp] theorem Act.setIce_breaker (x : IceUnit) (a : Act) : (a.setIce x).breaker = a.breaker := rfl
@[simp] theorem Act.setIce_test (x : IceUnit) (a : Act) : (a.setIce x).test = a.test := rfl
@[simp] theorem Act.setIce_slots (x : IceUnit) (a : Act) : (a.setIce x).slots = a.slots := rfl
@[simp] theorem Act.setIce_preferred (x : IceUnit) (a : Act) : (a.setIce x).preferred = a.preferred := rfl
@[simp] theorem Act.setIce_link (x : IceUnit) (a : Act) : (a.setIce x).link = a.link := rfl
@[simp] theorem Act.setIce_bids (x : IceUnit) (a : Act) : (a.setIce x).bids = a.bids := rfl
@[simp] theorem Act.setIce_notices (x : IceUnit) (a : Act) : (a.setIce x).notices = a.notices := rfl
@[simp] theorem Act.setIce_seq (x : IceUnit) (a : Act) : (a.setIce x).seq = a.seq := rfl
@[simp] theorem Act.setIce_ice (x : IceUnit) (a : Act) : (a.setIce x).ice = x := rfl
@[simp] theorem Act.setIce_startup (x : IceUnit) (a : Act) : (a.setIce x).startup = a.startup := rfl
@[simp] theorem Act.setIce_inbox (x : IceUnit) (a : Act) : (a.setIce x).inbox = a.inbox := rfl
@[simp] theorem Act.setIce_logs (x : IceUnit) (a : Act) : (a.setIce x).logs = a.logs := rfl

@[simp] theorem Act.setStartup_selector (x : Startup) (a : Act) : (a.setStartup x).selector = a.selector := rfl
@[simp] theorem Act.setStartup_isolators (x : Startup) (a : Act) : (a.setStartup x).isolators = a.isolators := rfl
@[simp] theorem Act.setStartup_breaker (x : Startup) (a : Act) : (a.setStartup x).breaker = a.breaker := rfl
@[simp] theorem Act.setStartup_test (x : Startup) (a : Act) : (a.setStartup x).test = a.test := rfl
@[simp] theorem Act.setStartup_slots (x : Startup) (a : Act) : (a.setStartup x).slots = a.slots := rfl
@[simp] theorem Act.setStartup_preferred (x : Startup) (a : Act) : (a.setStartup x).preferred = a.preferred := rfl
@[simp] theorem Act.setStartup_link (x : Startup) (a : Act) : (a.setStartup x).link = a.link := rfl
@[simp] theorem Act.setStartup_bids (x : Startup) (a : Act) : (a.setStartup x).bids = a.bids := rfl
@[simp] theorem Act.setStartup_notices (x : Startup) (a : Act) : (a.setStartup x).notices = a.notices := rfl
@[simp] theorem Act.setStartup_seq (x : Startup) (a : Act) : (a.setStartup x).seq = a.seq := rfl
@[simp] theorem Act.setStartup_ice (x : Startup) (a : Act) : (a.setStartup x).ice = a.ice := rfl
@[simp] theorem Act.setStartup_startup (x : Startup) (a : Act) : (a.setStartup x).startup = x := rfl
@[simp] theorem Act.setStartup_inbox (x : Startup) (a : Act) : (a.setStartup x).inbox = a.inbox := rfl
@[simp] theorem Act.setStartup_logs (x : Startup) (a : Act) : (a.setStartup x).logs = a.logs := rfl

theorem Act.log_logs (c : EventCode) (x : Nat) (d : Half) (y : Word) (a : Act) :
    (a.log c x d y).logs = a.logs ++
      [{ code := c, subject := n8 x, data0 := d, data1 := y, mode := n8 a.startup.mode.code
         seqState := n8 a.seq.state.toCode.code }] := rfl

/-- A report that goes out leaves the reviews that are due, and joins the reports on their way at most once. -/
theorem Act.push_inbox (r : Report) (a : Act) :
    (a.push r).inbox =
      { a.inbox with reports := if r ∈ a.inbox.reports then a.inbox.reports else a.inbox.reports ++ [r] } := by
  unfold Act.push; split <;> rfl

theorem Act.answerAll_nil (q : Request) (ans : Answer) (a : Act) : a.answerAll [] q ans = a := rfl

/-! ### Updates of the part -/

@[simp] theorem State.onAct_pending (f : Env → Act → Act) (s : State) : (s.onAct f).pending = s.pending := rfl
@[simp] theorem State.onAct_env (f : Env → Act → Act) (s : State) : (s.onAct f).env = s.env := rfl
@[simp] theorem State.onAct_act (f : Env → Act → Act) (s : State) : (s.onAct f).act = f s.env s.act := rfl
@[simp] theorem State.onAct_ring (f : Env → Act → Act) (s : State) : (s.onAct f).ring = s.ring := rfl
@[simp] theorem State.onAct_port (f : Env → Act → Act) (s : State) : (s.onAct f).port = s.port := rfl
@[simp] theorem State.onAct_freeIndex (f : Env → Act → Act) (s : State) : (s.onAct f).freeIndex = s.freeIndex := rfl

@[simp] theorem State.setPv_pending (v : PeerView) (s : State) : (s.setPv v).pending = s.pending := rfl
@[simp] theorem State.setPv_env (v : PeerView) (s : State) : (s.setPv v).env = { s.env with pv := v } := rfl
@[simp] theorem State.setPv_act (v : PeerView) (s : State) : (s.setPv v).act = s.act := rfl
@[simp] theorem State.setPv_ring (v : PeerView) (s : State) : (s.setPv v).ring = s.ring := rfl
@[simp] theorem State.setPv_port (v : PeerView) (s : State) : (s.setPv v).port = s.port := rfl
@[simp] theorem State.setPv_freeIndex (v : PeerView) (s : State) : (s.setPv v).freeIndex = s.freeIndex := rfl

@[simp] theorem State.setPins_pending (p : Pins) (s : State) : (s.setPins p).pending = s.pending := rfl
@[simp] theorem State.setPins_env (p : Pins) (s : State) : (s.setPins p).env = { s.env with pins := p } := rfl
@[simp] theorem State.setPins_act (p : Pins) (s : State) : (s.setPins p).act = s.act := rfl
@[simp] theorem State.setPins_ring (p : Pins) (s : State) : (s.setPins p).ring = s.ring := rfl
@[simp] theorem State.setPins_port (p : Pins) (s : State) : (s.setPins p).port = s.port := rfl
@[simp] theorem State.setPins_freeIndex (p : Pins) (s : State) : (s.setPins p).freeIndex = s.freeIndex := rfl

@[simp] theorem State.setLink_pending (k : Link) (s : State) : (s.setLink k).pending = s.pending := rfl
@[simp] theorem State.setLink_env (k : Link) (s : State) : (s.setLink k).env = s.env := rfl
@[simp] theorem State.setLink_act (k : Link) (s : State) : (s.setLink k).act = { s.act with link := k } := rfl
@[simp] theorem State.setLink_ring (k : Link) (s : State) : (s.setLink k).ring = s.ring := rfl
@[simp] theorem State.setLink_port (k : Link) (s : State) : (s.setLink k).port = s.port := rfl
@[simp] theorem State.setLink_freeIndex (k : Link) (s : State) : (s.setLink k).freeIndex = s.freeIndex := rfl

@[simp] theorem State.elapse_pending (n : Nat) (s : State) : (s.elapse n).pending = s.pending := rfl
@[simp] theorem State.elapse_env (n : Nat) (s : State) : (s.elapse n).env = s.env.elapse n := rfl
@[simp] theorem State.elapse_act (n : Nat) (s : State) : (s.elapse n).act = s.act.elapse n := rfl
@[simp] theorem State.elapse_ring (n : Nat) (s : State) : (s.elapse n).ring = s.ring.elapse n := rfl
@[simp] theorem State.elapse_port (n : Nat) (s : State) : (s.elapse n).port = { s.port with gapTimer := Timer.elapse n s.port.gapTimer } := rfl
@[simp] theorem State.elapse_freeIndex (n : Nat) (s : State) : (s.elapse n).freeIndex = s.freeIndex := rfl

@[simp] theorem State.finish_pending (s : State) : (s.finish).pending = s.pending := rfl
@[simp] theorem State.finish_env (s : State) : (s.finish).env = s.env := rfl
@[simp] theorem State.finish_act (s : State) : (s.finish).act = { s.act.settle s.env settleFuel with logs := [] } := rfl
@[simp] theorem State.finish_ring (s : State) : (s.finish).ring = s.ring.writeAll s.env.now (s.act.settle s.env settleFuel).logs := rfl
@[simp] theorem State.finish_port (s : State) : (s.finish).port = s.port := rfl
@[simp] theorem State.finish_freeIndex (s : State) : (s.finish).freeIndex = s.freeIndex := rfl

@[simp] theorem State.reply_pending (code status : Nat) (b : List Byte) (s : State) : (s.reply code status b).pending = s.pending := rfl
@[simp] theorem State.reply_env (code status : Nat) (b : List Byte) (s : State) : (s.reply code status b).env = s.env := rfl
@[simp] theorem State.reply_act (code status : Nat) (b : List Byte) (s : State) : (s.reply code status b).act = s.act := rfl
@[simp] theorem State.reply_ring (code status : Nat) (b : List Byte) (s : State) : (s.reply code status b).ring = s.ring := rfl
@[simp] theorem State.reply_port (code status : Nat) (b : List Byte) (s : State) : (s.reply code status b).port = { gathered := [], gapTimer := none, reply := some (replyBytes code status b) } := rfl
@[simp] theorem State.reply_freeIndex (code status : Nat) (b : List Byte) (s : State) : (s.reply code status b).freeIndex = s.freeIndex := rfl

theorem State.onExpiry_none (k : State → State) (s : State) : s.onExpiry none k = s := rfl

theorem State.onExpiry_some (n : Nat) (k : State → State) (s : State) : s.onExpiry (some n) k = k (s.elapse n) := rfl

end Sys2Proof.Machine
end

