-- ==== Sys2Proof/Laws/Settle.lean ====
section
/-! SUPPORT. What the end of an event can do (`Act.Settles`): the relation, and one lemma for each operation that the end of an event
may run. A proof about a command's next state cites `State.finish_settles` and never unfolds the settling. -/

namespace Sys2Proof.Machine

/-- A slot record before and after: what settling keeps, and the only ways in which duty and lift state may move. -/
structure SlotRec.Kept (r s : SlotRec) : Prop where
  locked : s.locked = r.locked
  latch : s.latch = r.latch
  head : s.head = r.head
  dA : s.dA = r.dA
  p0 : s.p0 = r.p0
  gain : s.gain = r.gain
  duty : s.duty = r.duty ∨ s.duty = .idle
  lift : s.lift = r.lift ∨ (s.lift ≠ .rising ∧ s.lift ≠ .up ∧ s.lift ≠ .dropped ∧ r.lift ≠ .down ∧ r.lift ≠ .dropped
    ∧ (r.lift = .rising ∨ r.lift = .up → s.duty = .idle))
  pressure : r.pressure ≤ 600 → s.pressure ≤ 600

theorem SlotRec.Kept.refl (r : SlotRec) : SlotRec.Kept r r := ⟨rfl, rfl, rfl, rfl, rfl, rfl, .inl rfl, .inl rfl, id⟩

theorem SlotRec.Kept.trans {r s t : SlotRec} (h : SlotRec.Kept r s) (k : SlotRec.Kept s t) : SlotRec.Kept r t where
  locked := k.locked.trans h.locked
  latch := k.latch.trans h.latch
  head := k.head.trans h.head
  dA := k.dA.trans h.dA
  p0 := k.p0.trans h.p0
  gain := k.gain.trans h.gain
  pressure := fun x => k.pressure (h.pressure x)
  duty := by
    rcases k.duty with d | d
    · rcases h.duty with f | f
      · exact .inl (d.trans f)
      · exact .inr (d.trans f)
    · exact .inr d
  lift := by
    rcases h.lift with f | f
    · rcases k.lift with g | g
      · exact .inl (g.trans f)
      · rw [f] at g
        exact .inr g
    · rcases k.lift with g | g
      · refine .inr ⟨g ▸ f.1, g ▸ f.2.1, g ▸ f.2.2.1, f.2.2.2.1, f.2.2.2.2.1, fun x => ?_⟩
        rcases k.duty with d | d
        · exact d.trans (f.2.2.2.2.2 x)
        · exact d
      · refine .inr ⟨g.1, g.2.1, g.2.2.1, f.2.2.2.1, f.2.2.2.2.1, fun x => ?_⟩
        rcases k.duty with d | d
        · exact d.trans (f.2.2.2.2.2 x)
        · exact d

/-- A slot that is DOWN or DROPPED stays so. -/
theorem SlotRec.Kept.down {r s : SlotRec} (h : SlotRec.Kept r s) (k : r.restsDown = true) : s.restsDown = true := by
  rcases h.lift with f | f
  · simpa [SlotRec.restsDown, f] using k
  · simp [SlotRec.restsDown, f.2.2.2.1, f.2.2.2.2.1] at k

/-- What the end of an event keeps of the transmit lane: address, seed, counters; and it opens no gate. -/
structure Link.Kept (k m : Link) : Prop where
  address : m.address = k.address
  seed : m.seed = k.seed
  framesSent : m.framesSent = k.framesSent
  collisions : m.collisions = k.collisions
  lateCollisions : m.lateCollisions = k.lateCollisions
  discards : m.discards = k.discards
  crcErrors : m.crcErrors = k.crcErrors
  unknownKinds : m.unknownKinds = k.unknownKinds
  gate : m.gateOpen = true → k.gateOpen = true
  inv : k.Inv → m.Inv

theorem Link.Kept.refl (k : Link) : Link.Kept k k := ⟨rfl, rfl, rfl, rfl, rfl, rfl, rfl, rfl, id, id⟩

theorem Link.Kept.trans {k m n : Link} (h : Link.Kept k m) (g : Link.Kept m n) : Link.Kept k n :=
  ⟨g.address.trans h.address, g.seed.trans h.seed, g.framesSent.trans h.framesSent, g.collisions.trans h.collisions,
    g.lateCollisions.trans h.lateCollisions, g.discards.trans h.discards, g.crcErrors.trans h.crcErrors,
    g.unknownKinds.trans h.unknownKinds, fun x => h.gate (g.gate x), fun x => g.inv (h.inv x)⟩

/-- A held notice but for its scraper-point flag. -/
def HeldNotice.core (h : HeldNotice) : Notice × Bool := (h.notice, h.late)

/-- The Ice Unit but for what its review writes. -/
structure IceUnit.Kept (x y : IceUnit) : Prop where
  arcs : y.arcs = x.arcs
  intervalTimer : y.intervalTimer = x.intervalTimer
  ownRate : y.ownRate = x.ownRate
  trainRate : y.trainRate = x.trainRate
  level : y.level = x.level
  fallCount : y.fallCount = x.fallCount
  forced : y.forced = x.forced
  lastTemp : y.lastTemp = x.lastTemp
  readingTaken : y.readingTaken = x.readingTaken
  reviewTimer : y.reviewTimer = x.reviewTimer

theorem IceUnit.Kept.refl (x : IceUnit) : IceUnit.Kept x x := ⟨rfl, rfl, rfl, rfl, rfl, rfl, rfl, rfl, rfl, rfl⟩

theorem IceUnit.Kept.trans {x y z : IceUnit} (h : IceUnit.Kept x y) (k : IceUnit.Kept y z) : IceUnit.Kept x z :=
  ⟨k.arcs.trans h.arcs, k.intervalTimer.trans h.intervalTimer, k.ownRate.trans h.ownRate,
    k.trainRate.trans h.trainRate, k.level.trans h.level, k.fallCount.trans h.fallCount, k.forced.trans h.forced,
    k.lastTemp.trans h.lastTemp, k.readingTaken.trans h.readingTaken, k.reviewTimer.trans h.reviewTimer⟩

/-- What the Start-up Controller keeps while an event ends: all but its mode and the pending close. -/
structure Startup.Kept (x y : Startup) : Prop where
  load : y.load = x.load
  listenTimer : y.listenTimer = x.listenTimer
  joinTimer : y.joinTimer = x.joinTimer
  armedBy : y.armedBy = x.armedBy
  armingTimer : y.armingTimer = x.armingTimer
  mode : y.mode = x.mode ∨ (x.mode = .muting ∧ y.mode = .muted)

theorem Startup.Kept.refl (x : Startup) : Startup.Kept x x := ⟨rfl, rfl, rfl, rfl, rfl, .inl rfl⟩

theorem Startup.Kept.trans {x y z : Startup} (h : Startup.Kept x y) (k : Startup.Kept y z) : Startup.Kept x z :=
  ⟨k.load.trans h.load, k.listenTimer.trans h.listenTimer, k.joinTimer.trans h.joinTimer, k.armedBy.trans h.armedBy,
    k.armingTimer.trans h.armingTimer, by
      rcases h.mode with f | f <;> rcases k.mode with g | g
      · exact .inl (g.trans f)
      · exact .inr ⟨f ▸ g.1, g.2⟩
      · exact .inr ⟨f.1, g.trans f.2⟩
      · exact .inr ⟨f.1, g.2⟩⟩

/-- Everything that the end of an event may do to the reacting blocks. -/
structure Act.Settles (e : Env) (a b : Act) : Prop where
  preferred : b.preferred = a.preferred
  lastTrip : b.breaker.lastTrip = a.breaker.lastTrip
  lockout : b.breaker.state = .lockout ↔ a.breaker.state = .lockout
  selectorFault : b.selector.state = .fault ↔ a.selector.state = .fault
  isolatorFault : ∀ i, (b.isolators.get i).state = .fault ↔ (a.isolators.get i).state = .fault
  slots : ∀ i, SlotRec.Kept (a.slots.get i) (b.slots.get i)
  link : Link.Kept a.link b.link
  notices : b.notices.held.map HeldNotice.core = a.notices.held.map HeldNotice.core
  noticeTimer : b.notices.reviewTimer = a.notices.reviewTimer
  seqTimer : b.seq.reviewTimer = a.seq.reviewTimer
  ice : IceUnit.Kept a.ice b.ice
  startup : Startup.Kept a.startup b.startup
  logs : ∃ l, b.logs = a.logs ++ l
  interlock : a.Interlocked e.cls.confirmed → b.Interlocked e.cls.confirmed
  mark : a.notices.MarkHeld → b.notices.MarkHeld
  muted : b.startup.mode = .muted → a.startup.mode = .muted ∨ ∀ i, (b.slots.get i).restsDown = true

namespace Act.Settles

variable {a0 a : Act} {e : Env}

theorem refl (a : Act) : Act.Settles e a a :=
  ⟨rfl, rfl, .rfl, .rfl, fun _ => .rfl, fun _ => .refl _, .refl _, rfl, rfl, rfl, .refl _, .refl _, ⟨[], by simp⟩, fun x => ⟨x.1, x.2⟩, id, .inl⟩

theorem trans {b c : Act} (h : Act.Settles e a b) (k : Act.Settles e b c) : Act.Settles e a c where
  preferred := k.preferred.trans h.preferred
  lastTrip := k.lastTrip.trans h.lastTrip
  lockout := k.lockout.trans h.lockout
  selectorFault := k.selectorFault.trans h.selectorFault
  isolatorFault := fun i => (k.isolatorFault i).trans (h.isolatorFault i)
  slots := fun i => (h.slots i).trans (k.slots i)
  link := h.link.trans k.link
  notices := k.notices.trans h.notices
  noticeTimer := k.noticeTimer.trans h.noticeTimer
  seqTimer := k.seqTimer.trans h.seqTimer
  ice := h.ice.trans k.ice
  startup := h.startup.trans k.startup
  logs := by
    obtain ⟨l, hl⟩ := h.logs
    obtain ⟨m, hm⟩ := k.logs
    exact ⟨l ++ m, by rw [hm, hl, List.append_assoc]⟩
  interlock := fun x => k.interlock (h.interlock x)
  mark := fun x => k.mark (h.mark x)
  muted := fun x => by
    rcases k.muted x with g | g
    · rcases h.muted g with f | f
      · exact .inl f
      · exact .inr fun i => (k.slots i).down (f i)
    · exact .inr g

/-! ### Single writes -/

theorem log {c : EventCode} {x : Nat} {d : Half} {y : Word} (h : Act.Settles e a0 a) :
    Act.Settles e a0 (a.log c x d y) :=
  h.trans
    ⟨rfl, rfl, .rfl, .rfl, fun _ => .rfl, fun _ => .refl _, .refl _, rfl, rfl, rfl, .refl _, .refl _, ⟨_, rfl⟩, fun x => ⟨x.1, x.2⟩, id, .inl⟩

theorem inbox {x : Inbox} (h : Act.Settles e a0 a) : Act.Settles e a0 { a with inbox := x } :=
  h.trans
    ⟨rfl, rfl, .rfl, .rfl, fun _ => .rfl, fun _ => .refl _, .refl _, rfl, rfl, rfl, .refl _, .refl _, ⟨[], by simp⟩, fun x => ⟨x.1, x.2⟩, id, .inl⟩

theorem push {r : Report} (h : Act.Settles e a0 a) : Act.Settles e a0 (a.push r) := by
  unfold Act.push
  split
  · exact h
  · exact h.inbox

theorem evalDue (h : Act.Settles e a0 a) : Act.Settles e a0 a.evalDue := h.inbox

theorem iceDue (h : Act.Settles e a0 a) : Act.Settles e a0 a.iceDue := h.inbox

theorem bids {x : BidUnit} (h : Act.Settles e a0 a) : Act.Settles e a0 { a with bids := x } :=
  h.trans
    ⟨rfl, rfl, .rfl, .rfl, fun _ => .rfl, fun _ => .refl _, .refl _, rfl, rfl, rfl, .refl _, .refl _, ⟨[], by simp⟩, fun x => ⟨x.1, x.2⟩, id, .inl⟩

theorem test {x : RoofTest} (h : Act.Settles e a0 a) : Act.Settles e a0 { a with test := x } :=
  h.trans
    ⟨rfl, rfl, .rfl, .rfl, fun _ => .rfl, fun _ => .refl _, .refl _, rfl, rfl, rfl, .refl _, .refl _, ⟨[], by simp⟩, fun x => ⟨x.1, x.2⟩, id, .inl⟩

theorem seqTo {q : Sequencer} (k : q.reviewTimer = a.seq.reviewTimer) (h : Act.Settles e a0 a) :
    Act.Settles e a0 (a.setSeq q) :=
  h.trans
    ⟨rfl, rfl, .rfl, .rfl, fun _ => .rfl, fun _ => .refl _, .refl _, rfl, rfl, k, .refl _, .refl _, ⟨[], by simp⟩, fun x => ⟨x.1, x.2⟩, id, .inl⟩

theorem linkTo {k : Link} (hk : Link.Kept a.link k) (h : Act.Settles e a0 a) : Act.Settles e a0 { a with link := k } :=
  h.trans ⟨rfl, rfl, .rfl, .rfl, fun _ => .rfl, fun _ => .refl _, hk, rfl, rfl, rfl, .refl _, .refl _, ⟨[], by simp⟩, fun x => ⟨x.1, x.2⟩, id, .inl⟩

theorem iceTo {x : IceUnit} (k : IceUnit.Kept a.ice x) (h : Act.Settles e a0 a) : Act.Settles e a0 (a.setIce x) :=
  h.trans ⟨rfl, rfl, .rfl, .rfl, fun _ => .rfl, fun _ => .refl _, .refl _, rfl, rfl, rfl, k, .refl _, ⟨[], by simp⟩, fun x => ⟨x.1, x.2⟩, id, .inl⟩

theorem startupTo {x : Startup} (k : Startup.Kept a.startup x)
    (m : x.mode = .muted → a.startup.mode = .muted ∨ ∀ i, (a.slots.get i).restsDown = true) (h : Act.Settles e a0 a) :
    Act.Settles e a0 (a.setStartup x) :=
  h.trans ⟨rfl, rfl, .rfl, .rfl, fun _ => .rfl, fun _ => .refl _, .refl _, rfl, rfl, rfl, .refl _, k, ⟨[], by simp⟩, fun x => ⟨x.1, x.2⟩, id, m⟩

theorem breakerTo {b : Breaker} (k : b.lastTrip = a.breaker.lastTrip)
    (m : b.state = .lockout ↔ a.breaker.state = .lockout)
    (n : a.Interlocked e.cls.confirmed → Act.Interlocked e.cls.confirmed { a with breaker := b })
    (h : Act.Settles e a0 a) : Act.Settles e a0 { a with breaker := b } :=
  h.trans
    ⟨rfl, k, m, .rfl, fun _ => .rfl, fun _ => .refl _, .refl _, rfl, rfl, rfl, .refl _, .refl _, ⟨[], by simp⟩, n, id, .inl⟩

theorem selectorTo {x : Selector} (k : x.state = .fault ↔ a.selector.state = .fault)
    (n : a.Interlocked e.cls.confirmed → Act.Interlocked e.cls.confirmed { a with selector := x })
    (h : Act.Settles e a0 a) : Act.Settles e a0 { a with selector := x } :=
  h.trans
    ⟨rfl, rfl, .rfl, k, fun _ => .rfl, fun _ => .refl _, .refl _, rfl, rfl, rfl, .refl _, .refl _, ⟨[], by simp⟩, n, id, .inl⟩

theorem isolatorTo {i : Slot} {r : Isolator} (k : r.state = .fault ↔ (a.isolators.get i).state = .fault)
    (n : a.Interlocked e.cls.confirmed → (a.setIsolator i r).Interlocked e.cls.confirmed)
    (h : Act.Settles e a0 a) : Act.Settles e a0 (a.setIsolator i r) :=
  h.trans
    ⟨rfl, rfl, .rfl, .rfl,
      fun j => by
        simp only [Act.setIsolator_isolators, Pair.get_set]
        split
        · subst j; exact k
        · exact .rfl,
      fun _ => .refl _, .refl _, rfl, rfl, rfl, .refl _, .refl _, ⟨[], by simp⟩, n, id, .inl⟩

theorem slotTo {i : Slot} {r : SlotRec} (k : SlotRec.Kept (a.slots.get i) r) (h : Act.Settles e a0 a) :
    Act.Settles e a0 (a.setSlot i r) :=
  h.trans
    ⟨rfl, rfl, .rfl, .rfl, fun _ => .rfl,
      fun j => by
        simp only [Act.setSlot_slots, Pair.get_set]
        split
        · subst j; exact k
        · exact .refl _,
      .refl _, rfl, rfl, rfl, .refl _, .refl _, ⟨[], by simp⟩, fun x => ⟨x.1, x.2⟩, id, .inl⟩

theorem current {x : Option Byte}
    (k : a.notices.MarkHeld → NoticeQueue.MarkHeld { a.notices with current := x }) (h : Act.Settles e a0 a) :
    Act.Settles e a0 { a with notices := { a.notices with current := x } } :=
  h.trans
    ⟨rfl, rfl, .rfl, .rfl, fun _ => .rfl, fun _ => .refl _, .refl _, rfl, rfl, rfl, .refl _, .refl _, ⟨[], by simp⟩,
      fun x => ⟨x.1, x.2⟩, k, .inl⟩

theorem ids_of_core {l m : List HeldNotice} (k : l.map HeldNotice.core = m.map HeldNotice.core) :
    l.map (fun h => h.notice.id) = m.map fun h => h.notice.id := by
  have g := congrArg (List.map fun x : Notice × Bool => x.1.id) k
  simpa [List.map_map, Function.comp_def, HeldNotice.core] using g

theorem heldTo {l : List HeldNotice} (k : l.map HeldNotice.core = a.notices.held.map HeldNotice.core)
    (h : Act.Settles e a0 a) : Act.Settles e a0 (a.setHeld l) :=
  h.trans
    ⟨rfl, rfl, .rfl, .rfl, fun _ => .rfl, fun _ => .refl _, .refl _, k, rfl, rfl, .refl _, .refl _,
      ⟨[], by simp [Act.setHeld]⟩, fun x => ⟨x.1, x.2⟩,
      fun m id g => by
        have := m id g
        rwa [← ids_of_core k] at this, .inl⟩

/-- An operation that settles, made once for each item of a list. -/
theorem foldl {α : Type} {f : Act → α → Act} (k : ∀ b x, Act.Settles e a0 b → Act.Settles e a0 (f b x)) (l : List α)
    (h : Act.Settles e a0 a) : Act.Settles e a0 (l.foldl f a) := by
  induction l generalizing a with
  | nil => exact h
  | cons x l ih => exact ih (k a x h)

theorem answerAll {w : List Requester} {q : Request} {ans : Answer} (h : Act.Settles e a0 a) :
    Act.Settles e a0 (a.answerAll w q ans) := foldl (fun _ _ h => h.push) w h

/-! ### The transmit lane -/

theorem answerTx {x : TxEntry} {ans : TxAnswer} (h : Act.Settles e a0 a) : Act.Settles e a0 (a.answerTx x ans) := by
  refine foldl (fun b r h => ?_) x.requesters h
  cases r
  · exact h.push
  · exact h.push
  · exact h

theorem enqueue_kept (x : TxEntry) (k : Link) (g : k.gateOpen = true) (n : k.length < 8) :
    Link.Kept k (k.enqueue x) := by
  unfold Link.enqueue
  split
  · rename_i hh
    refine ⟨rfl, rfl, rfl, rfl, rfl, rfl, rfl, rfl, id, fun i => ⟨?_, ?_, i.3, ?_, i.5, i.6, i.7, i.8, i.9, i.10⟩⟩
    · simp [Link.length, i.head hh]
    · simp
    · simp [g]
  · rename_i hh
    refine ⟨rfl, rfl, rfl, rfl, rfl, rfl, rfl, rfl, id, fun i => ⟨?_, ?_, i.3, ?_, i.5, i.6, i.7, i.8, i.9, i.10⟩⟩
    · simp only [Link.length, List.length_append, List.length_cons, List.length_nil] at n ⊢
      omega
    · simp [hh]
    · simp [g]

theorem advance_kept (k : Link) : Link.Kept k k.advance := by
  unfold Link.advance
  split
  · rename_i hw
    refine ⟨rfl, rfl, rfl, rfl, rfl, rfl, rfl, rfl, id, fun i => ⟨?_, ?_, i.3, ?_, i.5, i.6, i.7, i.8, i.9, i.10⟩⟩
    · simp [Link.length, hw]
    · simp [hw]
    · simp [hw]
  · rename_i x rest hw
    refine ⟨rfl, rfl, rfl, rfl, rfl, rfl, rfl, rfl, id, fun i => ⟨?_, ?_, i.3, ?_, i.5, i.6, i.7, i.8, i.9, i.10⟩⟩
    · have := i.length
      simp only [Link.length, hw, List.length_cons] at this ⊢
      simp only [Option.isSome_some, if_true]
      omega
    · simp
    · intro c
      have := (i.closed c).1
      rw [hw] at this
      cases this

theorem offerTail {f : Frame} {r : TxRequester} (h : Act.Settles e a0 a) : Act.Settles e a0 (a.offerTail f r).2 := by
  unfold Act.offerTail
  split
  · exact h
  · split
    · rename_i g n
      exact h.linkTo (enqueue_kept _ _ (by simpa using g) n)
    · exact h.log

theorem replaceStateRoof_length {f : Frame} {r : TxRequester} {l m : List TxEntry}
    (h : replaceStateRoof f r l = some m) : m.length = l.length := by
  induction l generalizing m with
  | nil => cases h
  | cons x l ih =>
    unfold replaceStateRoof at h
    split at h
    · cases h; rfl
    · rw [Option.map_eq_some_iff] at h
      obtain ⟨w, hw, rfl⟩ := h
      simp [ih hw]

/-- Another list of entries, no longer than the one it stands for. -/
theorem waiting_kept {k : Link} {w : List TxEntry} (n : w.length ≤ k.waiting.length) :
    Link.Kept k { k with waiting := w } := by
  refine ⟨rfl, rfl, rfl, rfl, rfl, rfl, rfl, rfl, id,
    fun i => ⟨?_, fun c => ?_, i.3, fun c => ⟨?_, (i.closed c).2⟩, i.5, i.6, i.7, i.8, i.9, i.10⟩⟩
  · have := i.length
    simp only [Link.length] at this ⊢
    omega
  · have := i.head c
    rw [this] at n
    exact List.length_eq_zero_iff.mp (by simpa using n)
  · have := (i.closed c).1
    rw [this] at n
    exact List.length_eq_zero_iff.mp (by simpa using n)

/-- Another content of the head entry. -/
theorem head_kept {k : Link} {x y : TxHead} (hx : k.head = some x) (hy : y.access = x.access) :
    Link.Kept k { k with head := some y } := by
  refine ⟨rfl, rfl, rfl, rfl, rfl, rfl, rfl, rfl, id,
    fun i => ⟨?_, nofun, i.3, fun c => ⟨(i.closed c).1, ?_⟩, i.5, i.6, i.7, i.8, i.9, i.10⟩⟩
  · simpa [Link.length, hx] using i.length
  · have := (i.closed c).2
    simpa [Link.headOnTheWire, hx, hy] using this

theorem replaceInPlace_kept {f : Frame} {r : TxRequester} {k m : Link} (h : k.replaceInPlace f r = some m) :
    Link.Kept k m := by
  unfold Link.replaceInPlace at h
  split at h
  · split at h
    · rename_i x hx _
      cases h
      exact head_kept hx rfl
    · rw [Option.map_eq_some_iff] at h
      obtain ⟨w, hw, rfl⟩ := h
      exact waiting_kept (replaceStateRoof_length hw).le
  · cases h

theorem offerStateRoof {r : TxRequester} (h : Act.Settles e a0 a) : Act.Settles e a0 (a.offerStateRoof r e).2 := by
  unfold Act.offerStateRoof
  simp only
  split
  · exact h
  · split
    · exact h.linkTo (replaceInPlace_kept (by assumption))
    · exact h.offerTail

theorem alert {c : AlertCode} {i : Option Slot} (h : Act.Settles e a0 a) : Act.Settles e a0 (a.alert c i) := by
  unfold Act.alert
  simp only
  have k : Act.Settles e a0 (a.offerTail (.alert { code := c, slot := i }) .other).2 := h.offerTail
  split <;> (rename_i heq; rw [heq] at k)
  · exact k.linkTo ⟨rfl, rfl, rfl, rfl, rfl, rfl, rfl, rfl, id,
      fun i => ⟨i.1, i.2, i.3, i.4, i.5, i.6, i.7, i.8, i.9, i.10⟩⟩
  · exact k

theorem closeGate (h : Act.Settles e a0 a) : Act.Settles e a0 a.closeGate := by
  unfold Act.closeGate
  refine foldl (fun _ _ h => h.answerTx) _ (h.linkTo ⟨rfl, rfl, rfl, rfl, rfl, rfl, rfl, rfl, nofun, fun i =>
    ⟨?_, fun _ => rfl, nofun, fun _ => ⟨rfl, ?_⟩, i.5, i.6, i.7, i.8, i.9, i.10⟩⟩)
  · have := i.length
    simp only [Link.length] at this ⊢
    split
    · simp only [List.length_nil]; omega
    · simp
  · by_cases w : a.link.headOnTheWire = true
    · right
      unfold Link.headOnTheWire at w ⊢
      simp only [w, if_true]
    · left
      simp [w]

theorem withdrawBid_kept {n : Nat} {k m : Link} (h : k.withdrawBid n = some m) : Link.Kept k m := by
  unfold Link.withdrawBid at h
  split at h
  · cases h; exact .refl _
  · split at h
    · split at h
      · cases h
      · cases h; exact advance_kept _
    · cases h; exact waiting_kept (List.length_filter_le _ _)

/-! ### Switchgear and roof test -/

theorem live_of_breakerOpen {b : BreakerState} (h : BreakerState.isOpen b = true) : BreakerState.isLive b = false := by
  cases b <;> first | rfl | cases h

/-- A breaker that is neither CLOSING nor CLOSED asks nothing of selector and isolators. -/
theorem interlocked_dead {c : Confirmed} {a b : Act} (k : b.isolators = a.isolators)
    (d : BreakerState.isLive b.breaker.state = false) (h : a.Interlocked c) : b.Interlocked c :=
  ⟨by rw [k]; exact h.isolators, by rw [d]; nofun⟩

/-- An isolator written to a state that is neither CLOSING nor CLOSED, while the breaker is not live. -/
theorem interlocked_isolator {c : Confirmed} {i : Slot} {r : Isolator}
    (m : IsolatorState.isLive r.state = false) (d : BreakerState.isLive a.breaker.state = false)
    (_h : a.Interlocked c) : (a.setIsolator i r).Interlocked c := by
  refine ⟨?_, by rw [Act.setIsolator_breaker, d]; nofun⟩
  cases i
  · simp [Act.setIsolator, Pair.set, m]
  · simp [Act.setIsolator, Pair.set, m]

/-- With the breaker live, each isolator is CLOSED or OPEN. -/
theorem live_isolator {c : Confirmed} (h : a.Interlocked c) (d : BreakerState.isLive a.breaker.state = true) (i : Slot) :
    (a.isolators.get i).state = .closed ∨ (a.isolators.get i).state = .opened := by
  obtain ⟨_, _, _, ⟨x, y⟩ | ⟨x, y⟩⟩ := h.breaker d <;> cases i
  · exact .inl x
  · exact .inr y
  · exact .inr x
  · exact .inl y

/-- The same for an isolator that is neither CLOSED nor OPEN, whatever the breaker. -/
theorem interlocked_between {c : Confirmed} {i : Slot} {r : Isolator}
    (m : IsolatorState.isLive r.state = false) (k : (a.isolators.get i).state ≠ .closed)
    (n : (a.isolators.get i).state ≠ .opened) (h : a.Interlocked c) : (a.setIsolator i r).Interlocked c := by
  cases d : BreakerState.isLive a.breaker.state
  · exact interlocked_isolator m d h
  · rcases live_isolator h d i with x | x
    · exact absurd x k
    · exact absurd x n

/-- An isolator that keeps its state. -/
theorem interlocked_same {c : Confirmed} {i : Slot} {r : Isolator} (k : r.state = (a.isolators.get i).state)
    (h : a.Interlocked c) : (a.setIsolator i r).Interlocked c := by
  refine ⟨?_, ?_⟩
  · have := h.isolators
    cases i <;> simpa [Act.setIsolator, Pair.set, Pair.get, k] using this
  · have := h.breaker
    cases i <;> simpa [Act.setIsolator, Pair.set, Pair.get, k] using this

theorem isolatorIsOpen {i : Slot} (k : (a.isolators.get i).state = .opening true) (h : Act.Settles e a0 a) :
    Act.Settles e a0 (a.isolatorIsOpen i) := by
  have g := h.isolatorTo (i := i) (r := { a.isolators.get i with state := .opened, timer := none, openWaiters := [] })
    (by simp [k]) (interlocked_between rfl (by simp [k]) (by simp [k]))
  exact g.answerAll

theorem driveOpen {i : Slot} (k : (a.isolators.get i).state ≠ .fault)
    (n : ((a.isolators.get i).state ≠ .closed ∧ (a.isolators.get i).state ≠ .opened)
      ∨ BreakerState.isLive a.breaker.state = false) (h : Act.Settles e a0 a) :
    Act.Settles e a0 (a.driveOpen e i) := by
  have g := h.isolatorTo (i := i) (r := { a.isolators.get i with state := .opening true, timer := some 300 })
    (by simpa using k)
    (by
      rcases n with n | n
      · exact interlocked_between rfl n.1 n.2
      · exact interlocked_isolator rfl n)
  unfold Act.driveOpen
  simp only
  split
  · exact g.isolatorIsOpen (by simp)
  · exact g

theorem isolatorBreakerOpened {i : Slot} (h : Act.Settles e a0 a) :
    Act.Settles e a0 (a.isolatorBreakerOpened e i) := by
  unfold Act.isolatorBreakerOpened
  simp only
  split
  · rename_i k
    exact h.driveOpen (by rw [k]; nofun) (.inl (by rw [k]; exact ⟨nofun, nofun⟩))
  · have g := h.isolatorTo (i := i) (r := { a.isolators.get i with openWaiters := [] }) .rfl (interlocked_same rfl)
    exact g.answerAll
  · exact h

theorem breakerReachesOpen (k : a.breaker.state ≠ .lockout) (h : Act.Settles e a0 a) :
    Act.Settles e a0 (a.breakerReachesOpen e) := by
  have g := h.breakerTo (b := { a.breaker with state := .opened, timer := none, openWaiters := [] }) rfl
    (by simpa using k) (interlocked_dead rfl rfl)
  exact g.answerAll.push.isolatorBreakerOpened.isolatorBreakerOpened

@[simp] theorem answerAll_breaker {w : List Requester} {q : Request} {ans : Answer} :
    (a.answerAll w q ans).breaker = a.breaker := by
  unfold Act.answerAll
  induction w generalizing a with
  | nil => rfl
  | cons x l ih => rw [List.foldl_cons, ih]; simp

@[simp] theorem answerAll_isolators {w : List Requester} {q : Request} {ans : Answer} :
    (a.answerAll w q ans).isolators = a.isolators := by
  unfold Act.answerAll
  induction w generalizing a with
  | nil => rfl
  | cons x l ih => rw [List.foldl_cons, ih]; simp

theorem openBreaker {w : List Requester} (h : Act.Settles e a0 a) : Act.Settles e a0 (a.openBreaker e w) := by
  unfold Act.openBreaker
  simp only
  split
  · exact h.answerAll
  · exact h.answerAll
  · exact h.breakerTo rfl .rfl fun x => ⟨x.1, x.2⟩
  all_goals
    rename_i k
    have g := h.breakerTo (b := { a.breaker with
      state := .opening, timer := some 100, closeWaiters := [], openWaiters := a.breaker.openWaiters ++ w })
      rfl (by simp [k]) (interlocked_dead rfl rfl)
    split
    · exact g.answerAll
    · exact g.answerAll.breakerReachesOpen (by rw [answerAll_breaker]; nofun)

theorem forceOpen {n : Nat} (h : Act.Settles e a0 a) : Act.Settles e a0 (a.forceOpen e n) := by
  unfold Act.forceOpen
  split
  · exact h.log.push.openBreaker
  · exact h

/-- R26, R31: a CLOSED isolator is to open while the breaker is not open: the breaker is opened first. -/
theorem isolatorAwaits {i : Slot} {w : List Requester} (k : (a.isolators.get i).state = .closed)
    (h : Act.Settles e a0 a) : Act.Settles e a0 (Act.forceOpen e 4 (a.setIsolator i { a.isolators.get i with
      state := .opening false, timer := none, openWaiters := w })) := by
  unfold Act.forceOpen
  split
  · rename_i live
    have g := (h.log (c := .breakerForcedOpen) (x := 255) (d := n16 4) (y := n32 e.cls.confirmed.code)).push
      (r := .breakerForced 4)
    generalize s : (a.log .breakerForcedOpen 255 (n16 4) (n32 e.cls.confirmed.code)).push (.breakerForced 4) = b at g
    have sb : b.breaker = a.breaker := by simp [← s]
    have si : b.isolators = a.isolators := by simp [← s]
    have m := breakerTo (e := e) (a := b) (b := { a.breaker with
      state := .opening, timer := some 100, closeWaiters := []
      openWaiters := a.breaker.openWaiters ++ [] }) (by rw [sb])
      (by
        have live : BreakerState.isLive a.breaker.state = true := live
        rw [sb]
        constructor
        · nofun
        · intro x
          rw [x] at live
          cases live)
      (interlocked_dead rfl rfl) g
    have o := m.isolatorTo (i := i) (r := { a.isolators.get i with
      state := .opening false, timer := none, openWaiters := w }) (by simp [si, k]) (interlocked_isolator rfl rfl)
    have live : BreakerState.isLive a.breaker.state = true := live
    have two : a.breaker.state = .closing ∨ a.breaker.state = .closed := by
      cases b : a.breaker.state <;> simp [b, BreakerState.isLive] at live ⊢
    have p := o.answerAll (w := a.breaker.closeWaiters) (q := .closeBreaker) (ans := .failed)
    have c : Act.push (.breakerForced 4) (Act.log .breakerForcedOpen 255 (n16 4) (n32 e.cls.confirmed.code)
        (a.setIsolator i { a.isolators.get i with state := .opening false, timer := none, openWaiters := w }))
        = b.setIsolator i { a.isolators.get i with state := .opening false, timer := none, openWaiters := w } := by
      rw [← s]
      exact Act.push_setIsolator _ i _ (a.log .breakerForcedOpen 255 (n16 4) (n32 e.cls.confirmed.code))
    rw [c]
    unfold Act.openBreaker
    simp only [Act.setIsolator_breaker, sb]
    rcases two with two | two <;> rw [two] <;> simp only <;> split
    · exact p
    · exact p.breakerReachesOpen (by rw [answerAll_breaker]; nofun)
    · exact p
    · exact p.breakerReachesOpen (by rw [answerAll_breaker]; nofun)
  · rename_i dead
    have dead : ¬ BreakerState.isLive a.breaker.state = true := dead
    exact h.isolatorTo (by simp [k]) (interlocked_isolator rfl (by simpa using dead))

theorem openIsolator {i : Slot} {w : List Requester} (h : Act.Settles e a0 a) :
    Act.Settles e a0 (a.openIsolator e i w) := by
  unfold Act.openIsolator
  simp only
  split
  · exact h.answerAll
  · rename_i k
    have g := h.isolatorTo (i := i) (r := { a.isolators.get i with
      closeWaiters := [], openWaiters := (a.isolators.get i).openWaiters ++ w }) .rfl (interlocked_same rfl)
    refine g.answerAll.driveOpen ?_ (.inl ?_)
    · rw [answerAll_isolators]
      simp [k]
    · rw [answerAll_isolators]
      simp [k]
  · rename_i k
    split
    · rename_i o
      have d := live_of_breakerOpen o
      simp only [Act.setIsolator_breaker] at d
      have g := h.isolatorTo (i := i) (r := { a.isolators.get i with
        state := .opening false, timer := none, openWaiters := (a.isolators.get i).openWaiters ++ w }) (by simp [k])
        (interlocked_isolator rfl d)
      exact g.driveOpen (by simp) (.inl (by simp))
    · exact h.isolatorAwaits k
  · exact h.isolatorTo .rfl (interlocked_same rfl)
  · split
    · exact h.answerAll
    · exact h.isolatorTo .rfl (interlocked_same rfl)

/-- A selector that is not at rest goes with a breaker that is not live. -/
theorem interlocked_selector {c : Confirmed} {x : Selector}
    (k : BreakerState.isLive a.breaker.state = false ∨ ∀ p, a.selector.state ≠ .rest p)
    (h : a.Interlocked c) : Act.Interlocked c { a with selector := x } := by
  refine ⟨h.isolators, fun d => ?_⟩
  have d : BreakerState.isLive a.breaker.state = true := d
  rcases k with k | k
  · rw [k] at d
    cases d
  · obtain ⟨y, g, _⟩ := h.breaker d
    exact absurd g (k _)

theorem travelEnds {y z : Supply} (k : a.selector.state = .moving z) (h : Act.Settles e a0 a) :
    Act.Settles e a0 (a.travelEnds y) := by
  have g := h.selectorTo (x := { state := .rest (.system y), timer := none, waiters := [] }) (by simp [k])
    (interlocked_selector (.inr (by simp [k])))
  exact g.answerAll

theorem moveSelector {y : Supply} {w : List Requester} (h : Act.Settles e a0 a) :
    Act.Settles e a0 (a.moveSelector e y w) := by
  have take (k : a.selector.state ≠ .fault) : Act.Settles e a0
      (if a.breakerOpen && a.bothIsolatorsOpen then
        (if Switches.get e.pins.selector (.system y) then
          Act.travelEnds y { a with selector := { state := .moving y, timer := some 4000, waiters := w } }
        else { a with selector := { state := .moving y, timer := some 4000, waiters := w } })
      else a.answerAll w (.moveSelector y) .refused) := by
    split
    · rename_i o
      have d := live_of_breakerOpen (Bool.and_eq_true_iff.mp o).1
      have g := h.selectorTo (x := { state := .moving y, timer := some 4000, waiters := w }) (by simpa using k)
        (interlocked_selector (.inl d))
      split
      · exact g.travelEnds (z := y) rfl
      · exact g
    · exact h.answerAll
  unfold Act.moveSelector
  simp only
  split
  · rename_i k
    split
    · exact h.answerAll
    · exact take (by rw [k]; nofun)
  · rename_i k
    exact take (by rw [k]; nofun)
  · rename_i k
    split
    · exact h.selectorTo .rfl fun x => ⟨x.1, x.2⟩
    · exact h.answerAll
  · exact h.answerAll

theorem closeIsolator {i : Slot} {w : List Requester} (h : Act.Settles e a0 a) :
    Act.Settles e a0 (a.closeIsolator i w) := by
  unfold Act.closeIsolator
  simp only
  split
  · rename_i k
    split
    · rename_i m
      refine h.isolatorTo (by simp [k]) fun x => ?_
      simp only [Act.mayCloseIsolator, Bool.and_eq_true, decide_eq_true_eq] at m
      have d := live_of_breakerOpen m.1.1.1.1.1
      refine ⟨?_, by rw [Act.setIsolator_breaker, d]; nofun⟩
      have o := m.1.2
      cases i <;> simp_all [Act.setIsolator, Pair.set, Pair.get, Slot.other, IsolatorState.isLive]
    · exact h.answerAll
  · exact h.isolatorTo .rfl (interlocked_same rfl)
  all_goals exact h.answerAll

theorem closeBreaker {w : List Requester} (h : Act.Settles e a0 a) : Act.Settles e a0 (a.closeBreaker e w) := by
  unfold Act.closeBreaker
  simp only
  split
  · rename_i k
    split
    · rename_i m
      refine h.breakerTo rfl (by simp [k]) fun x => ⟨x.1, fun _ => ?_⟩
      simp only [Act.mayCloseBreaker, Bool.and_eq_true, Bool.or_eq_true, decide_eq_true_eq] at m
      obtain ⟨⟨⟨m1, m2⟩, _⟩, _⟩ := m
      cases hs : a.selector.state with
      | rest p =>
        cases p with
        | park => simp [hs, SelectorState.position] at m1
        | system y =>
          simp only [hs, SelectorState.position, decide_eq_true_eq] at m1
          exact ⟨y, rfl, m1, m2⟩
      | moving t => simp [hs, SelectorState.position] at m1
      | unknown => simp [hs, SelectorState.position] at m1
      | fault => simp [hs, SelectorState.position] at m1
    · exact h.answerAll
  · exact h.breakerTo rfl .rfl fun x => ⟨x.1, x.2⟩
  all_goals exact h.answerAll

theorem finishTest {r : TestResult} {n d : Nat} {w : List Requester} (h : Act.Settles e a0 a) :
    Act.Settles e a0 (a.finishTest r n d w) := h.test.log.answerAll

theorem requestTest {w : List Requester} (h : Act.Settles e a0 a) : Act.Settles e a0 (a.requestTest w) := by
  unfold Act.requestTest
  split
  · exact h.test
  · exact h.finishTest

/-! ### Lift Drive -/

theorem compute_kept (y : Supply) (p : Profile) (v ice : Nat) (r : SlotRec) :
    SlotRec.Kept r (r.compute y p v ice) :=
  ⟨rfl, rfl, rfl, rfl, rfl, rfl, .inl rfl, .inl rfl, fun _ => Nat.min_le_left _ _⟩

theorem slotsTo {p : Pair SlotRec} (k : ∀ i, SlotRec.Kept (a.slots.get i) (p.get i)) (h : Act.Settles e a0 a) :
    Act.Settles e a0 { a with slots := p } :=
  h.trans ⟨rfl, rfl, .rfl, .rfl, fun _ => .rfl, k, .refl _, rfl, rfl, rfl, .refl _, .refl _, ⟨[], by simp⟩, fun x => ⟨x.1, x.2⟩, id, .inl⟩

theorem recompute (h : Act.Settles e a0 a) : Act.Settles e a0 (a.recompute e) := by
  unfold Act.recompute
  split
  · refine h.slotsTo fun i => ?_
    cases i <;> exact compute_kept _ _ _ _ _
  · exact h

theorem slotChanged {i : Slot} (h : Act.Settles e a0 a) : Act.Settles e a0 (a.slotChanged i) := h.push.iceDue.evalDue

theorem updateSlot {i : Slot} {f : SlotRec → SlotRec} (k : SlotRec.Kept (a.slots.get i) (f (a.slots.get i)))
    (h : Act.Settles e a0 a) : Act.Settles e a0 (a.updateSlot i f) := (h.slotTo k).slotChanged

theorem answerRaise {i : Slot} {ans : Answer} (h : Act.Settles e a0 a) : Act.Settles e a0 (a.answerRaise i ans) := by
  unfold Act.answerRaise
  simp only
  split
  · refine (h.slotTo ?_).push
    exact ⟨rfl, rfl, rfl, rfl, rfl, rfl, .inl rfl, .inl rfl, id⟩
  · exact h

theorem clearDuty {i : Slot} (h : Act.Settles e a0 a) : Act.Settles e a0 (a.clearDuty e i) := by
  unfold Act.clearDuty
  simp only
  split
  · exact h
  · refine (h.slotTo ?_).slotChanged.recompute
    exact ⟨rfl, rfl, rfl, rfl, rfl, rfl, .inr rfl, .inl rfl, id⟩

theorem answerLower {i : Slot} {ans : Answer} (h : Act.Settles e a0 a) : Act.Settles e a0 (a.answerLower i ans) := by
  refine (h.slotTo ?_).answerAll
  exact ⟨rfl, rfl, rfl, rfl, rfl, rfl, .inl rfl, .inl rfl, id⟩

/-- A slot that is already on its way down, or raised with duty NONE, goes on to a state of the way down. -/
theorem lowered {r s : SlotRec} (k : s = { r with lift := s.lift, lowerTimer := s.lowerTimer })
    (h1 : s.lift ≠ .rising) (h2 : s.lift ≠ .up) (h3 : s.lift ≠ .dropped) (h4 : r.lift ≠ .down)
    (h5 : r.lift ≠ .dropped) (h6 : r.lift = .rising ∨ r.lift = .up → r.duty = .idle) : SlotRec.Kept r s := by
  rw [k]
  exact ⟨rfl, rfl, rfl, rfl, rfl, rfl, .inl rfl, .inr ⟨h1, h2, h3, h4, h5, h6⟩, id⟩

theorem becomesDown {i : Slot} {p : LoweringPhase} (k : (a.slots.get i).lift = .lowering p)
    (h : Act.Settles e a0 a) : Act.Settles e a0 (a.becomesDown i) := by
  refine (h.updateSlot (lowered rfl ?_ ?_ ?_ ?_ ?_ ?_)).answerLower <;> simp [k]

@[simp] theorem slotChanged_slots {i : Slot} : (a.slotChanged i).slots = a.slots := by simp [Act.slotChanged]

@[simp] theorem updateSlot_slots {i : Slot} {f : SlotRec → SlotRec} :
    (a.updateSlot i f).slots = a.slots.set i (f (a.slots.get i)) := by simp [Act.updateSlot]

theorem vent {i : Slot} (h4 : (a.slots.get i).lift ≠ .down) (h5 : (a.slots.get i).lift ≠ .dropped)
    (h6 : (a.slots.get i).lift = .rising ∨ (a.slots.get i).lift = .up → (a.slots.get i).duty = .idle)
    (h : Act.Settles e a0 a) : Act.Settles e a0 (a.vent e i) := by
  have g : Act.Settles e a0
      (a.updateSlot i fun r => { r with lift := .lowering .venting, lowerTimer := some 8000 }) :=
    h.updateSlot (lowered rfl nofun nofun nofun h4 h5 h6)
  unfold Act.vent
  simp only
  split
  · exact g.becomesDown (p := .venting) (by simp)
  · exact g

theorem recompute_slot {i : Slot} : ((a.recompute e).slots.get i).lift = (a.slots.get i).lift
    ∧ ((a.recompute e).slots.get i).duty = (a.slots.get i).duty := by
  unfold Act.recompute
  split
  · cases i <;> exact ⟨rfl, rfl⟩
  · exact ⟨rfl, rfl⟩

theorem clearDuty_slot {i : Slot} : ((a.clearDuty e i).slots.get i).lift = (a.slots.get i).lift
    ∧ ((a.clearDuty e i).slots.get i).duty = .idle := by
  unfold Act.clearDuty
  simp only
  split
  · exact ⟨rfl, by assumption⟩
  · have k := recompute_slot (e := e) (a := (a.setSlot i { a.slots.get i with duty := .idle }).slotChanged i) (i := i)
    simpa using k

theorem answerRaise_slot {i : Slot} {ans : Answer} :
    ((a.answerRaise i ans).slots.get i).lift = (a.slots.get i).lift
    ∧ ((a.answerRaise i ans).slots.get i).duty = (a.slots.get i).duty := by
  unfold Act.answerRaise
  simp only
  split <;> simp

theorem startDown {i : Slot} {w : List Requester} (k : (a.slots.get i).lift = .rising ∨ (a.slots.get i).lift = .up)
    (h : Act.Settles e a0 a) : Act.Settles e a0 (a.startDown e i w) := by
  have c := clearDuty_slot (e := e) (a := a) (i := i)
  have d := answerRaise_slot (a := a.clearDuty e i) (i := i) (ans := .failed)
  have lift := d.1.trans c.1
  have duty := d.2.trans c.2
  have g : Act.Settles e a0 (((a.clearDuty e i).answerRaise i .failed).updateSlot i fun r =>
      { r with riseTimer := none, lowerWaiters := r.lowerWaiters ++ w }) :=
    h.clearDuty.answerRaise.updateSlot ⟨rfl, rfl, rfl, rfl, rfl, rfl, .inl rfl, .inl rfl, id⟩
  have h4 : (((a.clearDuty e i).answerRaise i .failed).slots.get i).lift ≠ .down := by
    rw [lift]; rcases k with k | k <;> rw [k] <;> nofun
  have h5 : (((a.clearDuty e i).answerRaise i .failed).slots.get i).lift ≠ .dropped := by
    rw [lift]; rcases k with k | k <;> rw [k] <;> nofun
  unfold Act.startDown
  simp only
  split
  · exact g.vent (by simpa using h4) (by simpa using h5) (by simpa using fun _ => duty)
  · refine (g.updateSlot ?_).openIsolator
    refine lowered rfl nofun nofun nofun ?_ ?_ ?_
    · simpa using h4
    · simpa using h5
    · simpa using fun _ => duty

theorem lower {i : Slot} {w : List Requester} (h : Act.Settles e a0 a) : Act.Settles e a0 (a.lower e i w) := by
  unfold Act.lower
  simp only
  split
  · exact h.answerAll
  · exact h.answerAll
  · exact h.slotTo ⟨rfl, rfl, rfl, rfl, rfl, rfl, .inl rfl, .inl rfl, id⟩
  · exact h.startDown (.inl (by assumption))
  · exact h.startDown (.inr (by assumption))

theorem isolatorOpenedForLift {i : Slot} (h : Act.Settles e a0 a) :
    Act.Settles e a0 (a.isolatorOpenedForLift e i) := by
  unfold Act.isolatorOpenedForLift
  split
  · rename_i k
    exact h.vent (by simp [k]) (by simp [k]) (by simp [k])
  · exact h

/-! ### Bid Unit -/

theorem recomputeProfile (h : Act.Settles e a0 a) : Act.Settles e a0 (a.recomputeProfile e) := by
  unfold Act.recomputeProfile
  simp only
  split
  · exact h
  · split
    · exact h.bids.log.recompute.push.iceDue.evalDue
    · exact h.bids.log.push.iceDue.evalDue

theorem cedeFor {b : HeldBid} {n : Nat} (h : Act.Settles e a0 a) : Act.Settles e a0 (a.cedeFor b n) := by
  unfold Act.cedeFor
  simp only
  cases b.phase with
  | offered =>
    simp only
    split
    · rename_i k
      exact (h.linkTo (withdrawBid_kept k)).bids.log.push.evalDue
    · exact h.bids.bids.log.push.evalDue
  | window => exact h.offerTail.bids.log.push.evalDue
  | committed => exact h.offerTail.bids.log.push.evalDue

theorem cede {n : Nat} (h : Act.Settles e a0 a) : Act.Settles e a0 (a.cede e n) := by
  unfold Act.cede
  split
  · split
    · exact h.cedeFor
    · exact h
  · exact h

theorem setRequest {k : BidKind} {r : Option Slot} (h : Act.Settles e a0 a) : Act.Settles e a0 (a.setRequest k r) := by
  cases k <;> exact h.bids

theorem withdrawRequest {k : BidKind} (h : Act.Settles e a0 a) : Act.Settles e a0 (a.withdrawRequest e k) := by
  unfold Act.withdrawRequest
  simp only
  split
  · exact h.setRequest.evalDue.cede
  · exact h.setRequest.evalDue

theorem placeRequest {k : BidKind} {i : Slot} (h : Act.Settles e a0 a) : Act.Settles e a0 (a.placeRequest e k i) := by
  unfold Act.placeRequest
  simp only
  split
  · split
    · exact h.setRequest.evalDue.cede
    · exact h.setRequest.evalDue
  · exact h.setRequest.evalDue

theorem openBid {k : BidKind} {i : Slot} (h : Act.Settles e a0 a) : Act.Settles e a0 (a.openBid e k i) := by
  unfold Act.openBid
  simp only
  split <;>
    (rename_i heq
     have g := congrArg Prod.snd heq
     have m := h.offerTail
       (f := .bid { kind := k, slot := i, dfront := n16 (a.dfront e i), number := n8 a.bids.nextNumber })
       (r := .bid a.bids.nextNumber)
     rw [g] at m)
  · exact m.bids.log.push
  · exact m.push

theorem tryRequest {k : BidKind} (h : Act.Settles e a0 a) : Act.Settles e a0 (a.tryRequest e k) := by
  unfold Act.tryRequest
  split
  · split
    · exact h.openBid
    · exact h
  · exact h

theorem bidTxAnswered {n : Nat} {ans : TxAnswer} (h : Act.Settles e a0 a) :
    Act.Settles e a0 (a.bidTxAnswered n ans) := by
  unfold Act.bidTxAnswered
  simp only
  split
  · exact h.bids
  · split
    · exact h.bids.offerTail
    · exact h
  · exact h.bids.push
  · exact h.bids.push
  · split
    · exact h.bids
    · exact h
  · split
    · exact h.bids
    · exact h
  · exact h

theorem bidRaiseAnswered {i : Slot} {ans : Answer} (h : Act.Settles e a0 a) :
    Act.Settles e a0 (a.bidRaiseAnswered i ans) := by
  unfold Act.bidRaiseAnswered
  split
  · split
    · exact h.bids.push
    · exact h
  · exact h

theorem retract {i : Slot} {n : Nat} {w : Requester} (h : Act.Settles e a0 a) :
    Act.Settles e a0 (a.retract e i n w) := h.lower.log

theorem settleDuty {d : Duty} {f : Act → Profile → Placed → Option Nat} (h : Act.Settles e a0 a) :
    Act.Settles e a0 (a.settleDuty e d f) := by
  refine foldl (fun b x k => ?_) _ h
  split
  · exact k
  · split
    · exact k.retract
    · exact k

theorem settleDown (h : Act.Settles e a0 a) : Act.Settles e a0 (a.settleDown e) := h.settleDuty.settleDuty

theorem evaluate (h : Act.Settles e a0 a) : Act.Settles e a0 (a.evaluate e) := by
  have g : Act.Settles e a0 (Act.recomputeProfile e { a with inbox := { a.inbox with evalDue := false } }) :=
    h.inbox.recomputeProfile
  unfold Act.evaluate
  simp only
  split
  · split
    · split
      · exact g.cedeFor.settleDown.tryRequest.tryRequest
      · exact g.settleDown.tryRequest.tryRequest
    · exact g.settleDown.tryRequest.tryRequest
  · exact g.settleDown.tryRequest.tryRequest

theorem bidsEnd (h : Act.Settles e a0 a) : Act.Settles e a0 (a.bidsEnd e) := by
  unfold Act.bidsEnd
  split
  · split
    · exact h.cede
    · exact h.bids.push
  · exact h

/-! ### Notices and Ice Unit -/

theorem markNotice {id : Byte} (h : Act.Settles e a0 a) : Act.Settles e a0 (a.markNotice id).2 := by
  unfold Act.markNotice
  split
  · exact h
  · split
    · exact h
    · rename_i x g _
      refine ((h.current ?_).log).push
      intro _ n m
      cases m
      have p := List.find?_some g
      have q := List.mem_of_find?_eq_some g
      simp only [decide_eq_true_eq] at p
      exact List.mem_map.mpr ⟨x, q, p⟩

theorem clearMark (h : Act.Settles e a0 a) : Act.Settles e a0 a.clearMark := by
  unfold Act.clearMark
  split
  · exact h
  · refine (h.current ?_).push
    intro _ _ m
    cases m

theorem retractScrapers {f : Slot → Act → Bool} {n : Nat} (h : Act.Settles e a0 a) :
    Act.Settles e a0 (a.retractScrapers e f n) := by
  have one (i : Slot) {b : Act} (k : Act.Settles e a0 b) : Act.Settles e a0
      (if (b.slots.get i).duty = .scrape ∧ f i b then b.retract e i n .iceUnit else b) := by
    split
    · exact k.retract
    · exact k
  exact one .one (one .zero h)

theorem setPointFlags (h : Act.Settles e a0 a) : Act.Settles e a0 (a.setPointFlags e) := by
  unfold Act.setPointFlags
  split
  · exact h
  · refine h.heldTo ?_
    rw [List.map_map]
    refine List.map_congr_left fun x _ => ?_
    simp only [Function.comp]
    split <;> rfl

theorem iceNotices (h : Act.Settles e a0 a) : Act.Settles e a0 (a.iceNotices e) := h.setPointFlags.retractScrapers.iceDue

theorem reheat (h : Act.Settles e a0 a) : Act.Settles e a0 (a.reheat e) := by
  unfold Act.reheat
  simp only
  split
  · exact h.iceTo ⟨rfl, rfl, rfl, rfl, rfl, rfl, rfl, rfl, rfl, rfl⟩
  · refine (h.iceTo ?_).log
    exact ⟨rfl, rfl, rfl, rfl, rfl, rfl, rfl, rfl, rfl, rfl⟩

theorem recandidate (h : Act.Settles e a0 a) : Act.Settles e a0 (a.recandidate e) := by
  unfold Act.recandidate
  simp only
  split
  · exact h
  · refine ((h.iceTo ?_).log).evalDue
    exact ⟨rfl, rfl, rfl, rfl, rfl, rfl, rfl, rfl, rfl, rfl⟩

theorem rerequest (h : Act.Settles e a0 a) : Act.Settles e a0 (a.rerequest e) := by
  unfold Act.rerequest
  split
  · split
    · exact h
    · exact h.placeRequest
  · split
    · exact h.withdrawRequest
    · exact h

theorem reviewIce (h : Act.Settles e a0 a) : Act.Settles e a0 (a.reviewIce e) := h.inbox.reheat.recandidate.rerequest

/-! ### Roof Sequencer -/

theorem ask {q : Request} (h : Act.Settles e a0 a) : Act.Settles e a0 (a.ask e q) := by
  have g := h.seqTo (q := { a.seq with awaiting := a.seq.awaiting ++ [q] }) rfl
  unfold Act.ask
  simp only
  split
  · exact g.moveSelector
  · exact g.closeIsolator
  · exact g.openIsolator
  · exact g.closeBreaker
  · exact g.openBreaker
  · exact g.requestTest
  · exact g.lower

theorem seqReported (h : Act.Settles e a0 a) : Act.Settles e a0 (a.seqReported e) := h.recomputeProfile.iceDue.evalDue

theorem setCopy {n : Option HeldNotice} (h : Act.Settles e a0 a) : Act.Settles e a0 (a.setCopy e n) :=
  (h.seqTo (q := { a.seq with notice := n }) rfl).seqReported

theorem leaveState (h : Act.Settles e a0 a) : Act.Settles e a0 (a.leaveState e) := by
  unfold Act.leaveState
  split
  · refine (h.seqTo ?_).withdrawRequest
    rfl
  · exact h.seqTo rfl
  · exact h

theorem goTo {st : SeqState} (h : Act.Settles e a0 a) : Act.Settles e a0 (a.goTo st) := h.seqTo rfl

theorem enter {st : SeqState} {n : Nat} {entry : Act → Act}
    (k : ∀ b, Act.Settles e a0 b → Act.Settles e a0 (entry b)) (h : Act.Settles e a0 a) :
    Act.Settles e a0 (a.enter e st n entry) := (k _ h.leaveState.goTo).log.seqReported

theorem enterDormant {n : Nat} (h : Act.Settles e a0 a) : Act.Settles e a0 (a.enterDormant e n) :=
  h.enter fun b k => by
    refine k.withdrawRequest.openBreaker.openIsolator.openIsolator.lower.lower.clearMark.seqTo ?_
    rfl

theorem enterHeld {r : HeldReason} (h : Act.Settles e a0 a) : Act.Settles e a0 (a.enterHeld e r) :=
  h.enter fun b k => by
    refine (k.withdrawRequest.openBreaker.clearMark.seqTo ?_).alert
    rfl

theorem enterPrepare (h : Act.Settles e a0 a) : Act.Settles e a0 (a.enterPrepare e) :=
  h.enter fun b k => (k.seqTo (q := { b.seq with testCount := 0 }) rfl).ask.ask.ask

theorem enterConnecting (h : Act.Settles e a0 a) : Act.Settles e a0 (a.enterConnecting e) :=
  h.enter fun b k => by
    split
    · exact k.ask
    · exact k

theorem enterClosing (h : Act.Settles e a0 a) : Act.Settles e a0 (a.enterClosing e) := h.enter fun _ k => k.ask

theorem enterRunning (h : Act.Settles e a0 a) : Act.Settles e a0 (a.enterRunning e) := h.enter fun _ k => k.seqTo rfl

theorem setCollector {i : Option Slot} (h : Act.Settles e a0 a) : Act.Settles e a0 (a.setCollector i) := h.seqTo rfl

theorem requestCollector (h : Act.Settles e a0 a) : Act.Settles e a0 (a.requestCollector e) := by
  unfold Act.requestCollector
  split
  · exact h.placeRequest
  · exact h.withdrawRequest

theorem enterRaising (h : Act.Settles e a0 a) : Act.Settles e a0 (a.enterRaising e) := by
  have g : Act.Settles e a0 (a.enter e .raising 0 fun a =>
      let a := a.setSeq { a.seq with collector := a.chooseCollector e, powerlessTimer := some 10000 }
      if a.collectingNow a.seq.collector then a else a.requestCollector e) :=
    h.enter fun b k => by
      have m := k.seqTo (q := { b.seq with collector := b.chooseCollector e, powerlessTimer := some 10000 }) rfl
      dsimp only
      split
      · exact m
      · exact m.requestCollector
  unfold Act.enterRaising
  simp only
  split
  · exact g.enterConnecting
  · exact g

theorem rechoose {b : Bool} (h : Act.Settles e a0 a) : Act.Settles e a0 (a.rechoose e b) := by
  unfold Act.rechoose
  simp only
  split
  · exact h.setCollector.enterConnecting
  · split
    · exact h
    · exact h.setCollector.requestCollector

theorem enterReselect {y : Supply} (h : Act.Settles e a0 a) : Act.Settles e a0 (a.enterReselect e y) := by
  unfold Act.enterReselect
  simp only
  split
  · refine Act.Settles.enterPrepare (h.enter fun b k => ?_)
    have m := k.seqTo (q := { b.seq with reselectUsed := true, target := some y }) rfl
    split
    · exact m
    · split
      · exact m.ask
      · exact m.ask.lower.setCollector
  · refine h.enter fun b k => ?_
    have m := k.seqTo (q := { b.seq with reselectUsed := true, target := some y }) rfl
    split
    · exact m
    · split
      · exact m.ask
      · exact m.ask.lower.setCollector

theorem closeFor {y : Supply} (h : Act.Settles e a0 a) : Act.Settles e a0 (a.closeFor e y) := by
  unfold Act.closeFor
  simp only
  split
  · split
    · exact h.enterClosing
    · exact h.log.enterClosing
  · exact h.enterClosing

theorem sense (h : Act.Settles e a0 a) : Act.Settles e a0 (a.sense e) := by
  unfold Act.sense
  split
  · exact h
  · exact h.enterHeld
  · split
    · split
      · exact h
      · exact h.closeFor
    · split
      · exact h.enterHeld
      · exact h.enterReselect

theorem noSupplyTimed (h : Act.Settles e a0 a) : Act.Settles e a0 (a.noSupplyTimed e) := h.seqTo rfl

theorem enterSensing (h : Act.Settles e a0 a) : Act.Settles e a0 (a.enterSensing e) :=
  Act.Settles.sense (h.enter fun _ k => k.noSupplyTimed)

theorem gapWait (h : Act.Settles e a0 a) : Act.Settles e a0 (a.gapWait e) := by
  unfold Act.gapWait
  split
  · split
    · split
      · exact h.enterConnecting
      · exact h.enterRaising
    · exact h
  · exact h.enterRaising

theorem enterGapWaiting (h : Act.Settles e a0 a) : Act.Settles e a0 (a.enterGapWaiting e) :=
  Act.Settles.gapWait (h.enter fun _ k => k)

theorem askTest (h : Act.Settles e a0 a) : Act.Settles e a0 (a.askTest e) :=
  (h.seqTo (q := { a.seq with testCount := a.seq.testCount + 1 }) rfl).ask

theorem enterGap (h : Act.Settles e a0 a) : Act.Settles e a0 (a.enterGap e) := by
  unfold Act.enterGap
  split
  · split
    · rename_i y _ _
      split
      · exact h.enterGapWaiting
      · refine h.enter fun b k => ?_
        exact (k.seqTo (q := { b.seq with target := some y, testCount := 0 }) rfl).askTest
    · exact h.enterGapWaiting
  · exact h.enterGapWaiting

theorem enterLowering (h : Act.Settles e a0 a) : Act.Settles e a0 (a.enterLowering e) := by
  have g (down : List Slot) : Act.Settles e a0 (a.enter e .lowering 0 fun a =>
      down.foldl (fun a i => a.ask e (.lower i)) a) :=
    h.enter fun _ k => foldl (fun _ _ m => m.ask) _ k
  unfold Act.enterLowering
  dsimp only
  split <;> split <;> first
    | exact (g _).enterGap
    | exact g _

theorem isolated (h : Act.Settles e a0 a) : Act.Settles e a0 (a.isolated e) := by
  unfold Act.isolated
  split
  · split
    · exact h.enterLowering
    · exact h.enterGap
  · exact h.enterGap

theorem enterIsolating (h : Act.Settles e a0 a) : Act.Settles e a0 (a.enterIsolating e) := by
  have g : Act.Settles e a0 (a.enter e .isolating 0 fun a =>
      match a.seq.collector with
      | some i => a.ask e (.openIsolator i)
      | none => a) := h.enter fun b k => by
    split
    · exact k.ask
    · exact k
  unfold Act.enterIsolating
  simp only
  split
  · exact g.isolated
  · exact g

theorem coastWait (h : Act.Settles e a0 a) : Act.Settles e a0 (a.coastWait e) := by
  unfold Act.coastWait
  split
  · split
    · split
      · exact h.enterSensing
      · exact h.enterConnecting
    · exact h
  · exact h

theorem enterCoasting (h : Act.Settles e a0 a) : Act.Settles e a0 (a.enterCoasting e) :=
  Act.Settles.coastWait (h.enter fun _ k => k)

theorem opened (h : Act.Settles e a0 a) : Act.Settles e a0 (a.opened e) := by
  unfold Act.opened
  split
  · split
    · exact h.enterCoasting
    · exact h.enterIsolating
  · exact h.enterIsolating

theorem enterOpening {id : Byte} (h : Act.Settles e a0 a) : Act.Settles e a0 (a.enterOpening e id) := by
  have g : Act.Settles e a0 (a.enter e .opening 0 fun a =>
      let a := a.setSeq { a.seq with reselectUsed := false }
      let (copy, a) := a.markNotice id
      let a := match copy with
        | some c => a.setSeq { a.seq with notice := some c }
        | none => a
      a.ask e .openBreaker) := h.enter fun b k => by
    have m := (k.seqTo (q := { b.seq with reselectUsed := false }) rfl).markNotice (id := id)
    dsimp only
    split
    · refine (m.seqTo ?_).ask
      rfl
    · exact m.ask
  unfold Act.enterOpening
  simp only
  split
  · exact g
  · split
    · split
      · exact g.enterSensing
      · exact g.enterRaising
    · exact g.enterRaising

theorem testOpenPoint (h : Act.Settles e a0 a) : Act.Settles e a0 (a.testOpenPoint e) := by
  unfold Act.testOpenPoint
  split
  · exact h
  · split
    · split <;> first
        | exact h.enterOpening
        | exact foldl (fun _ _ m => m.lower) _ h
        | exact h
    · exact h

theorem positionsMoved (h : Act.Settles e a0 a) : Act.Settles e a0 (a.positionsMoved e) := by
  unfold Act.positionsMoved
  split
  · exact h.coastWait
  · exact h.gapWait
  · exact h.testOpenPoint

theorem leaveDormant (h : Act.Settles e a0 a) : Act.Settles e a0 (a.leaveDormant e) := by
  unfold Act.leaveDormant
  split
  · split
    · refine (h.seqTo ?_).enterPrepare
      rfl
    · exact h
  · exact h

theorem goDormant {r : Report} (h : Act.Settles e a0 a) : Act.Settles e a0 (a.goDormant e r) := by
  unfold Act.goDormant
  simp only
  split
  · exact h
  · exact h.enterDormant

theorem testAnswered {r : TestResult} {pass : Act → Act} (k : ∀ b, Act.Settles e a0 b → Act.Settles e a0 (pass b))
    (h : Act.Settles e a0 a) : Act.Settles e a0 (a.testAnswered e r pass) := by
  unfold Act.testAnswered
  split
  · exact k _ h
  · split
    · exact h.seqTo rfl
    · exact h.enterHeld
  · exact h.alert.enterHeld
  · exact h.alert.enterHeld
  · exact h.alert.enterHeld
  · exact h

theorem askMove (h : Act.Settles e a0 a) : Act.Settles e a0 (a.askMove e) := by
  unfold Act.askMove
  split
  · exact h.ask
  · exact h

theorem selected (h : Act.Settles e a0 a) : Act.Settles e a0 (a.selected e) := by
  unfold Act.selected
  simp only
  split
  · exact h.setCollector.enterConnecting
  · exact h.enterRaising

theorem seqRefused {q : Request} (h : Act.Settles e a0 a) : Act.Settles e a0 (a.seqRefused e q) := by
  unfold Act.seqRefused
  split
  iterate 3
    · split
      · exact h.enterHeld
      · exact h.seqTo rfl
  all_goals exact h

theorem seqDone {q : Request} {ans : Answer} (h : Act.Settles e a0 a) : Act.Settles e a0 (a.seqDone e q ans) := by
  unfold Act.seqDone
  split
  · split
    · exact h.goTo.askTest
    · exact h
  · exact h.testAnswered fun _ k => k.goTo.askMove
  · exact h.testAnswered fun _ k => k.goTo.askMove
  · exact h.selected
  · exact h.goTo.gapWait
  · exact h.enterSensing
  · exact h.enterPrepare
  · exact h.enterRunning
  · exact h.opened
  · exact h.isolated
  · split
    · exact h.enterGap
    · exact h
  · exact h

theorem seqAnswered {n : Nat} {q : Request} {ans : Answer} (h : Act.Settles e a0 a) :
    Act.Settles e a0 (a.seqAnswered e n q ans) := by
  unfold Act.seqAnswered
  split
  · have g := h.seqTo (q := { a.seq with awaiting := a.seq.awaiting.filter fun x => x ≠ q }) rfl
    simp only
    split
    · exact g.seqRefused
    · exact g.seqDone
  · exact h

theorem seqFault {r : HeldReason} (h : Act.Settles e a0 a) : Act.Settles e a0 (a.seqFault e r) := by
  unfold Act.seqFault
  split
  · exact h
  · exact h
  · exact h.enterHeld

theorem seqTrip (h : Act.Settles e a0 a) : Act.Settles e a0 (a.seqTrip e) := by
  unfold Act.seqTrip
  split
  · refine (h.seqTo ?_).enterSensing
    rfl
  · exact h

theorem seqConfirmed (h : Act.Settles e a0 a) : Act.Settles e a0 (a.seqConfirmed e) := by
  unfold Act.seqConfirmed
  split
  · refine (h.seqTo ?_).enterSensing
    rfl
  · exact h.enterSensing
  · exact h.noSupplyTimed.sense
  · exact h

theorem seqRechoice (h : Act.Settles e a0 a) : Act.Settles e a0 (a.seqRechoice e) := by
  unfold Act.seqRechoice
  split
  · split
    · exact h
    · exact h.rechoose
  · exact h

theorem collectorLost (h : Act.Settles e a0 a) : Act.Settles e a0 (a.collectorLost e) := by
  unfold Act.collectorLost
  split <;> first
    | exact (h.seqTo (q := { a.seq with tripMarker := false, recloseHold := none }) rfl).enterRaising
    | exact h.enterGapWaiting
    | exact h

theorem seqSlotChanged {i : Slot} (h : Act.Settles e a0 a) : Act.Settles e a0 (a.seqSlotChanged e i) := by
  unfold Act.seqSlotChanged
  simp only
  split
  · exact h.collectorLost.leaveDormant.seqRechoice.testOpenPoint
  · exact h.leaveDormant.seqRechoice.testOpenPoint

theorem seqOutcome {o : Outcome} (h : Act.Settles e a0 a) : Act.Settles e a0 (a.seqOutcome e o) := by
  unfold Act.seqOutcome
  split
  · exact h.seqTo rfl
  · exact h.seqTo rfl
  · split
    · refine (h.seqTo ?_).enterConnecting
      rfl
    · exact h
  · split
    · refine (h.seqTo ?_).rechoose
      rfl
    · exact h
  · exact h

theorem seqRetired (h : Act.Settles e a0 a) : Act.Settles e a0 (a.seqRetired e) := by
  unfold Act.seqRetired
  split
  · exact h
  · exact h.setCopy.seqRechoice

theorem seqFlushed (h : Act.Settles e a0 a) : Act.Settles e a0 (a.seqFlushed e) := by
  unfold Act.seqFlushed
  split
  · exact h.enterHeld
  · exact h.setCopy.seqRechoice

/-! ### Start-up Controller -/

theorem modeMuted (k : a.startup.mode = .muting) (d : ∀ i, (a.slots.get i).restsDown = true) (h : Act.Settles e a0 a) :
    Act.Settles e a0 (a.setMode e .muted) := by
  have g := h.startupTo (x := { a.startup with mode := .muted }) ⟨rfl, rfl, rfl, rfl, rfl, .inr ⟨k, rfl⟩⟩
    fun _ => .inr d
  exact g.log.push.evalDue.bidsEnd

theorem pendingClose {b : Bool} (h : Act.Settles e a0 a) :
    Act.Settles e a0 (a.setStartup { a.startup with pendingClose := b }) :=
  h.startupTo ⟨rfl, rfl, rfl, rfl, rfl, .inl rfl⟩ .inl

theorem mutedTest (h : Act.Settles e a0 a) : Act.Settles e a0 (a.mutedTest e) := by
  unfold Act.mutedTest
  split
  · rename_i k
    have d : ∀ i, (a.slots.get i).restsDown = true := fun i => by cases i <;> [exact k.2.1; exact k.2.2]
    have g := (h.modeMuted (e := e) k.1 d).offerStateRoof (e := e) (r := .final)
    split <;> (rename_i heq; rw [heq] at g)
    · exact g.pendingClose
    · exact g.closeGate
  · exact h

theorem finalLeft (h : Act.Settles e a0 a) : Act.Settles e a0 a.finalLeft := by
  unfold Act.finalLeft
  split
  · exact h.pendingClose.closeGate
  · exact h

theorem muteSlots (h : Act.Settles e a0 a) : Act.Settles e a0 (a.muteSlots e) := h.lower.lower.mutedTest

/-! ### The end of the event -/

theorem handle {r : Report} (h : Act.Settles e a0 a) : Act.Settles e a0 (a.handle e r) := by
  unfold Act.handle
  split
  · exact h.seqAnswered
  · split
    · exact h.isolatorOpenedForLift
    · exact h
  · exact h
  · exact h
  · exact h
  · exact h
  · exact h.bidRaiseAnswered
  · exact h.bidTxAnswered
  · exact h.finalLeft
  · exact h.seqOutcome
  · exact h.iceDue
  · exact h.seqSlotChanged.mutedTest
  · exact h.leaveDormant.seqRechoice
  · exact h.seqFault
  · exact h.seqFault
  · exact h.seqFault
  · exact h
  · exact h.seqFault
  · exact h.seqTrip
  · exact h.leaveDormant
  · exact h.seqConfirmed
  · exact h.leaveDormant.seqRechoice
  · exact h.goDormant.leaveDormant
  · exact h.goDormant
  · exact h.goDormant.leaveDormant
  · exact h.goDormant.muteSlots
  · exact h.goDormant
  · exact h.iceNotices.testOpenPoint
  · exact h.seqRetired
  · exact h.seqFlushed
  · exact h.positionsMoved
  · exact h.testOpenPoint

theorem settleOnce {b : Act} (k : a.settleOnce e = some b) (h : Act.Settles e a0 a) : Act.Settles e a0 b := by
  unfold Act.settleOnce at k
  split at k
  · cases k
    exact h.inbox.handle
  · split at k
    · cases k
      exact h.reviewIce
    · split at k
      · cases k
        exact h.evaluate
      · cases k

theorem settle (n : Nat) (h : Act.Settles e a0 a) : Act.Settles e a0 (Act.settle e n a) := by
  induction n generalizing a with
  | zero => exact h
  | succ n ih =>
    unfold Act.settle
    split
    · exact ih (h.settleOnce (by assumption))
    · exact h

end Act.Settles

/-- What the end of an event does: the blocks settle, and their records join the ring; nothing else of the part changes. -/
theorem State.finish_settles (s : State) : ∃ b, Act.Settles s.env s.act b ∧ s.finish =
    { s with act := { b with logs := [] }, ring := s.ring.writeAll s.env.now b.logs } :=
  ⟨_, (Act.Settles.refl s.act).settle settleFuel, rfl⟩

/-- Where no report is on its way and no review is due, an event ends with its records' joining the ring. -/
theorem State.finish_of_quiet {s : State} (h : s.act.inbox = Inbox.empty) : s.finish =
    { s with act := { s.act with logs := [] }, ring := s.ring.writeAll s.env.now s.act.logs } := by
  have k : s.act.settle s.env settleFuel = s.act := by
    unfold settleFuel Act.settle Act.settleOnce
    rw [h]
    rfl
  unfold State.finish
  simp only [k]

end Sys2Proof.Machine
end

