-- ==== Sys2Proof/Laws/Classifier.lean ====
section
/-! SUPPORT. The Line Classifier: its operations keep the ranges of its registers, and what a concluded window leaves. -/

namespace Sys2Proof.Machine

theorem bump_le (top x : Nat) : bump top x ≤ top := Nat.min_le_left _ _

/-- R10: a measured class. -/
theorem classify_measured (m : Int) (rms z : Nat) : measuredClass (classify m rms z) = true := by
  unfold classify
  simp only
  split
  · rfl
  · split
    · rfl
    · split
      · rfl
      · split
        · rfl
        · split
          · rfl
          · split <;> rfl

/-- R12: a run of a measured class has a length of 1 to 4 and the window's class. -/
theorem extendRun_range (k : WindowClass) (r : Option (WindowClass × Nat)) :
    (extendRun k r).1 = k ∧ 1 ≤ (extendRun k r).2 ∧ (extendRun k r).2 ≤ 4 := by
  unfold extendRun
  split
  · simp
  · split
    · exact ⟨rfl, by simp [bump], bump_le _ _⟩
    · simp

/-- R4: the value of a sample. -/
theorem sampleValue_range (code : BitVec 16) : -32767 ≤ sampleValue code ∧ sampleValue code ≤ 32767 := by
  have h1 := BitVec.le_toInt code
  have h2 := BitVec.toInt_lt (x := code)
  unfold sampleValue
  split <;> omega

theorem square_range {x : Int} (l : -32767 ≤ x) (u : x ≤ 32767) : (x * x).toNat ≤ 1073676289 := by
  have : x * x ≤ 1073676289 := by nlinarith
  omega

/-- The registers of a window in progress or full, with the run record's ranges: `Classifier.Inv` but for the count's upper
bound. -/
structure Classifier.Ranges (c : Classifier) : Prop where
  sum : c.sum.natAbs ≤ c.count * 32767
  squares : c.squares ≤ c.count * 1073676289
  crossings : 2 * c.crossings + flag c.armed ≤ c.count + 1
  voids : c.voids ≤ 3
  run : ∀ k n, c.run = some (k, n) → measuredClass k = true ∧ 1 ≤ n ∧ n ≤ 4
  badSamples : c.badSamples ≤ 65535
  maskedSurges : c.maskedSurges ≤ 65535
  timers : c.lossTimer.isSome = !c.silenceTimer.isSome

theorem Classifier.Inv.ranges {c : Classifier} (h : c.Inv) : c.Ranges :=
  ⟨h.sum, h.squares, h.crossings, h.voids, h.run, h.badSamples, h.maskedSurges, h.timers⟩

theorem Classifier.Ranges.inv {c : Classifier} (h : c.Ranges) (n : c.count < 960) : c.Inv :=
  ⟨n, h.sum, h.squares, h.crossings, h.voids, h.run, h.badSamples, h.maskedSurges, h.timers⟩

theorem Classifier.sample_ranges {c : Classifier} (h : c.Ranges) (code : BitVec 16) : (c.sample code).Ranges := by
  have ⟨l, u⟩ := sampleValue_range code
  have q := square_range l u
  have s := h.sum
  have e := h.squares
  have z := h.crossings
  refine ⟨?_, ?_, ?_, h.voids, h.run, h.badSamples, h.maskedSurges, h.timers⟩
  · simp only [Classifier.sample]
    omega
  · simp only [Classifier.sample]
    omega
  · simp only [Classifier.sample]
    clear s e q
    cases a : c.armed
    · simp only [a, flag, Bool.false_and, Bool.false_eq_true, if_false] at z ⊢
      split_ifs <;> omega
    · simp only [a, flag, Bool.true_and, decide_eq_true_eq, if_true] at z ⊢
      split_ifs <;> simp_all <;> omega

theorem Classifier.openWindow_ranges {c : Classifier} (h : c.Ranges) : c.openWindow.Ranges := by
  refine ⟨by simp [Classifier.openWindow], by simp [Classifier.openWindow], ?_, h.voids, h.run, h.badSamples,
    h.maskedSurges, h.timers⟩
  cases k : c.armed <;> simp [Classifier.openWindow, k, flag]

theorem Classifier.reportSurge_ranges {c : Classifier} (h : c.Ranges) (k : WindowClass) : (c.reportSurge k).1.Ranges := by
  unfold Classifier.reportSurge
  split
  · exact h
  · split
    · exact ⟨h.sum, h.squares, h.crossings, h.voids, h.run, h.badSamples, Nat.zero_le _, h.timers⟩
    · exact ⟨h.sum, h.squares, h.crossings, h.voids, h.run, h.badSamples, bump_le _ _, h.timers⟩

/-- R8, R13: a void window leaves the ranges, and an opened window behind it. -/
theorem Classifier.concludeVoid_ranges {c : Classifier} (h : c.Ranges) (k : WindowClass) :
    (c.concludeVoid k).1.Ranges ∧ (c.concludeVoid k).1.count = 0 := by
  have s := Classifier.reportSurge_ranges h k
  unfold Classifier.concludeVoid
  refine ⟨Classifier.openWindow_ranges ?_, rfl⟩
  exact ⟨s.sum, s.squares, s.crossings, bump_le _ _, s.run, s.badSamples, s.maskedSurges, s.timers⟩

/-- R8 to R15: so does a measured window. -/
theorem Classifier.concludeMeasured_ranges {c : Classifier} (h : c.Ranges) :
    c.concludeMeasured.1.Ranges ∧ c.concludeMeasured.1.count = 0 := by
  unfold Classifier.concludeMeasured
  refine ⟨Classifier.openWindow_ranges ?_, rfl⟩
  have s := Classifier.reportSurge_ranges h (classify (windowMean c.sum) (windowRms c.sum c.squares) c.crossings)
  refine ⟨s.sum, s.squares, s.crossings, Nat.zero_le _, fun k n e => ?_, s.badSamples, s.maskedSurges, s.timers⟩
  have r := extendRun_range (classify (windowMean c.sum) (windowRms c.sum c.squares) c.crossings)
    (c.reportSurge (classify (windowMean c.sum) (windowRms c.sum c.squares) c.crossings)).1.run
  rw [Option.some.inj e] at r
  exact ⟨by rw [show k = _ from r.1]; exact classify_measured _ _ _, r.2.1, r.2.2⟩

/-- R2: a sample frame keeps the ranges. -/
theorem Classifier.arrive_inv {c : Classifier} (h : c.Inv) (code : BitVec 16) (parity : Bool) :
    (c.arrive code parity).1.Inv := by
  unfold Classifier.arrive
  split
  · have r : ({ c with lossTimer := some 2, silenceTimer := none }.sample code).Ranges :=
      Classifier.sample_ranges (c := { c with lossTimer := some 2, silenceTimer := none })
        ⟨h.sum, h.squares, h.crossings, h.voids, h.run, h.badSamples, h.maskedSurges, rfl⟩ code
    simp only
    split
    · rename_i n
      exact r.inv n
    · split
      · exact (Classifier.concludeVoid_ranges r .clipped).1.inv
          (by rw [(Classifier.concludeVoid_ranges r .clipped).2]; decide)
      · exact (Classifier.concludeMeasured_ranges r).1.inv
          (by rw [(Classifier.concludeMeasured_ranges r).2]; decide)
  · exact ⟨h.count, h.sum, h.squares, h.crossings, h.voids, h.run, bump_le _ _, h.maskedSurges, h.timers⟩

/-- R3: the two expiries of a loss keep the ranges. -/
theorem Classifier.lossExpired_inv {c : Classifier} (h : c.Inv) : c.lossExpired.1.Inv := by
  have r : ({ c with lossTimer := none, silenceTimer := some 240 } : Classifier).Ranges :=
    ⟨h.sum, h.squares, h.crossings, h.voids, h.run, h.badSamples, h.maskedSurges, rfl⟩
  exact (Classifier.concludeVoid_ranges r .void).1.inv (by rw [(Classifier.concludeVoid_ranges r .void).2]; decide)

theorem Classifier.silenceExpired_inv {c : Classifier} (h : c.Inv) (t : c.silenceTimer.isSome = true) :
    c.silenceExpired.1.Inv := by
  have k := h.timers
  rw [t] at k
  have r : ({ c with silenceTimer := some 240 } : Classifier).Ranges :=
    ⟨h.sum, h.squares, h.crossings, h.voids, h.run, h.badSamples, h.maskedSurges, k⟩
  exact (Classifier.concludeVoid_ranges r .void).1.inv (by rw [(Classifier.concludeVoid_ranges r .void).2]; decide)

theorem Classifier.maskExpired_inv {c : Classifier} (h : c.Inv) : c.maskExpired.1.Inv :=
  ⟨h.count, h.sum, h.squares, h.crossings, h.voids, h.run, h.badSamples, h.maskedSurges, h.timers⟩

theorem Classifier.elapse_inv {c : Classifier} (h : c.Inv) (n : Nat) : (c.elapse n).Inv :=
  ⟨h.count, h.sum, h.squares, h.crossings, h.voids, h.run, h.badSamples, h.maskedSurges,
    by simpa [Classifier.elapse, Timer.elapse] using h.timers⟩

/-- The classifier's operations in the part write no other part of the environment. -/
theorem State.classifier_env (f : Classifier → Classifier × List ClsRecord) (s : State) :
    (s.classifier f).env = { s.env with cls := (f s.env.cls).1 } := rfl

end Sys2Proof.Machine
end

