-- ==== Sys2Proof/Laws/Sequencer.lean ====
section
/-! SUPPORT. The Roof Sequencer's record and the other blocks: no operation of another block writes it, a request adds itself to the
awaited ones, and the entry of a state leaves it as the entry actions do. -/

namespace Sys2Proof.Machine

/-! ### Switchgear and roof test -/

@[simp] theorem Act.answerAll_seq (w : List Requester) (q : Request) (ans : Answer) (a : Act) :
    (a.answerAll w q ans).seq = a.seq := by
  unfold Act.answerAll
  induction w generalizing a with
  | nil => rfl
  | cons x l ih => rw [List.foldl_cons, ih, Act.push_seq]

@[simp] theorem Act.isolatorIsOpen_seq (i : Slot) (a : Act) : (a.isolatorIsOpen i).seq = a.seq := by
  unfold Act.isolatorIsOpen
  simp

@[simp] theorem Act.driveOpen_seq (e : Env) (i : Slot) (a : Act) : (a.driveOpen e i).seq = a.seq := by
  unfold Act.driveOpen
  simp only
  split <;> simp

@[simp] theorem Act.isolatorBreakerOpened_seq (e : Env) (i : Slot) (a : Act) :
    (a.isolatorBreakerOpened e i).seq = a.seq := by
  unfold Act.isolatorBreakerOpened
  simp only
  split <;> simp

@[simp] theorem Act.breakerReachesOpen_seq (e : Env) (a : Act) : (a.breakerReachesOpen e).seq = a.seq := by
  unfold Act.breakerReachesOpen
  simp

@[simp] theorem Act.openBreaker_seq (e : Env) (w : List Requester) (a : Act) : (a.openBreaker e w).seq = a.seq := by
  unfold Act.openBreaker
  simp only
  repeat' split
  all_goals simp

@[simp] theorem Act.forceOpen_seq (e : Env) (n : Nat) (a : Act) : (a.forceOpen e n).seq = a.seq := by
  unfold Act.forceOpen
  split <;> simp

@[simp] theorem Act.openIsolator_seq (e : Env) (i : Slot) (w : List Requester) (a : Act) :
    (a.openIsolator e i w).seq = a.seq := by
  unfold Act.openIsolator
  simp only
  repeat' split
  all_goals simp

@[simp] theorem Act.closeIsolator_seq (i : Slot) (w : List Requester) (a : Act) : (a.closeIsolator i w).seq = a.seq := by
  unfold Act.closeIsolator
  simp only
  repeat' split
  all_goals simp

@[simp] theorem Act.closeBreaker_seq (e : Env) (w : List Requester) (a : Act) : (a.closeBreaker e w).seq = a.seq := by
  unfold Act.closeBreaker
  simp only
  repeat' split
  all_goals simp

@[simp] theorem Act.travelEnds_seq (y : Supply) (a : Act) : (a.travelEnds y).seq = a.seq := by
  unfold Act.travelEnds
  simp

@[simp] theorem Act.moveSelector_seq (e : Env) (y : Supply) (w : List Requester) (a : Act) :
    (a.moveSelector e y w).seq = a.seq := by
  unfold Act.moveSelector
  simp only
  repeat' split
  all_goals simp

@[simp] theorem Act.finishTest_seq (r : TestResult) (n d : Nat) (w : List Requester) (a : Act) :
    (a.finishTest r n d w).seq = a.seq := by
  unfold Act.finishTest
  simp

@[simp] theorem Act.requestTest_seq (w : List Requester) (a : Act) : (a.requestTest w).seq = a.seq := by
  unfold Act.requestTest
  repeat' split
  all_goals simp

/-! ### Lift Drive -/

@[simp] theorem Act.slotChanged_seq (i : Slot) (a : Act) : (a.slotChanged i).seq = a.seq := by
  unfold Act.slotChanged
  simp

@[simp] theorem Act.recompute_seq (e : Env) (a : Act) : (a.recompute e).seq = a.seq := by
  unfold Act.recompute
  repeat' split
  all_goals rfl

@[simp] theorem Act.updateSlot_seq (i : Slot) (f : SlotRec → SlotRec) (a : Act) : (a.updateSlot i f).seq = a.seq := by
  unfold Act.updateSlot
  simp

@[simp] theorem Act.answerRaise_seq (i : Slot) (ans : Answer) (a : Act) : (a.answerRaise i ans).seq = a.seq := by
  unfold Act.answerRaise
  simp only
  split <;> simp

@[simp] theorem Act.clearDuty_seq (e : Env) (i : Slot) (a : Act) : (a.clearDuty e i).seq = a.seq := by
  unfold Act.clearDuty
  simp only
  split <;> simp

@[simp] theorem Act.answerLower_seq (i : Slot) (ans : Answer) (a : Act) : (a.answerLower i ans).seq = a.seq := by
  unfold Act.answerLower
  simp

@[simp] theorem Act.becomesDown_seq (i : Slot) (a : Act) : (a.becomesDown i).seq = a.seq := by
  unfold Act.becomesDown
  simp

@[simp] theorem Act.vent_seq (e : Env) (i : Slot) (a : Act) : (a.vent e i).seq = a.seq := by
  unfold Act.vent
  simp only
  split <;> simp

@[simp] theorem Act.startDown_seq (e : Env) (i : Slot) (w : List Requester) (a : Act) :
    (a.startDown e i w).seq = a.seq := by
  unfold Act.startDown
  simp only
  split <;> simp

@[simp] theorem Act.lower_seq (e : Env) (i : Slot) (w : List Requester) (a : Act) : (a.lower e i w).seq = a.seq := by
  unfold Act.lower
  simp only
  split <;> simp

/-! ### Transmit lane, Bid Unit, Notice Queue -/

@[simp] theorem Act.offerTail_seq (f : Frame) (r : TxRequester) (a : Act) : (a.offerTail f r).2.seq = a.seq := by
  unfold Act.offerTail
  repeat' split
  all_goals simp

@[simp] theorem Act.alert_seq (c : AlertCode) (i : Option Slot) (a : Act) : (a.alert c i).seq = a.seq := by
  have k := a.offerTail_seq (.alert { code := c, slot := i }) .other
  unfold Act.alert
  simp only
  split <;> (rename_i h; rw [h] at k; exact k)

@[simp] theorem Act.cedeFor_seq (b : HeldBid) (n : Nat) (a : Act) : (a.cedeFor b n).seq = a.seq := by
  unfold Act.cedeFor
  simp only
  repeat' split
  all_goals simp

@[simp] theorem Act.cede_seq (e : Env) (n : Nat) (a : Act) : (a.cede e n).seq = a.seq := by
  unfold Act.cede
  repeat' split
  all_goals simp

@[simp] theorem Act.setRequest_seq (k : BidKind) (r : Option Slot) (a : Act) : (a.setRequest k r).seq = a.seq := by
  unfold Act.setRequest
  split <;> rfl

@[simp] theorem Act.withdrawRequest_seq (e : Env) (k : BidKind) (a : Act) : (a.withdrawRequest e k).seq = a.seq := by
  unfold Act.withdrawRequest
  simp only
  repeat' split
  all_goals simp

@[simp] theorem Act.placeRequest_seq (e : Env) (k : BidKind) (i : Slot) (a : Act) :
    (a.placeRequest e k i).seq = a.seq := by
  unfold Act.placeRequest
  simp only
  repeat' split
  all_goals simp

@[simp] theorem Act.recomputeProfile_seq (e : Env) (a : Act) : (a.recomputeProfile e).seq = a.seq := by
  unfold Act.recomputeProfile
  simp only
  repeat' split
  all_goals simp

@[simp] theorem Act.markNotice_seq (n : Byte) (a : Act) : (a.markNotice n).2.seq = a.seq := by
  unfold Act.markNotice
  repeat' split
  all_goals simp

@[simp] theorem Act.clearMark_seq (a : Act) : a.clearMark.seq = a.seq := by
  unfold Act.clearMark
  repeat' split
  all_goals simp

/-! ### The sequencer's own operations -/

/-- R124: a request awaits its answer, and its block's reaction leaves the sequencer's record as it is. -/
@[simp] theorem Act.ask_seq (e : Env) (q : Request) (a : Act) :
    (a.ask e q).seq = { a.seq with awaiting := a.seq.awaiting ++ [q] } := by
  unfold Act.ask
  simp only
  split <;> simp

@[simp] theorem Act.seqReported_seq (e : Env) (a : Act) : (a.seqReported e).seq = a.seq := by
  unfold Act.seqReported
  simp

/-- R124: the reason that a faulted selector or isolator gives. -/
theorem Act.faultedDevice_spec (a : Act) :
    (a.selector.state = .fault → a.faultedDevice = some .selectorFault)
    ∧ (a.selector.state ≠ .fault → (∃ i, (a.isolators.get i).state = .fault) → a.faultedDevice = some .isolatorFault)
    ∧ (a.selector.state ≠ .fault → (∀ i, (a.isolators.get i).state ≠ .fault) → a.faultedDevice = none) := by
  unfold Act.faultedDevice Act.faultedIsolator
  refine ⟨fun s => if_pos s, fun s h => ?_, fun s h => ?_⟩
  · obtain ⟨i, h⟩ := h
    cases i
    · simp [s, h]
    · by_cases z : (a.isolators.get .zero).state = .fault <;> simp [s, h, z]
  · simp [s, h]

/-- R124: what a refusal of a move or of a close comes to: HELD for the device that cannot act, otherwise the retry. -/
theorem Act.seqRefused_eq {q : Request} (e : Env) (a : Act)
    (h : (∃ y, q = .moveSelector y) ∨ (∃ i, q = .closeIsolator i) ∨ q = .closeBreaker) :
    a.seqRefused e q =
      match a.unableDevice q with
      | some r => a.enterHeld e r
      | none => a.setSeq { a.seq with retryTimer := some 100, retry := some (q, a.seq.visit) } := by
  rcases h with ⟨y, rfl⟩ | ⟨i, rfl⟩ | rfl <;> rfl

/-- R123: what the entry of a state makes of the sequencer's record is what its entry actions make of it. -/
theorem Act.enter_seq (e : Env) (st : SeqState) (why : Nat) (entry : Act → Act) (a : Act) :
    (a.enter e st why entry).seq = (entry ((a.leaveState e).goTo st)).seq := by
  unfold Act.enter
  simp

/-- R129: what leaving a state clears. -/
theorem Act.leaveState_seq (e : Env) (a : Act) :
    (a.leaveState e).seq =
      match a.seq.state with
      | .raising => { a.seq with powerlessTimer := none, powerless := false, committed := false }
      | .sensing => { a.seq with noSupplyTimer := none }
      | _ => a.seq := by
  unfold Act.leaveState
  split <;> simp_all

end Sys2Proof.Machine
end

