-- ==== Sys2Proof/Laws/Dormant.lean ====
section
/-! SUPPORT. The sequencer in DORMANT (R125, R126): the other blocks leave it alone (`Act.Aside`), and while it may not leave, the end
of an event leaves it there. A proof that a loss of permit or mode ends in DORMANT cites `State.finish_dormant`. -/

namespace Sys2Proof.Machine

/-- What another block's operation leaves alone: the sequencer's record (where `keep` asks it), the mode's not being READY, and it
sends the sequencer no REFUSED answer. -/
structure Act.Aside (keep : Prop) (a b : Act) : Prop where
  seq : keep → b.seq = a.seq
  refused : ∀ v q, .answered (.sequencer v) q .refused ∈ b.inbox.reports →
    .answered (.sequencer v) q .refused ∈ a.inbox.reports
  mode : a.startup.mode ≠ .ready → b.startup.mode ≠ .ready

/-- A report that is no REFUSED answer to the sequencer. -/
def Report.Plain (r : Report) : Prop := ∀ v q, r ≠ .answered (.sequencer v) q .refused

namespace Act.Aside

variable {keep : Prop} {a0 a : Act} {e : Env}

theorem refl (a : Act) : Act.Aside keep a a := ⟨fun _ => rfl, fun _ _ => id, id⟩

theorem of_eq {b : Act} (h : Act.Aside keep a0 a) (hs : b.seq = a.seq := by rfl)
    (hr : b.inbox.reports = a.inbox.reports := by rfl) (hm : b.startup.mode = a.startup.mode := by rfl) :
    Act.Aside keep a0 b :=
  ⟨fun k => hs.trans (h.seq k), fun v q m => h.refused v q (hr ▸ m), fun m => hm ▸ h.mode m⟩

/-! ### Single writes -/

theorem log {c : EventCode} {x : Nat} {d : Half} {y : Word} (h : Act.Aside keep a0 a) :
    Act.Aside keep a0 (a.log c x d y) := h.of_eq

theorem evalDue (h : Act.Aside keep a0 a) : Act.Aside keep a0 a.evalDue := h.of_eq

theorem iceDue (h : Act.Aside keep a0 a) : Act.Aside keep a0 a.iceDue := h.of_eq

theorem push {r : Report} (hr : r.Plain := by nofun) (h : Act.Aside keep a0 a) : Act.Aside keep a0 (a.push r) := by
  refine ⟨fun k => (Act.push_seq r a).trans (h.seq k), fun v q m => h.refused v q ?_, fun m => ?_⟩
  · rw [Act.push_inbox] at m
    dsimp only at m
    split at m
    · exact m
    · rcases List.mem_append.mp m with m | m
      · exact m
      · exact absurd (List.mem_singleton.mp m).symm (hr v q)
  · rw [Act.push_startup]
    exact h.mode m

theorem bids {x : BidUnit} (h : Act.Aside keep a0 a) : Act.Aside keep a0 { a with bids := x } := h.of_eq

theorem test {x : RoofTest} (h : Act.Aside keep a0 a) : Act.Aside keep a0 { a with test := x } := h.of_eq

theorem linkTo {x : Link} (h : Act.Aside keep a0 a) : Act.Aside keep a0 { a with link := x } := h.of_eq

theorem iceTo {x : IceUnit} (h : Act.Aside keep a0 a) : Act.Aside keep a0 (a.setIce x) := h.of_eq

theorem noticesTo {x : NoticeQueue} (h : Act.Aside keep a0 a) : Act.Aside keep a0 { a with notices := x } :=
  h.of_eq

theorem breakerTo {x : Breaker} (h : Act.Aside keep a0 a) : Act.Aside keep a0 { a with breaker := x } :=
  h.of_eq

theorem isolatorTo {i : Slot} {x : Isolator} (h : Act.Aside keep a0 a) : Act.Aside keep a0 (a.setIsolator i x) :=
  h.of_eq

theorem slotTo {i : Slot} {x : SlotRec} (h : Act.Aside keep a0 a) : Act.Aside keep a0 (a.setSlot i x) :=
  h.of_eq

theorem pendingClose {b : Bool} (h : Act.Aside keep a0 a) :
    Act.Aside keep a0 (a.setStartup { a.startup with pendingClose := b }) := h.of_eq

/-- The sequencer's own write, where its record need not stay. -/
theorem seqTo {x : Sequencer} (h : Act.Aside False a0 a) : Act.Aside False a0 (a.setSeq x) :=
  ⟨False.elim, h.refused, h.mode⟩

theorem foldl {α : Type} {f : Act → α → Act} (k : ∀ b x, Act.Aside keep a0 b → Act.Aside keep a0 (f b x)) (l : List α)
    (h : Act.Aside keep a0 a) : Act.Aside keep a0 (l.foldl f a) := by
  induction l generalizing a with
  | nil => exact h
  | cons x l ih => exact ih (k a x h)

theorem answerAll {w : List Requester} {q : Request} {ans : Answer} (k : ans ≠ .refused := by nofun)
    (h : Act.Aside keep a0 a) : Act.Aside keep a0 (a.answerAll w q ans) :=
  foldl (fun _ _ h => h.push fun _ _ g => by cases g; exact k rfl) w h

/-! ### The transmit lane -/

theorem answerTx {x : TxEntry} {ans : TxAnswer} (h : Act.Aside keep a0 a) : Act.Aside keep a0 (a.answerTx x ans) := by
  refine foldl (fun b r h => ?_) x.requesters h
  cases r
  · exact h.push
  · exact h.push
  · exact h

theorem offerTail {f : Frame} {r : TxRequester} (h : Act.Aside keep a0 a) : Act.Aside keep a0 (a.offerTail f r).2 := by
  unfold Act.offerTail
  split
  · exact h
  · split
    · exact h.linkTo
    · exact h.log

theorem offerStateRoof {r : TxRequester} (h : Act.Aside keep a0 a) : Act.Aside keep a0 (a.offerStateRoof r e).2 := by
  unfold Act.offerStateRoof
  simp only
  split
  · exact h
  · split
    · exact h.linkTo
    · exact h.offerTail

theorem closeGate (h : Act.Aside keep a0 a) : Act.Aside keep a0 a.closeGate :=
  foldl (fun _ _ h => h.answerTx) _ h.linkTo

/-! ### Switchgear -/

theorem isolatorIsOpen {i : Slot} (h : Act.Aside keep a0 a) : Act.Aside keep a0 (a.isolatorIsOpen i) :=
  h.isolatorTo.answerAll

theorem driveOpen {i : Slot} (h : Act.Aside keep a0 a) : Act.Aside keep a0 (a.driveOpen e i) := by
  unfold Act.driveOpen
  simp only
  split
  · exact h.isolatorTo.isolatorIsOpen
  · exact h.isolatorTo

theorem isolatorBreakerOpened {i : Slot} (h : Act.Aside keep a0 a) : Act.Aside keep a0 (a.isolatorBreakerOpened e i) := by
  unfold Act.isolatorBreakerOpened
  simp only
  split
  · exact h.driveOpen
  · exact h.isolatorTo.answerAll
  · exact h

theorem breakerReachesOpen (h : Act.Aside keep a0 a) : Act.Aside keep a0 (a.breakerReachesOpen e) :=
  h.breakerTo.answerAll.push.isolatorBreakerOpened.isolatorBreakerOpened

theorem openBreaker {w : List Requester} (h : Act.Aside keep a0 a) : Act.Aside keep a0 (a.openBreaker e w) := by
  unfold Act.openBreaker
  simp only
  split
  · exact h.answerAll
  · exact h.answerAll
  · exact h.breakerTo
  all_goals
    split
    · exact h.breakerTo.answerAll
    · exact h.breakerTo.answerAll.breakerReachesOpen

theorem forceOpen {n : Nat} (h : Act.Aside keep a0 a) : Act.Aside keep a0 (a.forceOpen e n) := by
  unfold Act.forceOpen
  split
  · exact h.log.push.openBreaker
  · exact h

theorem openIsolator {i : Slot} {w : List Requester} (h : Act.Aside keep a0 a) :
    Act.Aside keep a0 (a.openIsolator e i w) := by
  unfold Act.openIsolator
  simp only
  split
  · exact h.answerAll
  · exact h.isolatorTo.answerAll.driveOpen
  · split
    · exact h.isolatorTo.driveOpen
    · exact h.isolatorTo.forceOpen
  · exact h.isolatorTo
  · split
    · exact h.answerAll
    · exact h.isolatorTo

/-! ### Lift Drive -/

theorem recompute (h : Act.Aside keep a0 a) : Act.Aside keep a0 (a.recompute e) := by
  unfold Act.recompute
  split
  · exact h.of_eq
  · exact h

theorem updateSlot {i : Slot} {f : SlotRec → SlotRec} (h : Act.Aside keep a0 a) : Act.Aside keep a0 (a.updateSlot i f) :=
  h.slotTo.push.iceDue.evalDue

theorem answerRaise {i : Slot} {ans : Answer} (h : Act.Aside keep a0 a) : Act.Aside keep a0 (a.answerRaise i ans) := by
  unfold Act.answerRaise
  simp only
  split
  · exact h.slotTo.push
  · exact h

theorem clearDuty {i : Slot} (h : Act.Aside keep a0 a) : Act.Aside keep a0 (a.clearDuty e i) := by
  unfold Act.clearDuty
  simp only
  split
  · exact h
  · exact Act.Aside.recompute (h.slotTo.push.iceDue.evalDue)

theorem becomesDown {i : Slot} (h : Act.Aside keep a0 a) : Act.Aside keep a0 (a.becomesDown i) :=
  h.updateSlot.slotTo.answerAll

theorem vent {i : Slot} (h : Act.Aside keep a0 a) : Act.Aside keep a0 (a.vent e i) := by
  unfold Act.vent
  simp only
  split
  · exact h.updateSlot.becomesDown
  · exact h.updateSlot

theorem startDown {i : Slot} {w : List Requester} (h : Act.Aside keep a0 a) : Act.Aside keep a0 (a.startDown e i w) := by
  unfold Act.startDown
  simp only
  split
  · exact h.clearDuty.answerRaise.updateSlot.vent
  · exact h.clearDuty.answerRaise.updateSlot.updateSlot.openIsolator

theorem lower {i : Slot} {w : List Requester} (h : Act.Aside keep a0 a) : Act.Aside keep a0 (a.lower e i w) := by
  unfold Act.lower
  simp only
  split
  · exact h.answerAll
  · exact h.answerAll
  · exact h.slotTo
  · exact h.startDown
  · exact h.startDown

theorem isolatorOpenedForLift {i : Slot} (h : Act.Aside keep a0 a) : Act.Aside keep a0 (a.isolatorOpenedForLift e i) := by
  unfold Act.isolatorOpenedForLift
  split
  · exact h.vent
  · exact h

/-! ### Bid Unit -/

theorem recomputeProfile (h : Act.Aside keep a0 a) : Act.Aside keep a0 (a.recomputeProfile e) := by
  unfold Act.recomputeProfile
  simp only
  split
  · exact h
  · split
    · exact h.bids.log.recompute.push.iceDue.evalDue
    · exact h.bids.log.push.iceDue.evalDue

theorem cedeFor {b : HeldBid} {n : Nat} (h : Act.Aside keep a0 a) : Act.Aside keep a0 (a.cedeFor b n) := by
  unfold Act.cedeFor
  simp only
  cases b.phase with
  | offered =>
    simp only
    split
    · exact h.linkTo.bids.log.push.evalDue
    · exact h.bids.bids.log.push.evalDue
  | window => exact h.offerTail.bids.log.push.evalDue
  | committed => exact h.offerTail.bids.log.push.evalDue

theorem cede {n : Nat} (h : Act.Aside keep a0 a) : Act.Aside keep a0 (a.cede e n) := by
  unfold Act.cede
  split
  · split
    · exact h.cedeFor
    · exact h
  · exact h

theorem setRequest {k : BidKind} {r : Option Slot} (h : Act.Aside keep a0 a) : Act.Aside keep a0 (a.setRequest k r) := by
  cases k <;> exact h.bids

theorem withdrawRequest {k : BidKind} (h : Act.Aside keep a0 a) : Act.Aside keep a0 (a.withdrawRequest e k) := by
  unfold Act.withdrawRequest
  simp only
  split
  · exact h.setRequest.evalDue.cede
  · exact h.setRequest.evalDue

theorem placeRequest {k : BidKind} {i : Slot} (h : Act.Aside keep a0 a) : Act.Aside keep a0 (a.placeRequest e k i) := by
  unfold Act.placeRequest
  simp only
  split
  · split
    · exact h.setRequest.evalDue.cede
    · exact h.setRequest.evalDue
  · exact h.setRequest.evalDue

theorem openBid {k : BidKind} {i : Slot} (h : Act.Aside keep a0 a) : Act.Aside keep a0 (a.openBid e k i) := by
  unfold Act.openBid
  simp only
  split <;>
    (rename_i heq
     have g := congrArg Prod.snd heq
     have m := h.offerTail
       (f := .bid { kind := k, slot := i, dfront := n16 (a.dfront e i), number := n8 a.bids.nextNumber })
       (r := .bid a.bids.nextNumber)
     rw [g] at m)
  · exact m.bids.log.push
  · exact m.push

theorem tryRequest {k : BidKind} (h : Act.Aside keep a0 a) : Act.Aside keep a0 (a.tryRequest e k) := by
  unfold Act.tryRequest
  split
  · split
    · exact h.openBid
    · exact h
  · exact h

theorem bidTxAnswered {n : Nat} {ans : TxAnswer} (h : Act.Aside keep a0 a) :
    Act.Aside keep a0 (a.bidTxAnswered n ans) := by
  unfold Act.bidTxAnswered
  simp only
  split
  · exact h.bids
  · split
    · exact h.bids.offerTail
    · exact h
  · exact h.bids.push
  · exact h.bids.push
  · split
    · exact h.bids
    · exact h
  · split
    · exact h.bids
    · exact h
  · exact h

theorem bidRaiseAnswered {i : Slot} {ans : Answer} (h : Act.Aside keep a0 a) :
    Act.Aside keep a0 (a.bidRaiseAnswered i ans) := by
  unfold Act.bidRaiseAnswered
  split
  · split
    · exact h.bids.push
    · exact h
  · exact h

theorem retract {i : Slot} {n : Nat} {w : Requester} (h : Act.Aside keep a0 a) :
    Act.Aside keep a0 (a.retract e i n w) := h.lower.log

theorem settleDuty {d : Duty} {f : Act → Profile → Placed → Option Nat} (h : Act.Aside keep a0 a) :
    Act.Aside keep a0 (a.settleDuty e d f) := by
  refine foldl (fun b x k => ?_) _ h
  split
  · exact k
  · split
    · exact k.retract
    · exact k

theorem evaluate (h : Act.Aside keep a0 a) : Act.Aside keep a0 (a.evaluate e) := by
  have g : Act.Aside keep a0 (Act.recomputeProfile e { a with inbox := { a.inbox with evalDue := false } }) :=
    (h.of_eq).recomputeProfile
  unfold Act.evaluate
  simp only
  split
  · split
    · split
      · exact g.cedeFor.settleDuty.settleDuty.tryRequest.tryRequest
      · exact g.settleDuty.settleDuty.tryRequest.tryRequest
    · exact g.settleDuty.settleDuty.tryRequest.tryRequest
  · exact g.settleDuty.settleDuty.tryRequest.tryRequest

theorem bidsEnd (h : Act.Aside keep a0 a) : Act.Aside keep a0 (a.bidsEnd e) := by
  unfold Act.bidsEnd
  split
  · split
    · exact h.cede
    · exact h.bids.push
  · exact h

/-! ### Notices and Ice Unit -/

theorem clearMark (h : Act.Aside keep a0 a) : Act.Aside keep a0 a.clearMark := by
  unfold Act.clearMark
  split
  · exact h
  · exact h.noticesTo.push

theorem retractScrapers {f : Slot → Act → Bool} {n : Nat} (h : Act.Aside keep a0 a) :
    Act.Aside keep a0 (a.retractScrapers e f n) := by
  have one (i : Slot) {b : Act} (k : Act.Aside keep a0 b) : Act.Aside keep a0
      (if (b.slots.get i).duty = .scrape ∧ f i b then b.retract e i n .iceUnit else b) := by
    split
    · exact k.retract
    · exact k
  exact one .one (one .zero h)

theorem setPointFlags (h : Act.Aside keep a0 a) : Act.Aside keep a0 (a.setPointFlags e) := by
  unfold Act.setPointFlags
  split
  · exact h
  · exact h.of_eq

theorem iceNotices (h : Act.Aside keep a0 a) : Act.Aside keep a0 (a.iceNotices e) := h.setPointFlags.retractScrapers.iceDue

theorem reheat (h : Act.Aside keep a0 a) : Act.Aside keep a0 (a.reheat e) := by
  unfold Act.reheat
  simp only
  split
  · exact h.iceTo
  · exact h.iceTo.log

theorem recandidate (h : Act.Aside keep a0 a) : Act.Aside keep a0 (a.recandidate e) := by
  unfold Act.recandidate
  simp only
  split
  · exact h
  · exact h.iceTo.log.evalDue

theorem rerequest (h : Act.Aside keep a0 a) : Act.Aside keep a0 (a.rerequest e) := by
  unfold Act.rerequest
  split
  · split
    · exact h
    · exact h.placeRequest
  · split
    · exact h.withdrawRequest
    · exact h

theorem reviewIce (h : Act.Aside keep a0 a) : Act.Aside keep a0 (a.reviewIce e) :=
  (h.of_eq).reheat.recandidate.rerequest

/-! ### Start-up Controller -/

theorem setMode {m : Mode} (k : m ≠ .ready) (h : Act.Aside keep a0 a) : Act.Aside keep a0 (a.setMode e m) := by
  have g : Act.Aside keep a0 (a.setStartup { a.startup with mode := m }) := ⟨h.seq, h.refused, fun _ => k⟩
  unfold Act.setMode
  simp only [k, if_false]
  exact g.log.push.evalDue.bidsEnd

theorem mutedTest (h : Act.Aside keep a0 a) : Act.Aside keep a0 (a.mutedTest e) := by
  unfold Act.mutedTest
  split
  · have g := (h.setMode (e := e) (m := .muted) nofun).offerStateRoof (e := e) (r := .final)
    split <;> (rename_i heq; rw [heq] at g)
    · exact g.pendingClose
    · exact g.closeGate
  · exact h

theorem finalLeft (h : Act.Aside keep a0 a) : Act.Aside keep a0 a.finalLeft := by
  unfold Act.finalLeft
  split
  · exact h.pendingClose.closeGate
  · exact h

theorem muteSlots (h : Act.Aside keep a0 a) : Act.Aside keep a0 (a.muteSlots e) := h.lower.lower.mutedTest

/-! ### Entering DORMANT -/

theorem enterDormant {n : Nat} (h : Act.Aside False a0 a) : Act.Aside False a0 (a.enterDormant e n) := by
  have leave : Act.Aside False a0 (a.leaveState e) := by
    unfold Act.leaveState
    split
    · exact h.seqTo.withdrawRequest
    · exact h.seqTo
    · exact h
  exact (leave.seqTo.withdrawRequest.openBreaker.openIsolator.openIsolator.lower.lower.clearMark.seqTo).log
    |>.recomputeProfile.iceDue.evalDue

end Act.Aside

/-! ### Staying in DORMANT -/

/-- R126: a condition of leaving DORMANT that no reaction of an event can bring about is missing. -/
def Act.Unfit (e : Env) (a : Act) : Prop := e.pv.permit = false ∨ a.startup.mode ≠ .ready

/-- The sequencer is in DORMANT, may not leave it, and no REFUSED answer to a request of the present stay is on its way. -/
structure Act.Dormant (e : Env) (a : Act) : Prop where
  state : a.seq.state = .dormant
  unfit : a.Unfit e
  refused : ∀ v q, .answered (.sequencer v) q .refused ∈ a.inbox.reports → v ≠ a.seq.visit

theorem Act.Unfit.aside {keep : Prop} {e : Env} {a b : Act} (h : a.Unfit e) (k : Act.Aside keep a b) : b.Unfit e :=
  h.imp id k.mode

theorem Act.Dormant.aside {e : Env} {a b : Act} (h : a.Dormant e) (k : Act.Aside True a b) : b.Dormant e where
  state := by rw [k.seq trivial]; exact h.state
  unfit := h.unfit.aside k
  refused := fun v q m => by rw [k.seq trivial]; exact h.refused v q (k.refused v q m)

/-- R126: while a condition is missing DORMANT is not left. -/
theorem Act.leaveDormant_unfit {e : Env} {a : Act} (h : a.Unfit e) : a.leaveDormant e = a := by
  unfold Act.leaveDormant
  split
  · rcases h with h | h <;> simp [h]
  · rfl

theorem Act.Dormant.leaveDormant {e : Env} {a : Act} (h : a.Dormant e) : a.leaveDormant e = a :=
  Act.leaveDormant_unfit h.unfit

theorem Act.Dormant.goDormant {e : Env} {a : Act} (r : Report) (h : a.Dormant e) : a.goDormant e r = a := by
  unfold Act.goDormant
  simp [h.state]

theorem Act.Dormant.seqRechoice {e : Env} {a : Act} (h : a.Dormant e) : a.seqRechoice e = a := by
  unfold Act.seqRechoice
  rw [h.state]

theorem Act.Dormant.testOpenPoint {e : Env} {a : Act} (h : a.Dormant e) : a.testOpenPoint e = a := by
  unfold Act.testOpenPoint
  rw [h.state]
  split <;> simp

theorem Act.Dormant.seqTo {e : Env} {a : Act} {x : Sequencer} (hs : x.state = .dormant) (hv : x.visit = a.seq.visit)
    (h : a.Dormant e) : (a.setSeq x).Dormant e := ⟨hs, h.unfit, fun v q m => by
  rw [show (a.setSeq x).seq.visit = a.seq.visit from hv]; exact h.refused v q m⟩

/-- A report that is handed on in DORMANT leaves the sequencer there. -/
theorem Act.Dormant.handle {e : Env} {a : Act} {r : Report} (h : a.Dormant e)
    (k : ∀ q, r ≠ .answered (.sequencer a.seq.visit) q .refused) : (a.handle e r).Dormant e := by
  have same : Act.Aside True a a := .refl a
  have cut (n : Option HeldNotice) : ((a.setCopy e n).seqRechoice e).Dormant e := by
    have g : (a.setCopy e n).Dormant e :=
      (h.seqTo (x := { a.seq with notice := n }) h.state rfl).aside
        (Act.Aside.iceDue (Act.Aside.recomputeProfile (Act.Aside.refl _))).evalDue
    rw [g.seqRechoice]
    exact g
  unfold Act.handle
  split
  · rename_i v q ans
    unfold Act.seqAnswered
    split
    · rename_i hv
      have g := h.seqTo (x := { a.seq with awaiting := a.seq.awaiting.filter fun x => x ≠ q }) h.state rfl
      simp only
      split
      · rename_i ha
        exact absurd (by rw [hv, ha]) (k q)
      · unfold Act.seqDone
        rw [g.state]
        exact g
    · exact h
  · split
    · exact h.aside same.isolatorOpenedForLift
    · exact h
  · exact h
  · exact h
  · exact h
  · exact h
  · exact h.aside same.bidRaiseAnswered
  · exact h.aside same.bidTxAnswered
  · exact h.aside same.finalLeft
  · unfold Act.seqOutcome
    rw [h.state]
    exact h
  · exact h.aside same.iceDue
  · rename_i i
    have l : a.collectorLost e = a := by
      unfold Act.collectorLost
      rw [h.state]
    have g : a.seqSlotChanged e i = a := by
      unfold Act.seqSlotChanged
      simp only [l, ite_self, h.leaveDormant, h.seqRechoice, h.testOpenPoint]
    rw [g]
    exact h.aside same.mutedTest
  · rw [h.leaveDormant, h.seqRechoice]
    exact h
  iterate 3
    · unfold Act.seqFault
      rw [h.state]
      exact h
  · exact h
  · unfold Act.seqFault
    rw [h.state]
    exact h
  · unfold Act.seqTrip
    rw [h.state]
    exact h
  · rw [h.leaveDormant]
    exact h
  · unfold Act.seqConfirmed
    rw [h.state]
    exact h
  · rw [h.leaveDormant, h.seqRechoice]
    exact h
  · rw [h.goDormant, h.leaveDormant]
    exact h
  · rw [h.goDormant]
    exact h
  · rw [h.goDormant, h.leaveDormant]
    exact h
  · rw [h.goDormant]
    exact h.aside same.muteSlots
  · rw [h.goDormant]
    exact h
  · have g := h.aside (same.iceNotices (e := e))
    rw [g.testOpenPoint]
    exact g
  · unfold Act.seqRetired SeqState.passing
    rw [h.state]
    exact cut none
  · unfold Act.seqFlushed SeqState.passing
    rw [h.state]
    exact cut none
  · unfold Act.positionsMoved
    rw [h.state]
    simp only
    rw [h.testOpenPoint]
    exact h
  · rw [h.testOpenPoint]
    exact h

/-- The report at the front goes; what is said of those on their way holds of the rest. -/
theorem Act.Dormant.rest {e : Env} {a : Act} {r : Report} {l : List Report} (h : a.Dormant e)
    (k : a.inbox.reports = r :: l) : Act.Dormant e { a with inbox := { a.inbox with reports := l } } :=
  ⟨h.state, h.unfit, fun v q m => h.refused v q (by rw [k]; exact List.mem_cons_of_mem _ m)⟩

theorem Act.Dormant.settle {e : Env} {a : Act} (n : Nat) (h : a.Dormant e) : (Act.settle e n a).Dormant e := by
  induction n generalizing a with
  | zero => exact h
  | succ n ih =>
    unfold Act.settle
    split
    · rename_i b k
      refine ih ?_
      unfold Act.settleOnce at k
      split at k
      · rename_i r l kr
        cases k
        refine (h.rest kr).handle fun q g => ?_
        exact h.refused a.seq.visit q (by rw [kr, ← g]; exact List.mem_cons_self) rfl
      · split at k
        · cases k
          exact h.aside (Act.Aside.refl a).reviewIce
        · split at k
          · cases k
            exact h.aside (Act.Aside.refl a).evaluate
          · cases k
    · exact h

/-- R125: what entry into DORMANT leaves, where no REFUSED answer to the sequencer was on its way. -/
theorem Act.enterDormant_dormant {e : Env} {a : Act} (n : Nat) (u : a.Unfit e)
    (k : ∀ v q, .answered (.sequencer v) q .refused ∉ a.inbox.reports) : (a.enterDormant e n).Dormant e where
  state := by
    unfold Act.enterDormant
    rw [Act.enter_seq]
    simp [Act.goTo, Sequencer.stopTimers]
  unfit := u.aside (Act.Aside.refl (keep := False) a).enterDormant
  refused := fun v q m => absurd ((Act.Aside.refl (keep := False) a).enterDormant.refused v q m) (k v q)

/-- R125: where the oldest report of an event is that of a missing permit, or of a mode other than READY, and no REFUSED answer to
the sequencer is on its way, the event ends in DORMANT. -/
theorem State.finish_dormant {s : State} {r : Report} {l : List Report} (k : s.act.inbox.reports = r :: l)
    (c : r = .permitChanged ∧ s.env.pv.permit = false ∨ r = .modeChanged ∧ s.act.startup.mode ≠ .ready)
    (p : ∀ v q, .answered (.sequencer v) q .refused ∉ l) : s.finish.act.seq.state = .dormant := by
  have u : s.act.Unfit s.env := c.imp And.right And.right
  have go (x : Act) (hx : x = { s.act with inbox := { s.act.inbox with reports := l } }) :
      Act.Dormant s.env (x.goDormant s.env r) := by
    have ux : x.Unfit s.env := by rw [hx]; exact u
    have px : ∀ v q, .answered (.sequencer v) q .refused ∉ x.inbox.reports := by rw [hx]; exact p
    unfold Act.goDormant
    simp only
    have pos : (x.inbox.reports.foldl (fun n y => max n (x.dormantCause s.env y)) (x.dormantCause s.env r)) ≠ 0 := by
      have up (l : List Report) (n : Nat) : n ≤ l.foldl (fun n y => max n (x.dormantCause s.env y)) n := by
        induction l generalizing n with
        | nil => exact Nat.le_refl n
        | cons y l ih => exact Nat.le_trans (Nat.le_max_left _ _) (ih _)
      have := up x.inbox.reports (x.dormantCause s.env r)
      have one : 1 ≤ x.dormantCause s.env r := by
        rcases c with ⟨rfl, c⟩ | ⟨rfl, c⟩ <;> simp [Act.dormantCause, hx, c]
      omega
    split
    · rename_i d
      rcases d with d | d
      · exact ⟨d, ux, fun v q m => absurd m (px v q)⟩
      · exact absurd d pos
    · exact Act.enterDormant_dormant _ ux px
  have first : Act.Dormant s.env (Act.handle s.env r { s.act with inbox := { s.act.inbox with reports := l } }) := by
    have g := go _ rfl
    rcases c with ⟨rfl, c⟩ | ⟨rfl, c⟩
    all_goals
      unfold Act.handle
      rw [g.leaveDormant]
      exact g
  have one : s.act.settleOnce s.env
      = some (Act.handle s.env r { s.act with inbox := { s.act.inbox with reports := l } }) := by
    unfold Act.settleOnce
    rw [k]
  have all : Act.settle s.env settleFuel s.act
      = Act.settle s.env 255 (Act.handle s.env r { s.act with inbox := { s.act.inbox with reports := l } }) := by
    show Act.settle s.env (255 + 1) s.act = _
    rw [Act.settle, one]
  show (Act.settle s.env settleFuel s.act).seq.state = .dormant
  rw [all]
  exact (first.settle 255).state

end Sys2Proof.Machine
end

