-- ==== Sys2Proof/Laws/Effects.lean ====
section
/-! SUPPORT. What the operations that several effects share come to: an offered ALERT (R71), the recomputation of the setpoints (R52)
and of the authority record (R82), in the words of Safety.lean. -/

namespace Sys2Proof.Machine

/-- R51 reads nothing that it writes. -/
theorem SlotRec.compute_compute (y : Supply) (p : Profile) (v ice : Nat) (r : SlotRec) :
    (r.compute y p v ice).compute y p v ice = r.compute y p v ice := rfl

/-- R52. -/
theorem Act.recompute_setpoints (e : Env) (a : Act) : (a.recompute e).SetpointsComputed e := by
  intro y p i hy hp
  have hb : (a.recompute e).bids = a.bids := by unfold Act.recompute; split <;> rfl
  have hi : (a.recompute e).ice = a.ice := by unfold Act.recompute; split <;> rfl
  rw [hi]
  simp only [Act.active, hb] at hy hp
  have hs : (a.recompute e).slots.get i = (a.slots.get i).compute y p (e.pv.geometry.speed / 10) a.ice.level := by
    simp only [Act.recompute, Act.active, hy, show e.profile (some y) = some p by rw [← hy]; exact hp]
    cases i <;> rfl
  rw [hs]
  rfl

/-- R52: while no profile is active nothing is computed. -/
theorem Act.recompute_inactive {e : Env} {a : Act} (h : a.active e = none) : a.recompute e = a := by
  unfold Act.recompute
  split
  · rename_i hp
    exact absurd hp (by rw [h]; nofun)
  · rfl

theorem Act.SetpointsKept.refl (a : Act) : a.SetpointsKept a := fun _ => ⟨rfl, rfl, rfl⟩

theorem Act.SetpointsKept.trans {a b c : Act} (h : a.SetpointsKept b) (k : b.SetpointsKept c) : a.SetpointsKept c :=
  fun i => ⟨(k i).1.trans (h i).1, (k i).2.1.trans (h i).2.1, (k i).2.2.trans (h i).2.2⟩

/-- R59, R71. -/
theorem Act.alert_alerted (c : AlertCode) (i : Option Slot) (a : Act) :
    Link.Alerted { code := c, slot := i } a.link (a.alert c i).link := by
  unfold Link.Alerted Act.alert Act.offerTail
  by_cases g : a.link.gateOpen = true
  · by_cases n : a.link.length < 8
    · rw [if_pos ⟨g, n⟩]
      simp only [g, n, Bool.not_true, Bool.false_eq_true, if_false, if_true, Link.enqueue]
      split
      · exact ⟨trivial, .inl rfl⟩
      · exact ⟨trivial, .inr (List.mem_append_right _ (List.mem_singleton.mpr rfl))⟩
    · rw [if_neg fun h => n h.2]
      simp only [g, n, Bool.not_true, Bool.false_eq_true, if_false, Act.log]
  · rw [if_neg fun h => g h.1]
    simp only [g, Bool.not_false, if_true]

/-- R82: the records of a recomputation. -/
theorem Act.logAuthority_records (old new : PeerView) (a : Act) :
    a.logAuthority old new = { a with logs := a.logs ++ a.authorityRecords old new } := by
  unfold Act.logAuthority Act.authorityRecords
  by_cases h : new.authority = old.authority <;> by_cases k : new.conflict = true ∧ old.conflict = false
  all_goals simp [h, k, Act.log, Act.entry]

end Sys2Proof.Machine
end

