-- ==== Sys2Proof/Laws/Frames.lean ====
section
/-! SUPPORT. Round trips of the code tables and of the fields of a payload: a value's bytes are read back as that value. -/

namespace Sys2Proof.Machine

/-! ### Words -/

theorem join16_le16 (x : Half) : join16 (x.extractLsb' 0 8) (x.extractLsb' 8 8) = x := by
  unfold join16
  refine BitVec.eq_of_getLsbD_eq fun i hi => ?_
  rw [BitVec.getLsbD_append, BitVec.getLsbD_extractLsb', BitVec.getLsbD_extractLsb']
  split
  · simp [*]
  · rw [show 8 + (i - 8) = i by omega]
    simp [show i - 8 < 8 by omega]

theorem join32_le32 (x : Word) :
    join32 (x.extractLsb' 0 8) (x.extractLsb' 8 8) (x.extractLsb' 16 8) (x.extractLsb' 24 8) = x := by
  unfold join32
  refine BitVec.eq_of_getLsbD_eq fun i hi => ?_
  simp only [BitVec.getLsbD_append, BitVec.getLsbD_extractLsb']
  split
  · simp [*]
  · split
    · rw [show 8 + (i - 8) = i by omega]
      simp [*]
    · split
      · rw [show 16 + (i - 8 - 8) = i by omega]
        simp [*]
      · rw [show 24 + (i - 8 - 8 - 8) = i by omega]
        simp [show i - 8 - 8 - 8 < 8 by omega]

/-! ### Code tables -/

theorem modeOfCode_code (x : Mode) : modeOfCode (n8 x.code).toNat = some x := by cases x <;> rfl
theorem seqOfCode_code (x : SeqCode) : seqOfCode (n8 x.code).toNat = some x := by cases x <;> rfl
theorem confirmedOfCode_code (x : Confirmed) : confirmedOfCode (n8 x.code).toNat = some x := by
  cases x <;> first | rfl | (cases ‹Supply› <;> rfl)
theorem selectorOfCode_code (x : SelectorCode) : selectorOfCode (n8 x.code).toNat = some x := by
  cases x <;> rfl
theorem breakerOfCode_code (x : BreakerState) : breakerOfCode (n8 x.code).toNat = some x := by cases x <;> rfl
theorem isolatorOfCode_code (x : IsolatorCode) : isolatorOfCode (n8 x.code).toNat = some x := by cases x <;> rfl
theorem headOfCode_code (x : HeadType) : headOfCode (n8 x.code).toNat = some x := by cases x <;> rfl
theorem liftOfCode_code (x : LiftCode) : liftOfCode (n8 x.code).toNat = some x := by cases x <;> rfl
theorem dutyOfCode_code (x : Duty) : dutyOfCode (n8 x.code).toNat = some x := by cases x <;> rfl
theorem slotOfCode_code (x : Slot) : slotOfCode (n8 x.code).toNat = some x := by cases x <;> rfl
theorem bidKindOfCode_code (x : BidKind) : bidKindOfCode (n8 x.code).toNat = some x := by cases x <;> rfl
theorem boolOfCode_flag (x : Bool) : boolOfCode (n8 (flag x)).toNat = some x := by cases x <;> rfl
theorem verbOfCode_code (x : Verb) : verbOfCode (n8 x.code).toNat = some x := by cases x <;> rfl
theorem deskClaimOfCode_code (x : DeskClaim) : deskClaimOfCode (n8 x.code).toNat = some x := by cases x <;> rfl
theorem iceModeOfCode_code (x : IceMode) : iceModeOfCode (n8 x.code).toNat = some x := by cases x <;> rfl
theorem directionOfCode_code (x : Direction) : directionOfCode (n8 x.code).toNat = some x := by cases x <;> rfl
theorem noticeKindOfCode_code (x : NoticeKind) : noticeKindOfCode (n8 x.code).toNat = some x := by cases x <;> rfl

/-! ### Fields of several bytes -/

theorem supplyOfBytes_code (x : Option Supply) :
    supplyOfBytes (n8 (flag x.isSome)) (n8 (optSupplyCode x)) = some x := by
  rcases x with _ | y
  · rfl
  · cases y <;> rfl

theorem headSetOfBytes_code (x : Option HeadSet) :
    headSetOfBytes (n8 (flag x.isSome)) (n8 (match x with | none => 0 | some h => h.code)) = some x := by
  rcases x with _ | ⟨_ | _, _ | _⟩ <;> rfl

theorem alertOfBytes_code (x : Alert) : alertOfBytes (n8 x.code.code) (n8 (optSlotCode x.slot)) = some x := by
  obtain ⟨c, i⟩ := x
  cases c <;> rcases i with _ | ⟨_ | _⟩ <;> rfl

theorem lastAlertOfBytes_none : lastAlertOfBytes 0 255 = some none := rfl

theorem lastAlertOfBytes_code (x : Alert) :
    lastAlertOfBytes (n8 x.code.code) (n8 (optSlotCode x.slot)) = some (some x) := by
  obtain ⟨c, i⟩ := x
  cases c <;> rcases i with _ | ⟨_ | _⟩ <;> rfl

theorem openBidOfBytes_none : openBidOfBytes 0 0 0 0 0 = some none := rfl

theorem openBidOfBytes_code (b : OpenBid) :
    openBidOfBytes 1 (n8 b.kind.code) (n8 b.slot.code) b.number (n8 (flag b.committed)) = some (some b) := by
  obtain ⟨k, i, n, c⟩ := b
  cases k <;> cases i <;> cases c <;> rfl

theorem roofSlotOfBytes_code (r : RoofSlot) :
    roofSlotOfBytes (r.dA.extractLsb' 0 8) (r.dA.extractLsb' 8 8) (n8 r.head.code) (n8 r.lift.code) (n8 r.duty.code)
      (n8 (flag r.locked)) (n8 (flag r.latch)) = some r := by
  simp only [roofSlotOfBytes, headOfCode_code, liftOfCode_code, dutyOfCode_code, boolOfCode_flag, join16_le16]

theorem conditionFlags_read (p o : Bool) :
    (n8 (conditionFlags p o)).toNat < 4 ∧ (n8 (conditionFlags p o)).getLsbD 0 = p
      ∧ (n8 (conditionFlags p o)).getLsbD 1 = o := by
  cases p <;> cases o <;> decide

end Sys2Proof.Machine
end

