-- ==== Sys2Proof/Laws/Keeps.lean ====
section
/-! SUPPORT. What a command does to the reacting blocks themselves, before an event ends: each operation keeps the invariants of
`Safety`. One lemma for each operation that `Laws/Settle` does not cover; with `Act.Keeps.of_settles` they carry an
invariant of these blocks through a whole event. -/

namespace Sys2Proof.Machine

/-- `State.SlotsSafe` of the blocks. -/
structure Act.SlotsSafe (a : Act) : Prop where
  safe : ∀ i, (a.slots.get i).Safe
  duties : a.slots.zero.duty = a.slots.one.duty → a.slots.zero.duty = .idle

theorem State.slotsSafe_iff (s : State) : s.SlotsSafe ↔ s.act.SlotsSafe := ⟨fun h => ⟨h.1, h.2⟩, fun h => ⟨h.1, h.2⟩⟩

/-- The invariants of the reacting blocks but the switchgear's pass from `a` to `b`; the station address stays, and START is not
entered. -/
structure Act.Holds (a b : Act) : Prop where
  slots : a.SlotsSafe → b.SlotsSafe
  link : a.link.Inv → b.link.Inv
  notices : a.notices.Inv → b.notices.Inv
  address : b.link.address = a.link.address
  start : b.startup.mode = .start → a.startup.mode = .start

/-- And the switchgear's with them. -/
structure Act.Keeps (e : Env) (a b : Act) : Prop extends Act.Holds a b where
  interlock : a.Interlocked e.cls.confirmed → b.Interlocked e.cls.confirmed

theorem Act.Holds.refl (a : Act) : Act.Holds a a := ⟨id, id, id, rfl, id⟩

theorem Act.Holds.trans {a b c : Act} (h : Act.Holds a b) (k : Act.Holds b c) : Act.Holds a c :=
  ⟨fun x => k.1 (h.1 x), fun x => k.2 (h.2 x), fun x => k.3 (h.3 x), k.4.trans h.4, fun x => h.5 (k.5 x)⟩

/-- A write to selector, breaker, isolators alone. -/
theorem Act.Holds.switchgear {a b : Act}
    (k : b = { a with selector := b.selector, breaker := b.breaker, isolators := b.isolators }) : Act.Holds a b := by
  rw [k]
  exact ⟨fun x => ⟨x.1, x.2⟩, id, id, rfl, id⟩

theorem SlotRec.Kept.safe {r s : SlotRec} (k : SlotRec.Kept r s) (h : r.Safe) : s.Safe where
  pressure := k.pressure h.pressure
  duty := by
    intro d
    rcases k.duty with x | x
    · rcases k.lift with y | y
      · rw [y]
        exact h.duty (x ▸ d)
      · exact absurd (y.2.2.2.2.2 (h.duty (x ▸ d))) d
    · exact absurd x d
  lock := by
    intro l
    rw [k.locked, k.latch] at l
    rcases k.lift with y | y
    · rw [y]
      exact h.lock l
    · exact ⟨y.1, y.2.1⟩
  dropped := by
    intro d
    rcases k.lift with y | y
    · rw [k.latch]
      exact h.dropped (y ▸ d)
    · exact absurd d y.2.2.1

theorem Act.slotsSafe_of_kept {a b : Act} (k : ∀ i, SlotRec.Kept (a.slots.get i) (b.slots.get i)) (h : a.SlotsSafe) :
    b.SlotsSafe := by
  refine ⟨fun i => (k i).safe (h.safe i), fun d => ?_⟩
  rcases (k .zero).duty with x | x
  · rcases (k .one).duty with y | y
    · exact x.trans (h.duties (x.symm.trans (d.trans y)))
    · exact d.trans y
  · exact x

/-- What R111 and R117 ask of the held notices speaks of the notices only, but for the mark. -/
theorem NoticeQueue.inv_of_core {p q : NoticeQueue} (k : q.held.map HeldNotice.core = p.held.map HeldNotice.core)
    (m : p.MarkHeld → q.MarkHeld) (h : p.Inv) : q.Inv := by
  have g : q.held.map HeldNotice.notice = p.held.map HeldNotice.notice := by
    have := congrArg (List.map Prod.fst) k
    simpa [List.map_map, Function.comp_def, HeldNotice.core] using this
  have all {P : Notice → Prop} (x : ∀ h ∈ p.held, P h.notice) : ∀ h ∈ q.held, P h.notice := by
    intro y hy
    have : y.notice ∈ q.held.map HeldNotice.notice := List.mem_map_of_mem hy
    rw [g] at this
    obtain ⟨z, hz, e⟩ := List.mem_map.mp this
    exact e ▸ x z hz
  refine ⟨?_, ?_, all (P := fun n => n.id ≠ 0) h.named, all (P := fun n => n.start.toNat < n.stop.toNat) h.ends, ?_,
    m h.mark⟩
  · have := congrArg List.length g
    simp only [List.length_map] at this
    exact this ▸ h.length
  · rw [Act.Settles.ids_of_core k]
    exact h.ids
  · have := h.order
    rw [← List.pairwise_map (f := HeldNotice.notice) (R := fun x y : Notice => x.stop.toNat ≤ y.start.toNat)] at this ⊢
    exact g ▸ this

namespace Act.Keeps

variable {a0 a b : Act} {e : Env}

theorem refl (a : Act) : Act.Keeps e a a := ⟨.refl a, id⟩

theorem trans {c : Act} (h : Act.Keeps e a b) (k : Act.Keeps e b c) : Act.Keeps e a c :=
  ⟨h.toHolds.trans k.toHolds, fun x => k.interlock (h.interlock x)⟩

theorem of_settles (h : Act.Settles e a b) : Act.Keeps e a b where
  interlock := h.interlock
  slots := Act.slotsSafe_of_kept h.slots
  link := h.link.inv
  notices := NoticeQueue.inv_of_core h.notices h.mark
  address := h.link.address
  start := by
    intro x
    rcases h.startup.mode with y | y
    · exact y.symm.trans x
    · rw [y.2] at x
      cases x

/-- A command's own operation followed by one that settles. -/
theorem then_settles {f : Act → Act} (k : ∀ x, Act.Settles e x (f x)) (h : Act.Keeps e a0 a) : Act.Keeps e a0 (f a) :=
  h.trans (of_settles (k a))

/-! ### Single writes -/

theorem log {c : EventCode} {x : Nat} {d : Half} {y : Word} (h : Act.Keeps e a0 a) : Act.Keeps e a0 (a.log c x d y) :=
  h.then_settles fun x => (Act.Settles.refl x).log

theorem push {r : Report} (h : Act.Keeps e a0 a) : Act.Keeps e a0 (a.push r) :=
  h.then_settles fun x => (Act.Settles.refl x).push

theorem answerAll {w : List Requester} {q : Request} {ans : Answer} (h : Act.Keeps e a0 a) :
    Act.Keeps e a0 (a.answerAll w q ans) := h.then_settles fun x => (Act.Settles.refl x).answerAll

theorem alert {c : AlertCode} {i : Option Slot} (h : Act.Keeps e a0 a) : Act.Keeps e a0 (a.alert c i) :=
  h.then_settles fun x => (Act.Settles.refl x).alert

theorem evalDue (h : Act.Keeps e a0 a) : Act.Keeps e a0 a.evalDue :=
  h.then_settles fun x => (Act.Settles.refl x).evalDue

theorem iceDue (h : Act.Keeps e a0 a) : Act.Keeps e a0 a.iceDue :=
  h.then_settles fun x => (Act.Settles.refl x).iceDue

theorem seqTo {q : Sequencer} (h : Act.Keeps e a0 a) : Act.Keeps e a0 (a.setSeq q) :=
  h.trans ⟨⟨fun x => ⟨x.1, x.2⟩, id, id, rfl, id⟩, fun x => ⟨x.1, x.2⟩⟩

theorem iceTo {q : IceUnit} (h : Act.Keeps e a0 a) : Act.Keeps e a0 (a.setIce q) :=
  h.trans ⟨⟨fun x => ⟨x.1, x.2⟩, id, id, rfl, id⟩, fun x => ⟨x.1, x.2⟩⟩

theorem bidsTo {q : BidUnit} (h : Act.Keeps e a0 a) : Act.Keeps e a0 { a with bids := q } :=
  h.trans ⟨⟨fun x => ⟨x.1, x.2⟩, id, id, rfl, id⟩, fun x => ⟨x.1, x.2⟩⟩

theorem testTo {q : RoofTest} (h : Act.Keeps e a0 a) : Act.Keeps e a0 { a with test := q } :=
  h.trans ⟨⟨fun x => ⟨x.1, x.2⟩, id, id, rfl, id⟩, fun x => ⟨x.1, x.2⟩⟩

theorem preferredTo {q : Option Slot} (h : Act.Keeps e a0 a) : Act.Keeps e a0 { a with preferred := q } :=
  h.trans ⟨⟨fun x => ⟨x.1, x.2⟩, id, id, rfl, id⟩, fun x => ⟨x.1, x.2⟩⟩

theorem startupTo {q : Startup} (k : q.mode = .start → a.startup.mode = .start) (h : Act.Keeps e a0 a) :
    Act.Keeps e a0 (a.setStartup q) :=
  h.trans ⟨⟨fun x => ⟨x.1, x.2⟩, id, id, rfl, k⟩, fun x => ⟨x.1, x.2⟩⟩

theorem linkTo {q : Link} (k : a.link.Inv → q.Inv) (m : q.address = a.link.address) (h : Act.Keeps e a0 a) :
    Act.Keeps e a0 { a with link := q } :=
  h.trans ⟨⟨fun x => ⟨x.1, x.2⟩, k, id, m, id⟩, fun x => ⟨x.1, x.2⟩⟩

theorem noticesTo {q : NoticeQueue} (k : a.notices.Inv → q.Inv) (h : Act.Keeps e a0 a) :
    Act.Keeps e a0 { a with notices := q } :=
  h.trans ⟨⟨fun x => ⟨x.1, x.2⟩, id, k, rfl, id⟩, fun x => ⟨x.1, x.2⟩⟩

theorem breakerTo {q : Breaker}
    (k : a.Interlocked e.cls.confirmed → Act.Interlocked e.cls.confirmed { a with breaker := q })
    (h : Act.Keeps e a0 a) : Act.Keeps e a0 { a with breaker := q } :=
  h.trans ⟨⟨fun x => ⟨x.1, x.2⟩, id, id, rfl, id⟩, k⟩

theorem selectorTo {q : Selector}
    (k : a.Interlocked e.cls.confirmed → Act.Interlocked e.cls.confirmed { a with selector := q })
    (h : Act.Keeps e a0 a) : Act.Keeps e a0 { a with selector := q } :=
  h.trans ⟨⟨fun x => ⟨x.1, x.2⟩, id, id, rfl, id⟩, k⟩

theorem isolatorTo {i : Slot} {r : Isolator}
    (k : a.Interlocked e.cls.confirmed → (a.setIsolator i r).Interlocked e.cls.confirmed)
    (h : Act.Keeps e a0 a) : Act.Keeps e a0 (a.setIsolator i r) :=
  h.trans ⟨⟨fun x => ⟨x.1, x.2⟩, id, id, rfl, id⟩, k⟩

theorem slotsTo (k : a.SlotsSafe → Act.SlotsSafe b) (m : b = { a with slots := b.slots }) (h : Act.Keeps e a0 a) :
    Act.Keeps e a0 b := by
  refine h.trans ⟨⟨k, ?_, ?_, ?_, ?_⟩, fun x => ?_⟩ <;> rw [m]
  · exact id
  · exact id
  · exact id
  · exact ⟨x.1, x.2⟩

/-- A slot record written so that it stays safe and takes no duty. -/
theorem slotTo {i : Slot} {r : SlotRec} (k : (a.slots.get i).Safe → r.Safe)
    (m : r.duty = (a.slots.get i).duty ∨ r.duty = .idle) (h : Act.Keeps e a0 a) : Act.Keeps e a0 (a.setSlot i r) := by
  refine h.slotsTo (fun s => ⟨fun j => ?_, ?_⟩) rfl
  · simp only [Act.setSlot_slots, Pair.get_set]
    split
    · exact k (s.safe i)
    · exact s.safe j
  · intro d
    cases i <;> rcases m with m | m <;> simp only [Act.setSlot, Pair.set, Pair.get] at d m ⊢
    · rw [m] at d ⊢
      exact s.duties d
    · exact m
    · rw [m] at d
      exact s.duties d
    · rw [m] at d
      exact d

/-! ### Switchgear -/

theorem switchgearFault {i : Option Slot} {n : Nat} {k : FaultKind} {m : Nat} (h : Act.Keeps e a0 a) :
    Act.Keeps e a0 (a.switchgearFault i n k m) := h.log.alert

theorem openBreaker {w : List Requester} (h : Act.Keeps e a0 a) : Act.Keeps e a0 (a.openBreaker e w) :=
  h.then_settles fun x => (Act.Settles.refl x).openBreaker

theorem openIsolator {i : Slot} {w : List Requester} (h : Act.Keeps e a0 a) : Act.Keeps e a0 (a.openIsolator e i w) :=
  h.then_settles fun x => (Act.Settles.refl x).openIsolator

theorem isolatorBreakerOpened {i : Slot} (h : Act.Keeps e a0 a) : Act.Keeps e a0 (a.isolatorBreakerOpened e i) :=
  h.then_settles fun x => (Act.Settles.refl x).isolatorBreakerOpened

theorem breakerReachesOpen (h : Act.Keeps e a0 a) : Act.Keeps e a0 (a.breakerReachesOpen e) := by
  have g := h.breakerTo (q := { a.breaker with state := .opened, timer := none, openWaiters := [] })
    (Act.Settles.interlocked_dead rfl rfl)
  exact g.answerAll.push.isolatorBreakerOpened.isolatorBreakerOpened

/-- R31: whatever the selector and the isolators show, once the breaker has been opened nothing contradicts the interlock. -/
theorem forceOpen_interlocked {n : Nat}
    (k : IsolatorState.isLive a.isolators.zero.state = true → IsolatorState.isLive a.isolators.one.state = true → False) :
    (a.forceOpen e n).Interlocked e.cls.confirmed := by
  unfold Act.forceOpen
  split
  · rename_i live
    unfold Act.openBreaker
    simp only [Act.push_breaker, Act.log_breaker]
    have two : a.breaker.state = .closing ∨ a.breaker.state = .closed := by
      cases b : a.breaker.state <;> simp [b, BreakerState.isLive] at live ⊢
    have dead (q : Breaker) (m : BreakerState.isLive q.state = false) :
        Act.Interlocked e.cls.confirmed
          { (a.log .breakerForcedOpen 255 (n16 n) (n32 e.cls.confirmed.code)).push (.breakerForced n) with
            breaker := q } :=
      ⟨by simpa using k, fun d => absurd (m ▸ d) (by simp)⟩
    rcases two with two | two <;> rw [two] <;> simp only
    all_goals
      have g := ((Act.Settles.refl (e := e) _).answerAll (w := a.breaker.closeWaiters) (q := .closeBreaker)
        (ans := .failed)).interlock (dead { a.breaker with
          state := .opening, timer := some 100, closeWaiters := [], openWaiters := a.breaker.openWaiters ++ [] } rfl)
      split
      · exact g
      · exact ((refl _).breakerReachesOpen).interlock g
  · rename_i dead
    exact ⟨k, fun d => absurd d dead⟩

theorem forceOpen_holds {n : Nat} : Act.Holds a (a.forceOpen e n) :=
  (of_settles ((Act.Settles.refl (e := e) a).forceOpen (n := n))).toHolds

/-- R31: an operation that ends with the breaker's being opened. -/
theorem forced {n : Nat} (k : Act.Holds a b) (m : b.isolators = a.isolators) (h : Act.Keeps e a0 a) :
    Act.Keeps e a0 (b.forceOpen e n) :=
  h.trans ⟨k.trans forceOpen_holds, fun x => forceOpen_interlocked (by rw [m]; exact x.isolators)⟩

theorem alert_isolators {c : AlertCode} {i : Option Slot} : (a.alert c i).isolators = a.isolators := by
  unfold Act.alert Act.offerTail
  simp only
  split <;> (rename_i heq; split at heq <;> (try split at heq) <;> simp only [Prod.mk.injEq] at heq <;>
    (try (first | cases heq.1)) <;> rw [← heq.2] <;> rfl)

theorem switchgearFault_isolators {i : Option Slot} {n : Nat} {k : FaultKind} {m : Nat} :
    (a.switchgearFault i n k m).isolators = a.isolators := alert_isolators

theorem forceOpen {n : Nat} (h : Act.Keeps e a0 a) : Act.Keeps e a0 (a.forceOpen e n) :=
  h.then_settles fun x => (Act.Settles.refl x).forceOpen

theorem selectorFaults {k : FaultKind} (h : Act.Keeps e a0 a) : Act.Keeps e a0 (a.selectorFaults e k) := by
  unfold Act.selectorFaults
  simp only
  have g : Act.Holds a { a with selector := { state := .fault, timer := none, waiters := [] } } := .switchgear rfl
  have m := g.trans (((refl (e := e) _).switchgearFault (i := none) (n := 0) (k := k)
    (m := a.selector.state.toCode.code)).push (r := .selectorFault)).toHolds
  split
  · exact h.forced (m.trans ((refl (e := e) _).answerAll).toHolds)
      (by rw [Act.Settles.answerAll_isolators, Act.push_isolators, switchgearFault_isolators])
  · exact h.forced m (by rw [Act.push_isolators, switchgearFault_isolators])

theorem selectorDisturbed (h : Act.Keeps e a0 a) : Act.Keeps e a0 (a.selectorDisturbed e) := by
  unfold Act.selectorDisturbed
  split
  · exact h.selectorFaults
  · exact h

theorem isolatorFaults {i : Slot} {k : FaultKind} (h : Act.Keeps e a0 a) : Act.Keeps e a0 (a.isolatorFaults e i k) := by
  unfold Act.isolatorFaults
  simp only
  refine Act.Keeps.selectorDisturbed ?_
  have one : Act.Holds a (a.setIsolator i { a.isolators.get i with state := .fault, timer := none, closeWaiters := [] }) :=
    .switchgear rfl
  have two := one.trans (answerAll (w := (a.isolators.get i).closeWaiters) (q := .closeIsolator i) (ans := .failed)
    (push (r := .isolatorFault) (switchgearFault (i := some i) (n := 1) (k := k)
      (m := (a.isolators.get i).state.toCode.code) (refl (e := e) _)))).toHolds
  generalize hb : (((a.setIsolator i { a.isolators.get i with state := .fault, timer := none, closeWaiters := [] }
    ).switchgearFault (some i) 1 k (a.isolators.get i).state.toCode.code).push .isolatorFault).answerAll
    (a.isolators.get i).closeWaiters (.closeIsolator i) .failed = b at two ⊢
  have iso : b.isolators = a.isolators.set i { a.isolators.get i with state := .fault, timer := none, closeWaiters := [] } := by
    rw [← hb, Act.Settles.answerAll_isolators, Act.push_isolators, switchgearFault_isolators]
    rfl
  have apart (x : a.Interlocked e.cls.confirmed) : IsolatorState.isLive b.isolators.zero.state = true →
      IsolatorState.isLive b.isolators.one.state = true → False := by
    rw [iso]
    cases i <;> simp [Pair.set, IsolatorState.isLive]
  split
  · rename_i o
    have d := Act.Settles.live_of_breakerOpen o
    have g : Act.Keeps e a b := ⟨two, fun x => ⟨apart x, fun l => absurd (d ▸ l) (by simp)⟩⟩
    exact (h.trans g).isolatorBreakerOpened
  · exact h.trans ⟨two.trans forceOpen_holds, fun x => forceOpen_interlocked (apart x)⟩

theorem travelEnds {y z : Supply} (k : a.selector.state = .moving z) (h : Act.Keeps e a0 a) :
    Act.Keeps e a0 (a.travelEnds y) := h.trans (of_settles ((Act.Settles.refl a).travelEnds k))

theorem endSwitch {p : Position} {closed : Bool} (h : Act.Keeps e a0 a) : Act.Keeps e a0 (a.endSwitch e p closed) := by
  unfold Act.endSwitch
  split
  · repeat' split
    all_goals first | exact h | exact h.selectorFaults
  · rename_i k
    split
    · exact h.travelEnds k
    · exact h
  · rename_i k
    split
    · split
      · exact h.selectorTo (Act.Settles.interlocked_selector (.inr (by rw [k]; nofun)))
      · exact h.selectorFaults
    · exact h
  · exact h

theorem travelTimeout (h : Act.Keeps e a0 a) : Act.Keeps e a0 (a.travelTimeout e) := by
  unfold Act.travelTimeout
  split
  · exact h.selectorFaults
  · exact h

theorem isolatorContact {i : Slot} {c : Contact} (h : Act.Keeps e a0 a) :
    Act.Keeps e a0 (a.isolatorContact e i c) := by
  unfold Act.isolatorContact
  simp only
  split
  · rename_i k
    refine Act.Keeps.answerAll (h.isolatorTo fun x => ?_)
    cases d : BreakerState.isLive a.breaker.state
    · refine ⟨?_, by rw [Act.setIsolator_breaker, d]; nofun⟩
      have := x.isolators
      cases i <;> simp_all [Act.setIsolator, Pair.set, Pair.get, IsolatorState.isLive]
    · rcases Act.Settles.live_isolator x d i with y | y <;> rw [k] at y <;> cases y
  · rename_i k
    exact h.trans (of_settles ((Act.Settles.refl a).isolatorIsOpen k))
  · exact h.isolatorFaults
  · exact h.isolatorFaults
  · exact h

theorem isolatorTimeout {i : Slot} (h : Act.Keeps e a0 a) : Act.Keeps e a0 (a.isolatorTimeout e i) := by
  unfold Act.isolatorTimeout
  split
  · exact h.isolatorFaults
  · exact h.isolatorFaults
  · exact h

theorem breakerTrips (h : Act.Keeps e a0 a) : Act.Keeps e a0 (a.breakerTrips e) := by
  unfold Act.breakerTrips
  simp only
  split <;> split
  all_goals first
    | (refine Act.Keeps.push (Act.Keeps.log (Act.Keeps.breakerTo ?_ (Act.Keeps.log h.breakerReachesOpen)))
       exact Act.Settles.interlocked_dead rfl rfl)
    | (refine Act.Keeps.push (Act.Keeps.breakerTo ?_ (Act.Keeps.log h.breakerReachesOpen))
       exact fun x => ⟨x.1, x.2⟩)

theorem breakerContact {closed : Bool} (h : Act.Keeps e a0 a) : Act.Keeps e a0 (a.breakerContact e closed) := by
  unfold Act.breakerContact
  simp only
  split
  · rename_i k
    exact (h.breakerTo fun x => ⟨x.1, fun _ => x.2 (by rw [k]; rfl)⟩).answerAll
  · exact ((h.breakerTo (Act.Settles.interlocked_dead rfl rfl)).switchgearFault.push).selectorDisturbed
  · exact h.switchgearFault.push.selectorDisturbed
  · exact h.breakerTrips
  · exact h.breakerReachesOpen
  · exact h

theorem breakerCloses (h : Act.Keeps e a0 a) : Act.Keeps e a0 (a.breakerCloses e) := by
  unfold Act.breakerCloses
  split
  · exact h.breakerTo (Act.Settles.interlocked_dead rfl rfl)
  · exact h.breakerContact

theorem breakerCloseTimeout (h : Act.Keeps e a0 a) : Act.Keeps e a0 (a.breakerCloseTimeout e) := by
  unfold Act.breakerCloseTimeout
  simp only
  split
  · have g := ((h.breakerTo (q := { a.breaker with state := .opening, timer := some 100, closeWaiters := [] })
      (Act.Settles.interlocked_dead rfl rfl)).switchgearFault (i := none) (n := 2) (k := .closeTimeout)
      (m := a.breaker.state.code)).push (r := .breakerFault) |>.answerAll (w := a.breaker.closeWaiters)
      (q := .closeBreaker) (ans := .failed)
    split
    · exact g
    · exact g.breakerReachesOpen.breakerTo fun x => ⟨x.1, x.2⟩
  · exact h

theorem breakerOpenTimeout (h : Act.Keeps e a0 a) : Act.Keeps e a0 a.breakerOpenTimeout := by
  unfold Act.breakerOpenTimeout
  simp only
  split
  · refine (Act.Keeps.push (Act.Keeps.switchgearFault (Act.Keeps.breakerTo ?_ h))).answerAll
    exact fun x => ⟨x.1, x.2⟩
  · exact h

/-- R31, reason 1: the interlock is sound for the system now confirmed, whatever was confirmed before. -/
theorem supplyChecked_interlocked {c : Confirmed} (h : a.Interlocked c) :
    (a.supplyChecked e).Interlocked e.cls.confirmed := by
  unfold Act.supplyChecked
  split
  · rename_i y k
    split
    · rename_i z
      refine ⟨h.isolators, fun d => ?_⟩
      obtain ⟨u, hu, _, w⟩ := h.breaker d
      rw [hu] at k
      cases k
      exact ⟨y, hu, z, w⟩
    · exact forceOpen_interlocked h.isolators
  · exact forceOpen_interlocked h.isolators

theorem supplyChecked (h : Act.Keeps e a0 a) : Act.Keeps e a0 (a.supplyChecked e) := by
  unfold Act.supplyChecked
  repeat' split
  all_goals first | exact h | exact h.forceOpen

theorem clearIsolator {i : Slot} (h : Act.Keeps e a0 a) : Act.Keeps e a0 (a.clearIsolator e i).2 := by
  unfold Act.clearIsolator
  split
  · rename_i k
    exact (h.isolatorTo (Act.Settles.interlocked_between rfl (by rw [k.1]; nofun) (by rw [k.1]; nofun))).answerAll
  · exact h

/-- A record that is written in one case only. -/
theorem orLog {p : Prop} [Decidable p] {c : EventCode} {x : Nat} {d : Half} {y : Word} (h : Act.Keeps e a0 a) :
    Act.Keeps e a0 (if p then a else a.log c x d y) := by
  split
  · exact h
  · exact h.log

theorem clearSwitchgear (h : Act.Keeps e a0 a) : Act.Keeps e a0 (a.clearSwitchgear e) := by
  unfold Act.clearSwitchgear
  simp only
  have one : Act.Keeps e a0
      (if decide (a.selector.state = .fault) then { a with selector := { a.selector with state := .unknown } } else a) := by
    split
    · rename_i k
      exact h.selectorTo (Act.Settles.interlocked_selector (.inr (by rw [of_decide_eq_true k]; nofun)))
    · exact h
  have two := (one.clearIsolator (i := .zero)).clearIsolator (i := .one)
  generalize (Act.clearIsolator e .one (Act.clearIsolator e .zero
    (if decide (a.selector.state = .fault) then { a with selector := { a.selector with state := .unknown } } else a)).2) = b
    at two ⊢
  have three : Act.Keeps e a0 (if decide (b.2.breaker.state = .lockout) && !e.pins.breakerClosed then
      ({ b.2 with breaker := { b.2.breaker with state := .opened, lastTrip := none } }).push .breakerOpened else b.2) := by
    split
    · exact (two.breakerTo (Act.Settles.interlocked_dead rfl rfl)).push
    · exact two
  exact three.orLog

theorem completeTest {x : Option Reflection} (h : Act.Keeps e a0 a) : Act.Keeps e a0 (a.completeTest e x) := by
  unfold Act.completeTest
  split
  · exact h.then_settles fun y => (Act.Settles.refl y).finishTest
  · exact h

/-! ### Lift Drive -/

theorem recompute (h : Act.Keeps e a0 a) : Act.Keeps e a0 (a.recompute e) :=
  h.then_settles fun x => (Act.Settles.refl x).recompute

theorem slotChanged {i : Slot} (h : Act.Keeps e a0 a) : Act.Keeps e a0 (a.slotChanged i) :=
  h.then_settles fun x => (Act.Settles.refl x).slotChanged

theorem clearDuty {i : Slot} (h : Act.Keeps e a0 a) : Act.Keeps e a0 (a.clearDuty e i) :=
  h.then_settles fun x => (Act.Settles.refl x).clearDuty

theorem answerRaise {i : Slot} {ans : Answer} (h : Act.Keeps e a0 a) : Act.Keeps e a0 (a.answerRaise i ans) :=
  h.then_settles fun x => (Act.Settles.refl x).answerRaise

theorem answerLower {i : Slot} {ans : Answer} (h : Act.Keeps e a0 a) : Act.Keeps e a0 (a.answerLower i ans) :=
  h.then_settles fun x => (Act.Settles.refl x).answerLower

theorem lower {i : Slot} {w : List Requester} (h : Act.Keeps e a0 a) : Act.Keeps e a0 (a.lower e i w) :=
  h.then_settles fun x => (Act.Settles.refl x).lower

theorem updateSlot {i : Slot} {f : SlotRec → SlotRec} (k : (a.slots.get i).Safe → (f (a.slots.get i)).Safe)
    (m : (f (a.slots.get i)).duty = (a.slots.get i).duty ∨ (f (a.slots.get i)).duty = .idle)
    (h : Act.Keeps e a0 a) : Act.Keeps e a0 (a.updateSlot i f) := (h.slotTo k m).slotChanged

theorem becomesUp {i : Slot} (k : (a.slots.get i).lift = .rising) (h : Act.Keeps e a0 a) :
    Act.Keeps e a0 (a.becomesUp i) := by
  refine Act.Keeps.answerRaise (h.updateSlot (fun s => ?_) (.inl rfl))
  refine ⟨fun _ => .inr rfl, fun l => ?_, nofun, s.pressure⟩
  exact absurd k (s.lock l).1

theorem upSwitch {i : Slot} {closed : Bool} (h : Act.Keeps e a0 a) : Act.Keeps e a0 (a.upSwitch i closed) := by
  unfold Act.upSwitch
  split
  · rename_i k
    exact h.becomesUp k.1
  · exact h

theorem downSwitch {i : Slot} {closed : Bool} (h : Act.Keeps e a0 a) : Act.Keeps e a0 (a.downSwitch i closed) := by
  unfold Act.downSwitch
  split
  · rename_i k
    exact h.trans (of_settles ((Act.Settles.refl a).becomesDown k.1))
  · exact h

theorem lowerTimeout {i : Slot} (h : Act.Keeps e a0 a) : Act.Keeps e a0 (a.lowerTimeout i) := by
  unfold Act.lowerTimeout
  split
  · exact Act.Keeps.answerLower (Act.Keeps.log (h.slotTo (fun s => ⟨s.1, s.2, s.3, s.4⟩) (.inl rfl)))
  · exact h

/-- A slot that holds no duty may be written DROPPED and latched. -/
theorem drop {i : Slot} (h : Act.Keeps e a0 a) : Act.Keeps e a0 (a.drop e i) := by
  unfold Act.drop
  simp only
  refine Act.Keeps.alert (Act.Keeps.log (Act.Keeps.answerLower (Act.Keeps.answerRaise ?_)))
  have one : Act.Keeps e a0 (a.setSlot i { a.slots.get i with riseTimer := none, lowerTimer := none }) :=
    h.slotTo (fun s => ⟨s.1, s.2, s.3, s.4⟩) (.inl rfl)
  have two : Act.Keeps e a0 (if (a.slots.get i).duty = .collect then
      (a.setSlot i { a.slots.get i with riseTimer := none, lowerTimer := none }).openBreaker e []
      else a.setSlot i { a.slots.get i with riseTimer := none, lowerTimer := none }) := by
    split
    · exact one.openBreaker
    · exact one
  generalize (if (a.slots.get i).duty = .collect then
      (a.setSlot i { a.slots.get i with riseTimer := none, lowerTimer := none }).openBreaker e []
      else a.setSlot i { a.slots.get i with riseTimer := none, lowerTimer := none }) = b at two ⊢
  have three := (two.openIsolator (i := i) (w := [])).clearDuty (i := i)
  generalize hb : Act.clearDuty e i (Act.openIsolator e i [] b) = b2 at three ⊢
  refine three.updateSlot (fun s => ⟨fun d => absurd ?_ d, fun _ => ⟨nofun, nofun⟩, fun _ => rfl, s.pressure⟩) (.inl rfl)
  rw [← hb]
  exact Act.Settles.clearDuty_slot.2

theorem addContact {i : Slot} {x : Bool} (h : Act.Keeps e a0 a) : Act.Keeps e a0 (a.addContact e i x) := by
  unfold Act.addContact
  repeat' split
  all_goals first | exact h | exact h.drop

/-- R41: a slot that is raised for a duty the other slot does not hold. -/
theorem raise {i : Slot} {d : Duty} (k : (a.slots.get i.other).duty ≠ d) (h : Act.Keeps e a0 a) :
    Act.Keeps e a0 (a.raise e i d) := by
  unfold Act.raise
  simp only
  split
  · rename_i m
    obtain ⟨m1, m2, m3⟩ := m
    have one : Act.Keeps e a0 (a.updateSlot i fun r =>
        { r with duty := d, lift := .rising, riseTimer := some 10000, raiseWaiting := true }) := by
      refine Act.Keeps.slotChanged (h.slotsTo (fun s => ⟨fun j => ?_, fun q => ?_⟩) rfl)
      · simp only [Act.setSlot_slots, Pair.get_set]
        split
        · refine ⟨fun _ => .inl rfl, fun l => ?_, nofun, (s.safe i).pressure⟩
          simp_all
        · exact s.safe j
      · cases i <;> simp only [Act.setSlot, Pair.set, Slot.other, Pair.get] at q k ⊢
        · exact absurd q.symm k
        · exact absurd q k
    have two := one.recompute
    split
    · exact two.drop
    · split
      · refine two.becomesUp ?_
        rw [Act.Settles.recompute_slot.1]
        simp [Act.updateSlot, Act.slotChanged]
      · exact two
  · exact h.push

theorem answerAll_slots {w : List Requester} {q : Request} {ans : Answer} : (a.answerAll w q ans).slots = a.slots := by
  unfold Act.answerAll
  induction w generalizing a with
  | nil => rfl
  | cons x l ih => rw [List.foldl_cons, ih]; simp

/-- R43: at the end of a lower request that is taken in RISING or UP the slot is not raised. -/
theorem startDown_lowered {i : Slot} {w : List Requester} : ¬ ((a.startDown e i w).slots.get i).Raised := by
  unfold Act.startDown
  simp only
  generalize ((a.clearDuty e i).answerRaise i .failed).updateSlot i
    (fun r => { r with riseTimer := none, lowerWaiters := r.lowerWaiters ++ w }) = b
  unfold SlotRec.Raised
  split
  · unfold Act.vent Act.becomesDown Act.answerLower
    simp only
    split <;> simp [answerAll_slots]
  · have k := ((Act.Settles.refl (e := e) (b.updateSlot i fun r => { r with lift := .lowering .awaitingIsolator })
      ).openIsolator (i := i) (w := [.lift i])).slots i
    rcases k.lift with x | x
    · rw [x]
      simp
    · simp [x.1, x.2.1]

/-- A slot that is about to come down is written in any way that leaves its duty and keeps it latched where it is DROPPED; then
operations that settle; then the lowering. -/
theorem thenDown {i : Slot} {r : SlotRec} {w : List Requester}
    (k : (a.slots.get i).Safe → r.pressure ≤ 600) (m : r.duty = (a.slots.get i).duty)
    (up : r.Raised) (g : Act.Settles e (a.setSlot i r) b) (same : (b.slots.get i).lift = r.lift)
    (h : Act.Keeps e a0 a) : Act.Keeps e a0 (b.startDown e i w) := by
  have up' : (b.slots.get i).Raised := by
    unfold SlotRec.Raised at up ⊢
    rwa [same]
  have all : Act.Settles e (a.setSlot i r) (b.startDown e i w) := g.startDown up'
  have own := all.slots i
  simp only [Act.setSlot_slots, Pair.get_set, if_true] at own
  have low : ¬ ((b.startDown e i w).slots.get i).Raised := startDown_lowered
  have lift := own.lift.resolve_left fun x => low (by unfold SlotRec.Raised at up ⊢; rwa [x])
  have other (j : Slot) (n : j ≠ i) : SlotRec.Kept (a.slots.get j) ((b.startDown e i w).slots.get j) := by
    have := all.slots j
    simpa only [Act.setSlot_slots, Pair.get_set, if_neg n] using this
  have idle : ((b.startDown e i w).slots.get i).duty = .idle := lift.2.2.2.2.2 up
  refine h.trans ⟨⟨fun s => ⟨fun j => ?_, fun d => ?_⟩, ?_, ?_, ?_, ?_⟩, ?_⟩
  · by_cases n : j = i
    · subst n
      exact ⟨fun d => absurd idle d, fun _ => ⟨lift.1, lift.2.1⟩, fun d => absurd d lift.2.2.1,
        own.pressure (k (s.safe _))⟩
    · exact (other j n).safe (s.safe j)
  · cases i
    · exact idle
    · exact d.trans idle
  · exact (of_settles all).link
  · exact (of_settles all).notices
  · exact (of_settles all).address
  · exact (of_settles all).start
  · exact fun x => all.interlock ⟨x.1, x.2⟩

theorem riseTimeout {i : Slot} (h : Act.Keeps e a0 a) : Act.Keeps e a0 (a.riseTimeout e i) := by
  unfold Act.riseTimeout
  simp only
  by_cases k : (a.slots.get i).lift = .rising
  · rw [if_pos k]
    have g := h.log (c := .raiseFail) (x := i.code) (d := n16 (a.slots.get i).duty.code) (y := 0)
    have same : (a.log .raiseFail i.code (n16 (a.slots.get i).duty.code) 0).slots = a.slots := rfl
    rw [← same] at k
    generalize a.log .raiseFail i.code (n16 (a.slots.get i).duty.code) 0 = b at g k ⊢
    have q := (((Act.Settles.refl (e := e) (b.setSlot i { b.slots.get i with latch := true })).slotChanged
      (i := i)).clearDuty (i := i)).answerRaise (i := i) (ans := .failed)
    exact g.thenDown (r := { b.slots.get i with latch := true }) (fun s => s.pressure) rfl (.inl k) q
      (by rw [Act.Settles.answerRaise_slot.1, Act.Settles.clearDuty_slot.1]; simp)
  · rw [if_neg k]
    exact h

theorem lockSlot {n : Nat} {i : Slot} (h : Act.Keeps e a0 a) : Act.Keeps e a0 (a.lockSlot e n i) := by
  unfold Act.lockSlot
  simp only
  by_cases up : (a.slots.get i).Raised
  · have two : (a.slots.get i).lift = .rising ∨ (a.slots.get i).lift = .up := up
    by_cases l : (a.slots.get i).locked
    · rcases two with k | k <;> rw [k] <;> simp only [l, if_true] <;> exact h.lower
    · have g := h.thenDown (e := e) (i := i) (r := { a.slots.get i with locked := true }) (w := []) (fun s => s.pressure) rfl up
        ((Act.Settles.refl (a.setSlot i { a.slots.get i with locked := true })).slotChanged (i := i) |>.log (c := .slotLock)
          (x := i.code) (d := 1) (y := n32 n)) (by simp)
      rcases two with k | k <;> rw [k] <;> simp only [l, Bool.false_eq_true, if_false] <;>
        (unfold Act.lower; simp only [Act.log_slots, Act.Settles.updateSlot_slots, Pair.get_set, if_true, k]; exact g)
  · have k : (a.slots.get i).Safe → SlotRec.Safe { a.slots.get i with locked := true } := by
      intro s
      refine ⟨s.duty, fun _ => ?_, s.dropped, s.pressure⟩
      simpa [SlotRec.Raised] using up
    have g : Act.Keeps e a0 (if (a.slots.get i).locked then a
        else (a.updateSlot i fun r => { r with locked := true }).log .slotLock i.code 1 (n32 n)) := by
      split
      · exact h
      · exact (h.updateSlot k (.inl rfl)).log
    split
    · rename_i x
      exact absurd (.inl x) up
    · rename_i x
      exact absurd (.inr x) up
    all_goals exact g

theorem unlockSlot {n : Nat} {i : Slot} (h : Act.Keeps e a0 a) : Act.Keeps e a0 (a.unlockSlot n i) := by
  unfold Act.unlockSlot
  split
  · rename_i k
    refine Act.Keeps.log (h.updateSlot (fun s => ?_) (.inl rfl))
    exact ⟨s.duty, fun _ => s.lock (.inl k), s.dropped, s.pressure⟩
  · exact h

theorem clearSlot {i : Slot} (h : Act.Keeps e a0 a) : Act.Keeps e a0 (a.clearSlot e i) := by
  unfold Act.clearSlot
  simp only
  split
  · rename_i k
    split
    · refine Act.Keeps.log (h.updateSlot (fun s => ?_) (.inl rfl))
      refine ⟨fun d => ?_, fun _ => ⟨nofun, nofun⟩, nofun, s.pressure⟩
      rcases s.duty d with x | x <;> rw [k] at x <;> cases x
    · exact h
  · rename_i k
    split
    · refine Act.Keeps.log (h.updateSlot (fun s => ?_) (.inl rfl))
      exact ⟨s.duty, fun _ => by simp [k], by simp [k], s.pressure⟩
    · exact h
  all_goals exact h

theorem onMask {mask : Byte} {f : Slot → Act → Act} (k : ∀ i x, Act.Keeps e a0 x → Act.Keeps e a0 (f i x))
    (h : Act.Keeps e a0 a) : Act.Keeps e a0 (a.onMask mask f) := by
  unfold Act.onMask
  simp only
  have one : Act.Keeps e a0 (if maskNames mask .zero then f .zero a else a) := by
    split
    · exact k _ _ h
    · exact h
  split
  · exact k _ _ one
  · exact one

theorem lockOrder {dst src : Nat} {mask : Byte} (h : Act.Keeps e a0 a) : Act.Keeps e a0 (a.lockOrder e dst src mask) := by
  unfold Act.lockOrder
  simp only
  have g := h.onMask (mask := mask) (f := fun i x => x.lockSlot e src i) fun _ _ k => k.lockSlot
  split
  · exact g.push
  · exact g

theorem unlockOrder {src : Nat} {mask : Byte} (h : Act.Keeps e a0 a) : Act.Keeps e a0 (a.unlockOrder src mask) :=
  h.onMask fun _ _ k => k.unlockSlot

theorem clearFaultOrder {mask : Byte} (h : Act.Keeps e a0 a) : Act.Keeps e a0 (a.clearFaultOrder e mask) := by
  unfold Act.clearFaultOrder
  split
  · exact h.onMask fun _ _ k => k.clearSlot
  · exact h.clearSwitchgear

theorem preferOrder {src : Nat} {mask : Byte} (h : Act.Keeps e a0 a) : Act.Keeps e a0 (a.preferOrder src mask) := by
  unfold Act.preferOrder
  simp only
  split
  · exact h
  · exact h.preferredTo.log.push

/-! ### Consist Link Controller -/

theorem offerStateRoof {r : TxRequester} (h : Act.Keeps e a0 a) : Act.Keeps e a0 (a.offerStateRoof r e).2 :=
  h.then_settles fun x => (Act.Settles.refl x).offerStateRoof

theorem answerTx {x : TxEntry} {ans : TxAnswer} (h : Act.Keeps e a0 a) : Act.Keeps e a0 (a.answerTx x ans) :=
  h.then_settles fun y => (Act.Settles.refl y).answerTx

theorem openGate (h : Act.Keeps e a0 a) : Act.Keeps e a0 (a.openGate e) := by
  unfold Act.openGate
  split
  · exact h
  · rename_i n k
    refine Act.Keeps.offerStateRoof (h.linkTo (fun i => ?_) rfl)
    exact ⟨i.1, i.2, fun _ => by simp [k], nofun, i.5, i.6, i.7, i.8, i.9, i.10⟩

theorem stateTimerExpired (h : Act.Keeps e a0 a) : Act.Keeps e a0 (a.stateTimerExpired e) := by
  unfold Act.stateTimerExpired
  simp only
  refine Act.Keeps.offerStateRoof (h.linkTo (fun i => ?_) rfl)
  exact ⟨i.1, i.2, i.3, i.4, i.5, i.6, i.7, i.8, i.9, i.10⟩

/-- Behind a CLOSED gate the head, where there is one, is on the wire (R58). -/
theorem gate_of_head {k : Link} (i : k.Inv) {x : TxHead} (hx : k.head = some x) (off : x.access.onTheWire = false) :
    k.gateOpen ≠ false := by
  intro c
  rcases (i.closed c).2 with y | y
  · rw [hx] at y
    cases y
  · simp [Link.headOnTheWire, hx, off] at y

/-- The head entry in another access state: on the wire as before, or behind an OPEN gate. -/
theorem headTo {x y : TxHead} (hx : a.link.head = some x)
    (k : a.link.Inv → a.link.gateOpen = false → y.access.onTheWire = true) (h : Act.Keeps e a0 a) :
    Act.Keeps e a0 { a with link := a.link.setHead (some y) } := by
  refine h.linkTo (fun i => ⟨?_, nofun, i.3, fun c => ⟨(i.closed c).1, .inr (k i c)⟩, i.5, i.6, i.7, i.8, i.9, i.10⟩) rfl
  simpa [Link.length, Link.setHead, hx] using i.length

theorem attemptStart (h : Act.Keeps e a0 a) : Act.Keeps e a0 a.attemptStart := by
  unfold Act.attemptStart
  split
  · split
    · rename_i x hx _
      exact h.headTo hx fun _ _ => rfl
    · exact h
  · exact h

theorem collide {n : Nat} (h : Act.Keeps e a0 a) : Act.Keeps e a0 (a.collide n) := by
  unfold Act.collide
  split
  · split
    · rename_i x hx _
      exact h.headTo hx fun _ _ => rfl
    · exact h
  · exact h

theorem backoffEnd (h : Act.Keeps e a0 a) : Act.Keeps e a0 a.backoffEnd := by
  unfold Act.backoffEnd
  split
  · rename_i x hx
    split
    · rename_i r k
      exact h.headTo hx fun i c => absurd c (gate_of_head i hx (by rw [k]; rfl))
    · exact h
  · exact h

theorem advance_inv {k : Link} (i : k.Inv) : k.advance.Inv := (Act.Settles.advance_kept k).inv i

theorem advance_address {k : Link} : k.advance.address = k.address := (Act.Settles.advance_kept k).address

theorem frameSent (h : Act.Keeps e a0 a) : Act.Keeps e a0 a.frameSent := by
  unfold Act.frameSent
  split
  · split
    · refine Act.Keeps.answerTx (h.linkTo (fun i => ?_) advance_address)
      have j := advance_inv i
      exact ⟨j.1, j.2, j.3, j.4, Nat.min_le_left _ _, j.6, j.7, j.8, j.9, j.10⟩
    · exact h
  · exact h

theorem jamEnd {n : Nat} (h : Act.Keeps e a0 a) : Act.Keeps e a0 (a.jamEnd n) := by
  unfold Act.jamEnd
  split
  · rename_i x hx
    split
    · rename_i late k
      simp only
      have counted (i : a.link.Inv) : Link.Inv { a.link with
          collisions := bump 65535 a.link.collisions
          lateCollisions := if late then bump 65535 a.link.lateCollisions else a.link.lateCollisions } := by
        refine ⟨i.1, i.2, i.3, i.4, i.5, Nat.min_le_left _ _, ?_, i.8, i.9, i.10⟩
        show (if late then _ else _) ≤ _
        split
        · exact Nat.min_le_left _ _
        · exact i.7
      split
      · exact Act.Keeps.answerTx (h.linkTo (fun i => advance_inv (counted i)) advance_address)
      · rename_i g
        have g : a.link.gateOpen = true := by simpa using g
        split
        · refine Act.Keeps.answerTx ?_
          have one : Act.Keeps e a0 { a with link := { Link.advance { a.link with
              collisions := bump 65535 a.link.collisions
              lateCollisions := if late then bump 65535 a.link.lateCollisions else a.link.lateCollisions } with
                discards := bump 65535 a.link.discards } } := by
            refine h.linkTo (fun i => ?_) advance_address
            have j := advance_inv (counted i)
            exact ⟨j.1, j.2, j.3, j.4, j.5, j.6, j.7, Nat.min_le_left _ _, j.9, j.10⟩
          exact one.orLog
        · refine h.linkTo (fun i => ?_) rfl
          have j := counted i
          refine ⟨?_, nofun, j.3, fun c => ?_, j.5, j.6, j.7, j.8, j.9, j.10⟩
          · simpa [Link.length, Link.setHead, hx] using i.length
          · have c : a.link.gateOpen = false := c
            rw [g] at c
            cases c
    · exact h
  · exact h

/-! ### Start-up Controller -/

theorem bidsEnd (h : Act.Keeps e a0 a) : Act.Keeps e a0 (a.bidsEnd e) :=
  h.then_settles fun x => (Act.Settles.refl x).bidsEnd

theorem setMode {m : Mode} (k : m ≠ .start) (h : Act.Keeps e a0 a) : Act.Keeps e a0 (a.setMode e m) := by
  unfold Act.setMode
  simp only
  have g : Act.Keeps e a0 (((a.setStartup { a.startup with mode := m }).log .mode 255
      (n16 (bytes2 m.code a.startup.mode.code)) 0).push .modeChanged).evalDue :=
    (h.startupTo fun x => absurd x k).log.push.evalDue
  split
  · exact g
  · exact g.bidsEnd

theorem listenExpired (h : Act.Keeps e a0 a) : Act.Keeps e a0 (a.listenExpired e) := by
  unfold Act.listenExpired
  simp only
  have g : Act.Keeps e a0 (a.setStartup { a.startup with listenTimer := none }) := h.startupTo (by exact id)
  split
  · exact ((g.setMode (by simp)).openGate).startupTo (by exact id)
  · exact g

theorem joinExpired (h : Act.Keeps e a0 a) : Act.Keeps e a0 (a.joinExpired e) := by
  unfold Act.joinExpired
  simp only
  have g : Act.Keeps e a0 (a.setStartup { a.startup with joinTimer := none }) := h.startupTo (by exact id)
  split
  · exact g.setMode (by simp)
  · exact g

theorem cancelClose (h : Act.Keeps e a0 a) : Act.Keeps e a0 a.cancelClose := by
  unfold Act.cancelClose
  simp only
  refine Act.Keeps.startupTo (by exact id) (Act.Keeps.linkTo ?_ (by rfl) h)
  intro i
  refine ⟨?_, fun c => ?_, i.3, fun c => ⟨?_, ?_⟩, i.5, i.6, i.7, i.8, i.9, i.10⟩
  · simpa [Link.length] using i.length
  · have c : a.link.head = none := by simpa using c
    simp [i.head c]
  · simp [(i.closed c).1]
  · rcases (i.closed c).2 with x | x
    · simp [x]
    · right
      cases hx : a.link.head <;> simp_all [Link.headOnTheWire]

theorem duplicateHeard {n : Nat} (h : Act.Keeps e a0 a) : Act.Keeps e a0 (a.duplicateHeard e n) := by
  have one := (h.log (c := .duplicateAddress) (x := a.station) (d := n16 n) (y := n32 a.startup.mode.code)).setMode
    (m := .safe) (by simp)
  have next {b : Act} (g : Act.Keeps e a0 b) :
      Act.Keeps e a0 ((if b.link.gateOpen then b else b.openGate e).alert .duplicate none) := by
    refine Act.Keeps.alert ?_
    split
    · exact g
    · exact g.openGate
  unfold Act.duplicateHeard
  split
  all_goals first | exact next (one.startupTo (by exact id)).cancelClose | exact h

theorem mutedTest (h : Act.Keeps e a0 a) : Act.Keeps e a0 (a.mutedTest e) :=
  h.then_settles fun x => (Act.Settles.refl x).mutedTest

theorem muteOrder {dst src : Nat} (h : Act.Keeps e a0 a) : Act.Keeps e a0 (a.muteOrder e dst src) := by
  unfold Act.muteOrder
  repeat' split
  all_goals first
    | exact h
    | exact h.log
    | exact ((h.setMode (by simp)).startupTo (by exact id)).push

theorem unmuteOrder {dst src : Nat} (h : Act.Keeps e a0 a) : Act.Keeps e a0 (a.unmuteOrder e dst src) := by
  have g : Act.Keeps e a0 ((a.setMode e .join).cancelClose) := (h.setMode (by simp)).cancelClose
  have k : Act.Keeps e a0 (if (a.setMode e .join).cancelClose.link.gateOpen then
      ((a.setMode e .join).cancelClose.offerStateRoof .other e).2 else (a.setMode e .join).cancelClose.openGate e) := by
    split
    · exact g.offerStateRoof
    · exact g.openGate
  unfold Act.unmuteOrder
  split
  · exact h.log
  · split
    all_goals first | exact h.log | exact k.startupTo (by exact id)

theorem disarm {n : Nat} (h : Act.Keeps e a0 a) : Act.Keeps e a0 (a.disarm n) := by
  unfold Act.disarm
  split
  · exact (h.startupTo (by exact id)).log
  · exact h

theorem armingForAll {n : Nat} {v : Verb} (h : Act.Keeps e a0 a) : Act.Keeps e a0 (a.armingForAll n v) := by
  unfold Act.armingForAll
  split
  · exact h.disarm
  · exact h.log

theorem arm {n : Nat} (h : Act.Keeps e a0 a) : Act.Keeps e a0 (a.arm n) := (h.startupTo (by exact id)).log

theorem armingFrame {dst src : Nat} (h : Act.Keeps e a0 a) : Act.Keeps e a0 (a.armingFrame dst src) := by
  unfold Act.armingFrame
  split
  · exact h.disarm
  · exact h

theorem rejectLoad {m n : Nat} (h : Act.Keeps e a0 a) : Act.Keeps e a0 (a.rejectLoad e m n) :=
  ((h.startupTo (by exact id)).log).setMode (by simp)

/-- R164: an accepted load keeps every invariant; it alone sets the station address. -/
theorem acceptLoad {c : Loaded} {n : Nat} :
    (a.Interlocked e.cls.confirmed → (a.acceptLoad e c n).Interlocked e.cls.confirmed)
    ∧ (a.SlotsSafe → (a.acceptLoad e c n).SlotsSafe)
    ∧ (a.link.Inv → (a.acceptLoad e c n).link.Inv)
    ∧ (a.notices.Inv → (a.acceptLoad e c n).notices.Inv)
    ∧ (a.acceptLoad e c n).link.address = some c.station := by
  have one : Act.Keeps e a ((a.setStartup { a.startup with load := .accepted }).log .configLoaded c.station (n16 n)
      (identityWord c.bytes)) := ((refl a).startupTo (by exact id)).log
  generalize hb : (a.setStartup { a.startup with load := .accepted }).log .configLoaded c.station (n16 n)
      (identityWord c.bytes) = b at one
  have two : Act.Keeps e a { b with slots := ⟨b.slots.zero.load c .zero, b.slots.one.load c .one⟩ } := by
    refine one.slotsTo ?_ (by rfl)
    intro s
    refine ⟨fun j => ?_, s.duties⟩
    cases j
    · have := s.safe .zero
      exact ⟨this.1, this.2, this.3, this.4⟩
    · have := s.safe .one
      exact ⟨this.1, this.2, this.3, this.4⟩
  have three : Act.Keeps e a ((({ b with slots := ⟨b.slots.zero.load c .zero, b.slots.one.load c .one⟩ }).recomputeProfile
      e).iceDue).evalDue := (two.then_settles fun x => (Act.Settles.refl x).recomputeProfile).iceDue.evalDue
  generalize hd : ((({ b with slots := ⟨b.slots.zero.load c .zero, b.slots.one.load c .one⟩ } : Act).recomputeProfile
      e).iceDue).evalDue = d at three
  have last : Act.Keeps e { d with link := { d.link with address := some c.station } } (a.acceptLoad e c n) := by
    have : a.acceptLoad e c n = (({ d with link := { d.link with address := some c.station } } : Act).setMode e .listen
        ).setStartup { (({ d with link := { d.link with address := some c.station } } : Act).setMode e .listen).startup with
          listenTimer := some 500 } := by
      rw [← hd, ← hb]
      rfl
    rw [this]
    exact ((refl _).setMode (by simp)).startupTo (by exact id)
  refine ⟨fun x => last.interlock ?_, fun x => last.slots ?_, fun x => last.link ?_, fun x => last.notices ?_, last.address⟩
  · have := three.interlock x
    exact ⟨this.1, this.2⟩
  · have := three.slots x
    exact ⟨this.1, this.2⟩
  · have i := three.link x
    exact ⟨i.1, i.2, fun _ => rfl, i.4, i.5, i.6, i.7, i.8, i.9, i.10⟩
  · exact three.notices x

/-! ### Bid Unit -/

theorem bidDelivered {n : Nat} {b : BidPayload} (h : Act.Keeps e a0 a) : Act.Keeps e a0 (a.bidDelivered e n b) := by
  unfold Act.bidDelivered
  simp only
  split
  · split
    · exact h.evalDue.then_settles fun x => (Act.Settles.refl x).cede
    · exact h.evalDue
  · exact h.evalDue

theorem spacingExpired (h : Act.Keeps e a0 a) : Act.Keeps e a0 a.spacingExpired := (h.bidsTo).evalDue

/-- R100, R101: an admissible bid is for a duty that neither own slot holds. -/
theorem admissible_duty {k : BidKind} {i : Slot} {l : List (BidKind × Placed)} (h : a.admissible e k i l = true) (j : Slot) :
    (a.slots.get j).duty ≠ k.duty := by
  unfold Act.admissible Act.fits at h
  rw [Bool.and_eq_true] at h
  have h := h.2
  split at h
  · unfold Act.collectFits at h
    simp only [Bool.and_eq_true] at h
    have k := h.1.1.1.2
    unfold Act.ownPlaced placedSlots at k
    cases j <;> intro d <;> simp only [BidKind.duty] at d <;> simp [d] at k
  · unfold Act.scrapeFits at h
    simp only [Bool.and_eq_true] at h
    have k := h.1.1.2
    unfold Act.inView Act.ownPlaced placedSlots at k
    cases j <;> intro d <;> simp only [BidKind.duty] at d <;> simp [d] at k
  · cases h

theorem windowExpired (h : Act.Keeps e a0 a) : Act.Keeps e a0 (a.windowExpired e) := by
  unfold Act.windowExpired
  simp only
  have g : Act.Keeps e a0 { a with bids := { a.bids with windowTimer := none } } := h.bidsTo
  split
  · rename_i b hb
    split
    · split
      · rename_i m
        rw [Bool.and_eq_true] at m
        refine Act.Keeps.log (Act.Keeps.raise ?_ (Act.Keeps.push g.bidsTo))
        rw [Act.push_slots]
        exact admissible_duty m.2 _
      · exact Act.Keeps.push g.bidsTo
    · exact g
  · exact g

/-! ### Notice Queue -/

theorem withoutId_ids {id : Byte} {l : List HeldNotice} : id ∉ (withoutId id l).map fun h => h.notice.id := by
  intro m
  obtain ⟨h, hm, e⟩ := List.mem_map.mp m
  have := (List.mem_filter.mp hm).2
  simp [e] at this

/-- What the held notices are, but for the mark. -/
structure HeldInv (l : List HeldNotice) : Prop where
  ids : (l.map fun h => h.notice.id).Nodup
  named : ∀ h ∈ l, h.notice.id ≠ 0
  ends : ∀ h ∈ l, h.notice.start.toNat < h.notice.stop.toNat
  order : l.Pairwise fun x y => x.notice.stop.toNat ≤ y.notice.start.toNat

theorem heldInv (q : NoticeQueue) (i : q.Inv) : HeldInv q.held := ⟨i.ids, i.named, i.ends, i.order⟩

theorem HeldInv.sublist {l m : List HeldNotice} (s : m.Sublist l) (h : HeldInv l) : HeldInv m :=
  ⟨(s.map _).nodup h.ids, fun x k => h.named x (s.subset k), fun x k => h.ends x (s.subset k), h.order.sublist s⟩

theorem insertByStart_perm (h : HeldNotice) (l : List HeldNotice) : (insertByStart h l).Perm (h :: l) := by
  induction l with
  | nil => exact .refl _
  | cons x l ih =>
    unfold insertByStart
    split
    · exact .refl _
    · exact (ih.cons x).trans (.swap h x l)

/-- R111, R115: a notice that overlaps none takes its place. -/
theorem insertByStart_inv {h : HeldNotice} {l : List HeldNotice} (i : HeldInv l)
    (new : h.notice.id ∉ l.map fun x => x.notice.id) (named : h.notice.id ≠ 0)
    (ends : h.notice.start.toNat < h.notice.stop.toNat) (apart : ∀ x ∈ l, Notice.overlaps h.notice x.notice = false) :
    HeldInv (insertByStart h l) := by
  have p := insertByStart_perm h l
  refine ⟨?_, fun x k => ?_, fun x k => ?_, ?_⟩
  · rw [(p.map _).nodup_iff, List.map_cons, List.nodup_cons]
    exact ⟨new, i.ids⟩
  · rcases List.mem_cons.mp (p.mem_iff.mp k) with y | y
    · exact y ▸ named
    · exact i.named x y
  · rcases List.mem_cons.mp (p.mem_iff.mp k) with y | y
    · exact y ▸ ends
    · exact i.ends x y
  · clear p new
    induction l with
    | nil => exact List.pairwise_singleton _ _
    | cons x l ih =>
      have sub : HeldInv l := i.sublist (List.sublist_cons_self x l)
      have ap := apart x List.mem_cons_self
      have ex := i.ends x List.mem_cons_self
      simp only [Notice.overlaps, Bool.and_eq_false_iff, decide_eq_false_iff_not] at ap
      unfold insertByStart
      split
      · refine List.pairwise_cons.mpr ⟨fun y k => ?_, i.order⟩
        rcases List.mem_cons.mp k with z | z
        · subst z
          omega
        · have := (List.pairwise_cons.mp i.order).1 y z
          omega
      · refine List.pairwise_cons.mpr ⟨fun y k => ?_, ih sub fun y k => apart y (List.mem_cons_of_mem _ k)⟩
        rcases List.mem_cons.mp ((insertByStart_perm h l).mem_iff.mp k) with z | z
        · subst z
          omega
        · exact (List.pairwise_cons.mp i.order).1 y z

/-- R117: the mark names a held notice still. -/
theorem markHeld_of {q : NoticeQueue} {l : List HeldNotice} (m : q.MarkHeld)
    (k : ∀ h ∈ q.held, q.current = some h.notice.id → h ∈ l) : NoticeQueue.MarkHeld { q with held := l } := by
  intro id c
  have c : q.current = some id := c
  obtain ⟨h, hm, e⟩ := List.mem_map.mp (m id c)
  have e : h.notice.id = id := e
  exact List.mem_map.mpr ⟨h, k h hm (by rw [c, e]), e⟩

theorem withoutId_mem {id : Byte} {l : List HeldNotice} {h : HeldNotice} (k : h ∈ l) (n : h.notice.id ≠ id) :
    h ∈ withoutId id l := List.mem_filter.mpr ⟨k, by simpa using n⟩

theorem insertNotice {n : Notice} {late : Bool} {l : List HeldNotice}
    (k : a.notices.Inv → NoticeQueue.Inv { a.notices with
      held := insertByStart { notice := n, late := late, pointReached := false } l })
    (h : Act.Keeps e a0 a) : Act.Keeps e a0 (a.insertNotice n late l) := by
  have g : Act.Keeps e a0 (a.setHeld (insertByStart { notice := n, late := late, pointReached := false } l)) :=
    h.noticesTo k
  unfold Act.insertNotice
  exact g.log.push

theorem admitNotice {n : Notice} {late : Bool} (named : n.id ≠ 0) (ends : n.start.toNat < n.stop.toNat)
    (free : a.notices.current ≠ some n.id) (h : Act.Keeps e a0 a) : Act.Keeps e a0 (a.admitNotice n late) := by
  unfold Act.admitNotice
  simp only
  have place {l : List HeldNotice} (s : l.Sublist (withoutId n.id a.notices.held)) (len : l.length < 6)
      (apart : ∀ x ∈ l, Notice.overlaps n x.notice = false)
      (keep : ∀ x ∈ a.notices.held, a.notices.current = some x.notice.id → x ∈ l) (i : a.notices.Inv) :
      NoticeQueue.Inv { a.notices with held := insertByStart { notice := n, late := late, pointReached := false } l } := by
    have sub : HeldInv l := (heldInv _ i).sublist (s.trans List.filter_sublist)
    have new : n.id ∉ l.map fun x => x.notice.id := fun m => withoutId_ids ((s.map _).subset m)
    have g := insertByStart_inv (h := { notice := n, late := late, pointReached := false }) sub new named ends apart
    have p := insertByStart_perm { notice := n, late := late, pointReached := false } l
    refine ⟨?_, g.ids, g.named, g.ends, g.order, markHeld_of i.mark fun x m c => ?_⟩
    · rw [p.length_eq]
      simpa using len
    · exact p.mem_iff.mpr (List.mem_cons_of_mem _ (keep x m c))
  have stays (x : HeldNotice) (m : x ∈ a.notices.held) (c : a.notices.current = some x.notice.id) :
      x ∈ withoutId n.id a.notices.held := withoutId_mem m fun e => free (e ▸ c)
  split
  · exact h.log
  · rename_i ov
    have apart : ∀ x ∈ withoutId n.id a.notices.held, Notice.overlaps n x.notice = false := by
      intro x m
      simp only [List.any_eq_true, not_exists, not_and, Bool.not_eq_true] at ov
      exact ov x m
    split
    · rename_i len
      exact h.insertNotice (place (List.Sublist.refl _) len apart stays)
    · rename_i len
      split
      · rename_i far hf
        split
        · rename_i fine
          refine Act.Keeps.insertNotice ?_ h.log
          intro i
          have total : (withoutId n.id a.notices.held).length ≤ 6 :=
            (List.length_filter_le _ _).trans i.length
          refine place (List.dropLast_sublist _) (by rw [List.length_dropLast]; omega)
            (fun x m => apart x (List.dropLast_subset _ m)) (fun x m c => ?_) i
          have y := stays x m c
          rw [← List.dropLast_append_getLast? far hf] at y
          rcases List.mem_append.mp y with z | z
          · exact z
          · have z : x = far := by simpa using z
            subst z
            simp [NoticeQueue.isCurrent, c] at fine
        · exact h.log
      · rename_i hf
        rw [List.getLast?_eq_none_iff] at hf
        rw [hf] at len
        exact absurd (by simp : (0 : Nat) < 6) len

theorem routeTaken {n : Notice} (named : n.id ≠ 0) (h : Act.Keeps e a0 a) : Act.Keeps e a0 (a.routeTaken e n) := by
  unfold Act.routeTaken
  split
  · exact h.log
  · rename_i k
    have ends : n.start.toNat < n.stop.toNat ∧ a.notices.current ≠ some n.id := by
      unfold NoticeQueue.formReason NoticeQueue.isCurrent at k
      split at k
      · cases k
      · split at k
        · cases k
        · split at k
          · cases k
          · rename_i x _ y
            simp only [decide_eq_true_eq] at y
            exact ⟨by omega, y⟩
    simp only
    split <;> split
    all_goals first | exact h.log | exact h.admitNotice named ends.1 ends.2

/-- Some held notices leave, none of them current. -/
theorem heldTo {l : List HeldNotice} (s : l.Sublist a.notices.held)
    (k : ∀ x ∈ a.notices.held, a.notices.current = some x.notice.id → x ∈ l) (h : Act.Keeps e a0 a) :
    Act.Keeps e a0 (a.setHeld l) := by
  refine h.noticesTo fun i => ?_
  have g := (heldInv _ i).sublist s
  exact ⟨s.length_le.trans i.length, g.ids, g.named, g.ends, g.order, markHeld_of i.mark k⟩

theorem cancelTaken {id : Byte} (h : Act.Keeps e a0 a) : Act.Keeps e a0 (a.cancelTaken id) := by
  unfold Act.cancelTaken
  split
  · exact h.log
  · split
    · exact h.log
    · rename_i free
      refine Act.Keeps.push (Act.Keeps.log (h.heldTo List.filter_sublist fun x m c => withoutId_mem m fun e => ?_))
      simp [NoticeQueue.isCurrent, c, e] at free

theorem flushNotices (h : Act.Keeps e a0 a) : Act.Keeps e a0 (a.flushNotices e) := by
  have g : Act.Keeps e a0 { a with notices := { a.notices with held := [], current := none } } := by
    refine h.noticesTo fun _ => ?_
    exact ⟨by simp, by simp, by simp, by simp, by simp, nofun⟩
  exact g.log.push.push

theorem reviewNotices (h : Act.Keeps e a0 a) : Act.Keeps e a0 (a.reviewNotices e) := by
  unfold Act.reviewNotices
  simp only
  split
  · exact h
  · have one : Act.Keeps e a0 (if (a.notices.held.filter (HeldNotice.passed (a.rearPosition e))).any
          (fun h => decide (a.notices.current = some h.notice.id)) then
        { a.setHeld (a.notices.held.filter fun h => !h.passed (a.rearPosition e)) with
          notices := { (a.setHeld (a.notices.held.filter fun h => !h.passed (a.rearPosition e))).notices with
            current := none } }
        else a.setHeld (a.notices.held.filter fun h => !h.passed (a.rearPosition e))) := by
      split
      · refine h.noticesTo (a := a) (q := { a.notices with
          held := a.notices.held.filter fun h => !h.passed (a.rearPosition e), current := none }) fun i => ?_
        have g := (heldInv _ i).sublist
          (List.filter_sublist (l := a.notices.held) (p := fun h => !h.passed (a.rearPosition e)))
        exact ⟨List.filter_sublist.length_le.trans i.length, g.ids, g.named, g.ends, g.order, nofun⟩
      · rename_i lost
        refine h.heldTo List.filter_sublist fun x m c => List.mem_filter.mpr ⟨m, ?_⟩
        simp only [List.any_eq_true, not_exists, not_and, decide_eq_true_eq] at lost
        cases p : x.passed (a.rearPosition e)
        · rfl
        · exact absurd c (lost x (List.mem_filter.mpr ⟨m, p⟩))
    have two := one.then_settles fun x => Act.Settles.foldl (e := e) (a0 := x)
      (f := fun a' h => Act.logRetired a.notices.current h a') (fun _ _ k => k.log)
      (a.notices.held.filter (HeldNotice.passed (a.rearPosition e))) (.refl x)
    refine Act.Keeps.push ?_
    split
    · rename_i lost
      rw [if_pos lost] at two
      exact two.push
    · rename_i lost
      rw [if_neg lost] at two
      exact two

theorem noticeReview (h : Act.Keeps e a0 a) : Act.Keeps e a0 (a.noticeReview e) := by
  refine Act.Keeps.reviewNotices (h.noticesTo fun i => ?_)
  exact ⟨i.1, i.2, i.3, i.4, i.5, i.6⟩

/-! ### Roof Sequencer -/

theorem ask {q : Request} (h : Act.Keeps e a0 a) : Act.Keeps e a0 (a.ask e q) :=
  h.then_settles fun x => (Act.Settles.refl x).ask

theorem retryExpired (h : Act.Keeps e a0 a) : Act.Keeps e a0 (a.retryExpired e) := by
  unfold Act.retryExpired
  simp only
  split
  · split
    · exact h.seqTo.ask
    · exact h.seqTo
  · exact h.seqTo

theorem testRetryExpired (h : Act.Keeps e a0 a) : Act.Keeps e a0 (a.testRetryExpired e) := by
  unfold Act.testRetryExpired
  simp only
  split
  · exact h.seqTo.then_settles fun x => (Act.Settles.refl x).askTest
  · exact h.seqTo.then_settles fun x => (Act.Settles.refl x).askTest
  · exact h.seqTo

theorem powerlessExpired (h : Act.Keeps e a0 a) : Act.Keeps e a0 a.powerlessExpired := by
  unfold Act.powerlessExpired
  simp only
  split
  · exact h.seqTo.seqTo.log
  · exact h.seqTo

theorem noSupplyExpired (h : Act.Keeps e a0 a) : Act.Keeps e a0 a.noSupplyExpired := by
  unfold Act.noSupplyExpired
  simp only
  split
  · exact h.seqTo.log.alert
  · exact h.seqTo

theorem recloseHoldExpired (h : Act.Keeps e a0 a) : Act.Keeps e a0 (a.recloseHoldExpired e) := by
  unfold Act.recloseHoldExpired
  simp only
  split
  · exact h.seqTo.then_settles fun x => (Act.Settles.refl x).sense
  · exact h.seqTo

theorem positionsMoved (h : Act.Keeps e a0 a) : Act.Keeps e a0 (a.positionsMoved e) :=
  h.then_settles fun x => (Act.Settles.refl x).positionsMoved

theorem seqReview (h : Act.Keeps e a0 a) : Act.Keeps e a0 (a.seqReview e) := h.seqTo.positionsMoved

theorem resumeOrder {n : Nat} (h : Act.Keeps e a0 a) : Act.Keeps e a0 (a.resumeOrder e n) := by
  unfold Act.resumeOrder
  split
  · exact h.log
  · simp only
    split
    · exact h.seqTo.seqTo.then_settles fun x => (Act.Settles.refl x).enterSensing
    · exact h.seqTo.seqTo.then_settles fun x => (Act.Settles.refl x).enterPrepare

/-! ### Ice Unit -/

theorem arcPulse {i : Slot} {n : Nat} (h : Act.Keeps e a0 a) : Act.Keeps e a0 (a.arcPulse i n) := by
  unfold Act.arcPulse
  simp only
  split
  · exact h.iceTo
  · exact h

theorem retractScrapers {f : Slot → Act → Bool} {n : Nat} (h : Act.Keeps e a0 a) :
    Act.Keeps e a0 (a.retractScrapers e f n) := h.then_settles fun x => (Act.Settles.refl x).retractScrapers

theorem setLevel {m n : Nat} (h : Act.Keeps e a0 a) : Act.Keeps e a0 (a.setLevel e m n) := by
  unfold Act.setLevel
  simp only
  split
  · exact h
  · split
    · exact h.iceTo.log.recompute.iceDue.evalDue.retractScrapers
    · exact h.iceTo.log.recompute.iceDue.evalDue

theorem reforce (h : Act.Keeps e a0 a) : Act.Keeps e a0 (a.reforce e) := by
  unfold Act.reforce
  split
  · exact h.iceTo
  · split
    · exact h
    · exact h.iceTo.setLevel

theorem evaluateLevel {c : Loaded} (h : Act.Keeps e a0 a) : Act.Keeps e a0 (a.evaluateLevel e c) := by
  unfold Act.evaluateLevel
  simp only
  repeat' split
  all_goals first | exact h.iceTo.setLevel | exact h.iceTo

theorem takeReading {t : Int} (h : Act.Keeps e a0 a) : Act.Keeps e a0 (a.takeReading t) := by
  unfold Act.takeReading
  simp only
  repeat' split
  all_goals first | exact h.iceTo | exact h.iceTo.log

theorem intervalEnd (h : Act.Keeps e a0 a) : Act.Keeps e a0 (a.intervalEnd e) := by
  unfold Act.intervalEnd
  simp only
  repeat' split
  all_goals first | exact h.iceTo.takeReading.reforce.evaluateLevel | exact h.iceTo.takeReading.reforce

theorem peerDropped (h : Act.Keeps e a0 a) : Act.Keeps e a0 (a.peerDropped e) := by
  unfold Act.peerDropped
  split
  · exact h.iceTo.setLevel
  · exact h

theorem iceNotices (h : Act.Keeps e a0 a) : Act.Keeps e a0 (a.iceNotices e) :=
  h.then_settles fun x => (Act.Settles.refl x).iceNotices

theorem iceReviewExpired (h : Act.Keeps e a0 a) : Act.Keeps e a0 (a.iceReviewExpired e) := h.iceTo.iceNotices

/-! ### Line Classifier and Peer View -/

theorem logClassifier {l : List ClsRecord} (h : Act.Keeps e a0 a) : Act.Keeps e a0 (a.logClassifier l) :=
  h.then_settles fun x => Act.Settles.foldl (fun _ _ k => k.log) l (.refl x)

theorem recomputeProfile (h : Act.Keeps e a0 a) : Act.Keeps e a0 (a.recomputeProfile e) :=
  h.then_settles fun x => (Act.Settles.refl x).recomputeProfile

theorem confirmedChanged (h : Act.Keeps e a0 a) : Act.Keeps e a0 (a.confirmedChanged e) :=
  h.supplyChecked.recomputeProfile.evalDue.push

/-- R31: a change of the confirmed system. -/
theorem confirmedChanged_interlocked {c : Confirmed} (h : a.Interlocked c) :
    (a.confirmedChanged e).Interlocked e.cls.confirmed :=
  ((refl _).recomputeProfile.evalDue.push).interlock (supplyChecked_interlocked h)

theorem viewChanged (h : Act.Keeps e a0 a) : Act.Keeps e a0 a.viewChanged := h.iceDue.evalDue

theorem logAuthority {v w : PeerView} (h : Act.Keeps e a0 a) : Act.Keeps e a0 (a.logAuthority v w) := by
  unfold Act.logAuthority
  simp only
  repeat' split
  all_goals first | exact h.log.log | exact h.log | exact h

theorem controlsChanged {v : PeerView} (h : Act.Keeps e a0 a) : Act.Keeps e a0 (a.controlsChanged v e) := by
  unfold Act.controlsChanged
  simp only
  have one : Act.Keeps e a0 (if decide (e.pv.authority ≠ v.authority) || decide (e.pv.permit ≠ v.permit) then
      (a.push .permitChanged).evalDue else a) := by
    split
    · exact h.push.evalDue
    · exact h
  generalize (if decide (e.pv.authority ≠ v.authority) || decide (e.pv.permit ≠ v.permit) then
      (a.push .permitChanged).evalDue else a) = b at one ⊢
  have two : Act.Keeps e a0 (if decide (e.pv.authority ≠ v.authority) || decide (e.pv.expected ≠ v.expected) then
      (b.recomputeProfile e).evalDue else b) := by
    split
    · exact one.recomputeProfile.evalDue
    · exact one
  split
  · exact two
  · exact two.reforce

theorem cabTaken (h : Act.Keeps e a0 a) : Act.Keeps e a0 (a.cabTaken e) := h.recompute.reviewNotices.push

/-! ### Time -/

theorem elapse {n : Nat} (h : Act.Keeps e a0 a) : Act.Keeps e a0 (a.elapse n) := by
  refine h.trans ⟨⟨fun s => ⟨fun i => ?_, s.duties⟩, fun i => ?_, fun i => ?_, rfl, id⟩, fun x => ⟨x.1, x.2⟩⟩
  · cases i
    · exact ⟨(s.safe .zero).1, (s.safe .zero).2, (s.safe .zero).3, (s.safe .zero).4⟩
    · exact ⟨(s.safe .one).1, (s.safe .one).2, (s.safe .one).3, (s.safe .one).4⟩
  · exact ⟨i.1, i.2, i.3, i.4, i.5, i.6, i.7, i.8, i.9, i.10⟩
  · exact ⟨i.1, i.2, i.3, i.4, i.5, i.6⟩

end Act.Keeps

end Sys2Proof.Machine
end

