-- ==== Sys2Proof/Laws/Ring.lean ====
section
/-! SUPPORT. The event ring: writing, attention, the passing of time and ACK keep `Ring.Inv`. -/

namespace Sys2Proof.Machine

theorem Ring.attend_inv {r : Ring} (length : r.records.length ≤ 128) (numbered : r.Numbered)
    (dropped : 0 < r.dropped → r.records.length = 128) (range : r.dropped ≤ 4294967295) : (Ring.attend r).Inv := by
  unfold Ring.attend
  split
  · exact ⟨length, numbered, dropped, range, fun _ _ => rfl⟩
  · rename_i k
    exact ⟨length, numbered, dropped, range, fun x y => absurd ⟨x, y⟩ k⟩

theorem n16_sub {s : Half} {m n : Nat} (h : n ≤ m) : s + 1 - n16 (m + 1 - n) = s - n16 (m - n) := by
  have : n16 (m + 1 - n) = n16 (m - n) + 1 := by
    rw [show m + 1 - n = m - n + 1 by omega]
    unfold n16
    rw [BitVec.ofNat_add]
    rfl
  rw [this]
  bv_omega

/-- R172: a record that joins takes the next number. -/
theorem Ring.numbered_write {r : Ring} (h : r.Numbered) (now : Nat) (e : LogEntry) :
    Ring.Numbered { r with
      records := r.records ++ [{ seq := r.sequence, time := n32 now, entry := e }], sequence := r.sequence + 1 } := by
  unfold Ring.Numbered at h ⊢
  simp only [List.map_append, List.map_cons, List.map_nil, List.length_append, List.length_cons, List.length_nil,
    List.range_succ]
  congr 1
  · rw [h]
    refine List.map_congr_left fun n m => ?_
    exact (n16_sub (List.mem_range.mp m).le).symm
  · simp [n16]

theorem Ring.write_inv {r : Ring} (h : r.Inv) (now : Nat) (e : LogEntry) : ((r.write now e).attend).Inv := by
  unfold Ring.write
  split
  · rename_i k
    refine Ring.attend_inv ?_ (Ring.numbered_write h.numbered now e) (fun d => ?_) h.droppedRange
    · simpa using k
    · have := h.dropped d
      omega
  · rename_i k
    exact Ring.attend_inv h.length h.numbered (fun _ => by have := h.length; show r.records.length = 128; omega)
      (Nat.min_le_left _ _)

theorem Ring.writeAll_inv {r : Ring} (h : r.Inv) (now : Nat) (es : List LogEntry) : (r.writeAll now es).Inv := by
  unfold Ring.writeAll
  induction es generalizing r with
  | nil => exact h
  | cons e es ih => exact ih (Ring.write_inv h now e)

theorem Ring.elapse_inv {r : Ring} (h : r.Inv) (n : Nat) : (r.elapse n).Inv :=
  Ring.attend_inv h.length h.numbered h.dropped h.droppedRange

/-- R173, R176: the records left are numbered as before. -/
theorem Ring.numbered_drop {r : Ring} (h : r.Numbered) (n : Nat) :
    Ring.Numbered { r with records := r.records.drop n } := by
  unfold Ring.Numbered at h ⊢
  simp only [List.map_drop, List.length_drop, h]
  refine List.ext_getElem (by simp) fun i h1 h2 => ?_
  simp only [List.length_map, List.length_range] at h2
  simp only [List.getElem_drop, List.getElem_map, List.getElem_range]
  rw [show r.records.length - (n + i) = r.records.length - n - i by omega]

theorem State.ackRing_inv {s : State} (h : s.ring.Inv) (k : Nat) : (s.ackRing k).Inv := by
  have len := h.length
  have num := Ring.numbered_drop h.numbered (min k s.ring.records.length)
  unfold State.ackRing
  simp only
  split
  · rename_i c
    have short : (s.ring.records.drop (min k s.ring.records.length)).length < 128 := by
      rw [List.length_drop]
      omega
    refine Ring.attend_inv ?_ ?_ (fun d => absurd d (by simp)) (by simp)
    · simp only [Ring.write, short, if_true, List.length_append, List.length_cons, List.length_nil]
      omega
    · simp only [Ring.write, short, if_true]
      exact Ring.numbered_write num _ _
  · rename_i c
    refine Ring.attend_inv ?_ num (fun d => ?_) h.droppedRange
    · simp only [List.length_drop]
      omega
    · have d : 0 < s.ring.dropped := d
      have := h.dropped d
      simp only [List.length_drop]
      omega

end Sys2Proof.Machine
end

