-- ==== Sys2Proof/Laws/Peers.lean ====
section
/-! SUPPORT. The Peer View: what the peer table's operations do to its entries and to its order, and how authority, hold and geometry
follow. -/

namespace Sys2Proof.Machine

/-! ### The table -/

theorem upsert_mem {p x : Peer} {l : List Peer} (h : x ∈ upsert p l) : x = p ∨ x ∈ l := by
  induction l with
  | nil => exact .inl (by simpa [upsert] using h)
  | cons y l ih =>
    unfold upsert at h
    split at h
    · simpa using h
    · split at h
      · rcases List.mem_cons.mp h with k | k
        · exact .inl k
        · exact .inr (List.mem_cons_of_mem _ k)
      · rcases List.mem_cons.mp h with k | k
        · exact .inr (k ▸ List.mem_cons_self)
        · exact (ih k).imp id (List.mem_cons_of_mem _)

/-- The entry put is found under its address, and every other address finds what it found before. -/
theorem upsert_find (p : Peer) (a : Nat) (l : List Peer) :
    (upsert p l).find? (fun x => decide (x.address = a)) =
      if a = p.address then some p else l.find? (fun x => decide (x.address = a)) := by
  induction l with
  | nil =>
    by_cases k : a = p.address
    · simp [upsert, k]
    · simp [upsert, k, Ne.symm k]
  | cons y l ih =>
    unfold upsert
    by_cases k : a = p.address
    · subst k
      simp only [if_true] at ih ⊢
      split
      · simp
      · split
        · simp
        · rename_i n1 n2
          simp [Ne.symm n2, ih]
    · simp only [if_neg k] at ih ⊢
      split
      · simp [Ne.symm k]
      · split
        · rename_i n2
          simp [Ne.symm k, ← n2]
        · simp [List.find?_cons, ih]

theorem PeerView.entry_put (v : PeerView) (p : Peer) (a : Nat) :
    (v.put p).entry a = if a = p.address then some p else v.entry a := upsert_find p a v.table

theorem PeerView.entry_drop (v : PeerView) (n a : Nat) :
    (v.drop n).entry a = if a = n then none else v.entry a := by
  unfold PeerView.entry PeerView.drop
  simp only
  induction v.table with
  | nil => simp
  | cons x l ih =>
    by_cases k : x.address = n
    · simp only [List.filter_cons, k, ne_eq, not_true_eq_false, decide_false, Bool.false_eq_true, if_false, ih]
      split
      · rfl
      · rename_i m
        simp [k, Ne.symm m]
    · simp only [List.filter_cons, k, ne_eq, not_false_eq_true, decide_true, if_true, List.find?_cons, ih]
      by_cases m : x.address = a
      · simp only [m, decide_true]
        rw [if_neg (by rw [← m]; exact k)]
      · simp only [m, decide_false]

theorem PeerView.entry_address {v : PeerView} {a : Nat} {p : Peer} (h : v.entry a = some p) : p.address = a := by
  have := List.find?_some h
  simpa using this

theorem PeerView.entry_mem {v : PeerView} {a : Nat} {p : Peer} (h : v.entry a = some p) : p ∈ v.table :=
  List.mem_of_find?_eq_some h

theorem PeerView.entry_elapse (v : PeerView) (n a : Nat) : (v.elapse n).entry a = (v.entry a).map (Peer.elapse n) := by
  unfold PeerView.entry PeerView.elapse
  simp only
  induction v.table with
  | nil => rfl
  | cons x l ih =>
    have : (Peer.elapse n x).address = x.address := rfl
    simp only [List.map_cons, List.find?_cons, this]
    split
    · rfl
    · exact ih

/-- Increasing order of address (R75). -/
def Ordered (l : List Peer) : Prop := (l.map Peer.address).Pairwise (· < ·)

theorem upsert_ordered {p : Peer} {l : List Peer} (h : Ordered l) : Ordered (upsert p l) := by
  unfold Ordered at h ⊢
  rw [List.pairwise_map] at h ⊢
  induction l with
  | nil => exact List.pairwise_singleton _ _
  | cons x l ih =>
    have hx := List.pairwise_cons.mp h
    unfold upsert
    split
    · rename_i k
      refine List.pairwise_cons.mpr ⟨fun y m => ?_, h⟩
      rcases List.mem_cons.mp m with z | z
      · exact z ▸ k
      · exact k.trans (hx.1 y z)
    · split
      · rename_i k
        exact List.pairwise_cons.mpr ⟨fun y m => k ▸ hx.1 y m, hx.2⟩
      · rename_i k1 k2
        refine List.pairwise_cons.mpr ⟨fun y m => ?_, ih hx.2⟩
        rcases upsert_mem m with z | z
        · rw [z]
          omega
        · exact hx.1 y z

/-- With an entry for each address once, an entry is the one its address finds. -/
theorem Ordered.entry {v : PeerView} (h : Ordered v.table) {p : Peer} (m : p ∈ v.table) : v.entry p.address = some p := by
  unfold Ordered at h
  rw [List.pairwise_map] at h
  unfold PeerView.entry
  generalize v.table = l at h m
  induction l with
  | nil => cases m
  | cons x l ih =>
    have hx := List.pairwise_cons.mp h
    rcases List.mem_cons.mp m with k | k
    · subst k
      simp
    · have := hx.1 p k
      rw [List.find?_cons_of_neg (by simp; omega)]
      exact ih hx.2 k

/-! ### The authority (R82) -/

/-- The address that one entry gives to the list of owning cabs. -/
def ownsAs (p : Peer) : Option Nat :=
  match p.last with
  | .cab x => if p.fresh ∧ x.claim = .owning then some p.address else none
  | .roof _ => none

theorem owners_eq (v : PeerView) : v.owners = v.table.filterMap ownsAs := rfl

/-- An entry put in place of one of its address that owned as it does, or where there is none and it does not own. -/
theorem owners_put {v : PeerView} {p : Peer} (h : Ordered v.table)
    (k : ∀ q, v.entry p.address = some q → ownsAs q = ownsAs p) (n : v.entry p.address = none → ownsAs p = none) :
    (v.put p).owners = v.owners := by
  rw [owners_eq, owners_eq]
  have h' := h
  unfold Ordered at h'
  rw [List.pairwise_map] at h'
  unfold PeerView.put PeerView.entry at *
  simp only at k n ⊢
  generalize v.table = l at h' k n
  clear h
  induction l with
  | nil =>
    have := n rfl
    simp [upsert, this]
  | cons x l ih =>
    have hx := List.pairwise_cons.mp h'
    unfold upsert
    split
    · rename_i c
      have none : (x :: l).find? (fun y => decide (y.address = p.address)) = none := by
        rw [List.find?_eq_none]
        intro y m
        rcases List.mem_cons.mp m with z | z
        · subst z
          simp; omega
        · have := hx.1 y z
          simp; omega
      simp [List.filterMap_cons, n none]
    · split
      · rename_i c
        have := k x (by simp [c])
        simp [List.filterMap_cons, this]
      · rename_i c1 c2
        have c3 : ¬ x.address = p.address := fun z => c2 z.symm
        rw [List.filterMap_cons, List.filterMap_cons, ih hx.2 (fun q m => k q (by simpa [c3] using m))
          (fun m => n (by simpa [c3] using m))]

theorem owners_drop {v : PeerView} {n : Nat} (h : ∀ p ∈ v.table, p.address = n → ownsAs p = none) :
    (v.drop n).owners = v.owners := by
  rw [owners_eq, owners_eq]
  unfold PeerView.drop
  simp only
  generalize v.table = l at h
  induction l with
  | nil => rfl
  | cons x l ih =>
    have := ih fun p m => h p (List.mem_cons_of_mem _ m)
    by_cases k : x.address = n
    · simp [k, h x List.mem_cons_self k, ← this]
    · simp [k, List.filterMap_cons, ← this]

theorem owners_elapse (v : PeerView) (n : Nat) : (v.elapse n).owners = v.owners := by
  rw [owners_eq, owners_eq]
  unfold PeerView.elapse
  simp only [List.filterMap_map]
  rfl

/-! ### The invariant -/

/-- The part of `PeerView.Inv` that speaks of the table. -/
structure TableInv (l : List Peer) : Prop where
  order : Ordered l
  range : ∀ p ∈ l, 1 ≤ p.address ∧ p.address ≤ 15
  aging : ∀ p ∈ l, p.ageTimer.isSome = p.fresh ∧ p.removalTimer.isSome = !p.fresh
  bids : ∀ p ∈ l, p.bidTimer.isSome = p.bid.isSome

theorem PeerView.Inv.table {v : PeerView} (h : v.Inv) : TableInv v.table := ⟨h.order, h.range, h.aging, h.bids⟩

theorem TableInv.upsert {p : Peer} {l : List Peer} (h : TableInv l) (range : 1 ≤ p.address ∧ p.address ≤ 15)
    (aging : p.ageTimer.isSome = p.fresh ∧ p.removalTimer.isSome = !p.fresh) (bids : p.bidTimer.isSome = p.bid.isSome) :
    TableInv (upsert p l) := by
  refine ⟨upsert_ordered h.order, fun x m => ?_, fun x m => ?_, fun x m => ?_⟩ <;> rcases upsert_mem m with k | k
  · exact k ▸ range
  · exact h.range x k
  · exact k ▸ aging
  · exact h.aging x k
  · exact k ▸ bids
  · exact h.bids x k

theorem TableInv.filter {f : Peer → Bool} {l : List Peer} (h : TableInv l) : TableInv (l.filter f) :=
  ⟨h.order.sublist (List.filter_sublist.map _), fun x m => h.range x (List.mem_of_mem_filter m),
    fun x m => h.aging x (List.mem_of_mem_filter m), fun x m => h.bids x (List.mem_of_mem_filter m)⟩

/-- R82, R83: recomputed over any table in order, authority, conflict flag and hold are as the invariant says. -/
theorem PeerView.reauthorize_inv {v : PeerView} (t : TableInv v.table)
    (holding : v.hold = .holding ↔ v.holdTimer.isSome = true)
    (speed : v.geometry.speed ≤ 4000) (length : v.geometry.length ≤ 8000) : v.reauthorize.Inv := by
  unfold PeerView.reauthorize
  simp only
  cases hh : v.hold <;> cases ho : authorityOf v.owners <;> simp only <;>
    refine ⟨t.order, t.range, t.aging, t.bids, ?_, ?_, ?_, ?_, speed, length⟩ <;>
    first
      | exact ho.symm
      | rfl
      | simp_all

theorem PeerView.elapse_inv {v : PeerView} (h : v.Inv) (n : Nat) : (v.elapse n).Inv := by
  refine ⟨?_, ?_, ?_, ?_, ?_, ?_, h.present, ?_, h.speed, h.length⟩
  · have := h.order
    simpa [PeerView.elapse, List.map_map, Function.comp_def, Peer.elapse] using this
  · intro p m
    obtain ⟨q, k, rfl⟩ := List.mem_map.mp m
    exact h.range q k
  · intro p m
    obtain ⟨q, k, rfl⟩ := List.mem_map.mp m
    simpa [Peer.elapse, Timer.elapse] using h.aging q k
  · intro p m
    obtain ⟨q, k, rfl⟩ := List.mem_map.mp m
    simpa [Peer.elapse, Timer.elapse] using h.bids q k
  · rw [owners_elapse]
    exact h.authority
  · rw [owners_elapse]
    exact h.conflict
  · simpa [PeerView.elapse, Timer.elapse] using h.holding

/-- R77, R79: an entry as a STATE frame leaves it runs its age timer, and its bid timer with a pending bid. -/
theorem heardPeer_timers {now a : Nat} {x : StatePayload} {old : Option Peer}
    (h : ∀ p, old = some p → p.bidTimer.isSome = p.bid.isSome) :
    (heardPeer now a x old).address = a ∧ (heardPeer now a x old).last = x ∧ (heardPeer now a x old).fresh = true
    ∧ (heardPeer now a x old).ageTimer = some 150 ∧ (heardPeer now a x old).removalTimer = none
    ∧ (heardPeer now a x old).bidTimer.isSome = (heardPeer now a x old).bid.isSome := by
  unfold heardPeer
  cases old with
  | none => exact ⟨rfl, rfl, rfl, rfl, rfl, rfl⟩
  | some p =>
    have k := h p rfl
    simp only
    split
    · unfold Peer.heed Peer.clearBid
      split
      · split
        · exact ⟨rfl, rfl, rfl, rfl, rfl, rfl⟩
        · split
          · exact ⟨rfl, rfl, rfl, rfl, rfl, rfl⟩
          · exact ⟨rfl, rfl, rfl, rfl, rfl, k⟩
      · exact ⟨rfl, rfl, rfl, rfl, rfl, k⟩
    · exact ⟨rfl, rfl, rfl, rfl, rfl, rfl⟩

end Sys2Proof.Machine
end

