-- ==== Sys2Proof/WellFormed.lean ====
section
/-! DEFINITION. Well-formed commands: operands that the environment can present. The blocks check a frame's address and payload
fields themselves (R67, R68), so ill-formed frames are no matter of this file. -/

namespace Sys2Proof

/-- Peer entries have addresses 1 to 15 (R75). -/
def addressFits (n : Nat) : Bool := decide (1 ≤ n) && decide (n ≤ 15)

/-- A frame has at most 16 + 8 + 8 × (4 + 56 + 2) bits, preamble and delimiter included (R56, R57). -/
def bitFits (n : Nat) : Bool := decide (n < 520)

/-- A payload has at most 56 bytes (R57, R66). -/
def payloadFits (b : List Byte) : Bool := decide (b.length ≤ 56)

/-- An attempt clocks in 256 bytes (R163). -/
def bufferFits (b : List Byte) : Bool := decide (b.length = 256)

/-- The command is one that the environment can present. -/
def Instr.wf : Instr → Bool
  | .peerAgeExpiry a => addressFits a
  | .peerRemovalExpiry a => addressFits a
  | .peerBidTimerExpiry a => addressFits a
  | .collision n => bitFits n
  | .unknownKind _ _ _ p => payloadFits p
  | .configAttemptEnd b => bufferFits b
  | _ => true

end Sys2Proof
end

