-- ==== Sys2Proof/Tests/Slice0.lean ====
section
/-! SUPPORT. Small tests: ill-formed commands that the check refuses, the manual's worked values, and for every statement with
hypotheses a state and operands that meet them. -/

namespace Sys2Proof.Tests

open Sys2Proof Sys2Proof.Machine

/-! ### WellFormed: what each check refuses -/

theorem test_wf_age_expiry : Instr.wf (.peerAgeExpiry 0) = false ∧ Instr.wf (.peerAgeExpiry 15) = true := by decide
theorem test_wf_removal_expiry : Instr.wf (.peerRemovalExpiry 16) = false ∧ Instr.wf (.peerRemovalExpiry 1) = true := by
  decide
theorem test_wf_bid_expiry : Instr.wf (.peerBidTimerExpiry 16) = false ∧ Instr.wf (.peerBidTimerExpiry 15) = true := by
  decide
theorem test_wf_collision : Instr.wf (.collision 520) = false ∧ Instr.wf (.collision 519) = true := by decide
theorem test_wf_unknown_kind :
    Instr.wf (.unknownKind 0 9 9 (List.replicate 57 0)) = false
    ∧ Instr.wf (.unknownKind 0 9 9 (List.replicate 56 0)) = true := by decide
theorem test_wf_config_attempt :
    Instr.wf (.configAttemptEnd (List.replicate 255 0)) = false
    ∧ Instr.wf (.configAttemptEnd (List.replicate 256 0)) = true := by decide +kernel

/-! ### States -/

def after (c : Instr) (s : State) : State :=
  match exec c s with
  | .next t => t
  | .fault _ | .refused _ => s

def profile (maxCollect minSpacing : Nat) (heads : HeadSet) (f0 kmu fmin fmax add : Nat) : Profile :=
  { maxCollect := maxCollect, minSpacing := minSpacing, scrapeSpacing := 400, scrapeAllowed := true, heads := heads
    f0 := f0, kmu := kmu, fmin := fmin, fmax := fmax, scrapeAdd := add }

/-- Chapter 12, "The train". -/
def ac25 : Profile := profile 2 1500 ⟨true, true⟩ 70 970 60 250 30

def dc3 : Profile := profile 2 400 ⟨true, true⟩ 90 400 80 200 20

def dc15 : Profile := profile 2 400 ⟨true, false⟩ 100 300 90 220 20

def loaded : Loaded :=
  { bytes := [], station := 2, heads := ⟨.headA, .headB⟩, dA := ⟨2300, 3700⟩, p0 := ⟨150, 150⟩, gain := ⟨120, 120⟩
    lroof := 2200, t1 := 10, t2 := 20, t3 := 40, hysteresis := 3, iceTemp := 5, heatBudget := 5, moderation := 0
    ac25 := ac25, ac15 := ac25, dc3 := dc3, dc15 := dc15 }

def cabShows (speed : Half) : CabPayload :=
  { claim := .owning, permit := true, iceMode := .auto, direction := .aLeads, speed := speed, odometer := 1000000
    length := 4000, expected := some .ac25 }

def cabEntry : Peer :=
  { address := 9, last := .cab (cabShows 0), fresh := true, heard := 100000, ageTimer := some 150, removalTimer := none
    bid := none, bidTimer := none, alert := none }

def geometry : Geometry :=
  { known := true, direction := .aLeads, speed := 0, length := 4000, baseOdometer := 1000000, baseTime := 100000
    odoStale := false, refusalRun := false }

def slot (dA : Nat) (head : HeadType) : SlotRec :=
  { SlotRec.reset with locked := false, head := head, dA := dA, p0 := 150, gain := 120 }

/-- Station 2 of chapter 12, READY behind an OPEN gate, cab 9 the authority, its slots UNLOCKED, the sequencer DORMANT. -/
def station : State :=
  { State.reset with
    env :=
      { State.reset.env with
        now := 100000
        cfg := some loaded
        pv :=
          { table := [cabEntry], authority := some 9, conflict := false, hold := .present, holdTimer := none
            geometry := geometry } }
    act :=
      { State.reset.act with
        slots := ⟨slot 2300 .headA, slot 3700 .headB⟩
        link := { Link.reset (some 2) with gateOpen := true, stateTimer := some 50 }
        bids := { BidUnit.reset with profile := some .ac25 }
        startup := { Startup.reset with mode := .ready, load := .accepted } } }

def withAct (f : Act → Act) : State := { station with act := f station.act }

def withSelector (x : SelectorState) (t : Timer) : State :=
  withAct fun a => { a with selector := { state := x, timer := t, waiters := [] } }

def withIsolator (x : IsolatorState) (t : Timer) : State :=
  withAct fun a =>
    { a with isolators := ⟨{ state := x, timer := t, closeWaiters := [], openWaiters := [] }, a.isolators.one⟩ }

def withBreaker (x : BreakerState) (t : Timer) (last : Option Nat) : State :=
  withAct fun a => { a with breaker := { a.breaker with state := x, timer := t, lastTrip := last } }

def withSlot (f : SlotRec → SlotRec) : State := withAct fun a => { a with slots := ⟨f a.slots.zero, a.slots.one⟩ }

def withSeq (f : Sequencer → Sequencer) : State := withAct fun a => { a with seq := f a.seq }

def withStartup (f : Startup → Startup) : State := withAct fun a => { a with startup := f a.startup }

def withCls (f : Classifier → Classifier) (s : State) : State := { s with env := { s.env with cls := f s.env.cls } }

def withPv (f : PeerView → PeerView) : State := { station with env := { station.env with pv := f station.env.pv } }

def bidEntry : TxEntry :=
  { frame := .bid { kind := .collect, slot := .one, dfront := 3700, number := 0 }, requesters := [.bid 0] }

def withHead (x : Access) (attempts : Nat) (gate : Bool) : State :=
  withAct fun a =>
    { a with
      link :=
        { a.link with gateOpen := gate, head := some { entry := bidEntry, access := x, attempts := attempts } } }

def roofShows : RoofPayload :=
  { mode := .ready, seq := .running, powerless := false, odoStale := false, confirmed := .system .ac25
    selector := .ac25, breaker := .closed, isolators := ⟨.opened, .closed⟩
    slots :=
      ⟨{ dA := 300, head := .headB, lift := .down, duty := .idle, locked := false, latch := false },
        { dA := 1700, head := .headA, lift := .up, duty := .collect, locked := false, latch := false }⟩
    arcRate := 3, iceLevel := 0, heatUnits := 0, bid := none, alert := none }

def roofEntry : Peer :=
  { cabEntry with
    address := 1, last := .roof roofShows
    bid := some { bid := { kind := .collect, slot := .zero, dfront := 300, number := 7 }, time := 100000 }
    bidTimer := some 300 }

def withRoof : State := withPv fun v => { v with table := [roofEntry, cabEntry] }

/-- Chapter 12, notice 40. -/
def notice40 : Notice :=
  { id := 40, kind := .systemGap, start := 3000000, stop := 3001000, beyond := some .dc3, heads := none }

def held40 : HeldNotice := { notice := notice40, late := false, pointReached := false }

def withNotices (held : List HeldNotice) (current : Option Byte) : State :=
  withAct fun a => { a with notices := { a.notices with held := held, current := current } }

/-! ### Worked values of the manual -/

/-- R57 (log 9). -/
theorem test_crc_check_value : crc [0x31, 0x32, 0x33, 0x34, 0x35, 0x36, 0x37, 0x38, 0x39] = 0x6F91 := by decide +kernel

/-- Chapter 1: 480 samples of 760 and 480 of 740. -/
theorem test_window_dc3 :
    windowMean 720000 = 750 ∧ windowRms 720000 540096000 = 10 ∧ classify 750 10 0 = .dc3 := by decide

/-- Chapter 12, the straddling windows. -/
theorem test_windows_straddling :
    windowMean 30000 = 31 ∧ windowRms 30000 22500000 = 149 ∧ classify 31 149 0 = .unknown
    ∧ windowMean 270000 = 281 ∧ windowRms 270000 101250000 = 162 ∧ classify 281 162 0 = .unknown
    ∧ windowMean 330000 = 343 ∧ windowRms 330000 123750000 = 106 ∧ classify 343 106 0 = .unknown := by decide

/-- Chapter 3, "Worked force and pressure", and chapter 12. -/
theorem test_force_table :
    let r := { slot 3700 .headB with duty := .collect }
    ((r.compute .ac25 ac25 300 0).force, (r.compute .ac25 ac25 300 0).pressure) = (157, 338)
    ∧ ((r.compute .ac25 ac25 300 2).force, (r.compute .ac25 ac25 300 2).pressure) = (172, 356)
    ∧ ((r.compute .dc3 dc3 300 0).force, (r.compute .dc3 dc3 300 0).pressure) = (126, 301)
    ∧ ((r.compute .ac25 ac25 0 0).force, (r.compute .ac25 ac25 0 0).pressure) = (70, 234)
    ∧ (({ r with duty := .scrape }).compute .ac25 ac25 300 3).force = 202
    ∧ (({ r with duty := .scrape }).compute .ac25 ac25 300 3).pressure = 392 := by decide

/-- R90. -/
theorem test_lead : ({ geometry with speed := 3000 }).lead = 2500 ∧ geometry.lead = 500 := by decide

/-- R87, R89: station 2's slot 1 behind end A of a train with A leading, and with B leading. -/
theorem test_track :
    station.env.track 3700 = 996300 ∧ ({ geometry with direction := .bLeads }).dfront 3700 = 300 := by decide

/-- `State.reset` is what a power-on reset with the roof at rest leaves. -/
theorem test_power_on_reset : exec (.powerOnReset Pins.atRest) State.reset = .next State.reset := by rfl

/-- Chapter 12: with permit RAISE every condition of R126 holds; PREPARE is entered and a roof test requested. -/
theorem test_state_cab_wakes_the_sequencer :
    (after (.stateCab 0 9 (cabShows 0)) { station with
        env := { station.env with pv := { station.env.pv with table := [], authority := none, hold := .lost } } }).act.seq.state
      = .prepare .testing := by decide

theorem test_roof_test_normal :
    ((after (.roofTestCompletion (some ⟨true, 18⟩)) (withCls (fun c => { c with latest := .dead })
      (withAct fun a => { a with test := { a.test with running := true } }))).act.test.result,
     (after (.roofTestCompletion (some ⟨true, 18⟩)) (withCls (fun c => { c with latest := .dead })
      (withAct fun a => { a with test := { a.test with running := true } }))).act.test.distance) = (.normal, 2250) := by
  decide

/-- R32, R33: 41.5 s after the last trip the breaker is locked out. -/
theorem test_second_trip :
    (after .breakerTrip (withBreaker .closed none (some 58500))).act.breaker.state = .lockout
    ∧ (after .breakerTrip (withBreaker .closed none (some 40000))).act.breaker.lastTrip = some 100000 := by decide

theorem test_arc_pulse :
    (after (.arcPulse .zero 50) (withSlot fun r => { r with lift := .up, duty := .collect })).act.ice.arcs = ⟨1, 0⟩ := by
  decide

theorem test_status_reply : (after .status station).port.reply.isSome = true := by decide

theorem test_no_word_spells_a_command : decodeTableWord 8 0 = none := rfl

theorem test_step_takes_the_front :
    step { station with pending := [.odoStale] } = exec .odoStale station := rfl

/-! ### States and operands that meet the hypotheses -/

/-- Cab 9's frame to the station, or to all, is heard. -/
theorem test_heard (dst : Byte) (h : dst = 0 ∨ dst = 2) : station.Hears 2 dst 9 := by
  rcases h with rfl | rfl <;> exact ⟨rfl, rfl, by decide, by decide, by decide⟩

/-- Cab 9's orders of every verb are admitted. -/
theorem test_admitted (v : Verb) (dst : Byte) (h : dst = 0 ∨ dst = 2) : station.Admits 2 v dst 9 :=
  ⟨test_heard dst h, by rcases h with rfl | rfl <;> decide, by cases v <;> decide⟩

theorem test_witness_quiet : station.Quiet ∧ station.Unarmed ∧ station.pending = [] := ⟨⟨rfl, rfl⟩, rfl, rfl⟩

def stopped : State :=
  { State.reset with
    env := { State.reset.env with cls := { Classifier.reset with lossTimer := none } }
    act :=
      { State.reset.act with
        notices := { NoticeQueue.reset with reviewTimer := none }
        seq := { Sequencer.reset with reviewTimer := none }
        ice := { IceUnit.reset with intervalTimer := none, reviewTimer := none } } }

theorem test_witness_stopped_timers :
    stopped.env.cls.lossTimer = none ∧ stopped.env.cls.silenceTimer = none ∧ stopped.env.cls.surgeMask = none
    ∧ stopped.act.selector.timer = none ∧ (∀ i, (stopped.act.isolators.get i).timer = none)
    ∧ stopped.act.breaker.timer = none ∧ (∀ i, (stopped.act.slots.get i).riseTimer = none)
    ∧ (∀ i, (stopped.act.slots.get i).lowerTimer = none) ∧ stopped.act.startup.armingTimer = none
    ∧ stopped.act.link.stateTimer = none ∧ stopped.env.pv.entry 15 = none ∧ stopped.env.pv.holdTimer = none
    ∧ stopped.env.pv.geometry.odoStale = true ∧ stopped.act.bids.windowTimer = none
    ∧ stopped.act.bids.spacingTimer = none ∧ stopped.act.notices.reviewTimer = none
    ∧ stopped.act.seq.retryTimer = none ∧ stopped.act.seq.testRetryTimer = none
    ∧ stopped.act.seq.powerlessTimer = none ∧ stopped.act.seq.noSupplyTimer = none
    ∧ stopped.act.seq.recloseHold = none ∧ stopped.act.seq.reviewTimer = none
    ∧ stopped.act.ice.intervalTimer = none ∧ stopped.act.ice.reviewTimer = none
    ∧ stopped.act.startup.listenTimer = none ∧ stopped.act.startup.joinTimer = none ∧ stopped.port.gapTimer = none := by
  refine ⟨rfl, rfl, rfl, rfl, fun i => by cases i <;> rfl, rfl, fun i => by cases i <;> rfl, fun i => by cases i <;> rfl,
    ?_⟩
  decide

theorem test_witness_power_on :
    (Switches.closedAt (Switches.mk false false false false false)) = []
    ∧ (Switches.closedAt (Switches.mk false false false false true)) = [.system .dc15]
    ∧ 2 ≤ (Switches.closedAt (Switches.mk true true false false false)).length
    ∧ Pins.atRest.breakerClosed = false ∧ ({ Pins.atRest with breakerClosed := true }).breakerClosed = true
    ∧ (∀ t : Int, t = -50 ∨ t = 100 → -50 ≤ t ∧ t ≤ 100) := by
  refine ⟨rfl, rfl, by decide, rfl, rfl, ?_⟩
  rintro t (rfl | rfl) <;> decide

def armed : State := withStartup fun x => { x with armedBy := some 9, armingTimer := some 1000 }

theorem test_witness_armed_reset : armed.Admits 2 .reset 2 9 ∧ armed.act.startup.armedBy = some (9 : Byte).toNat :=
  ⟨⟨⟨rfl, rfl, by decide, by decide, by decide⟩, by decide, by decide⟩, rfl⟩

theorem test_witness_samples :
    EvenParity 0 false ∧ ¬ EvenParity 0 true ∧ EvenParity 32767 true ∧ ¬ EvenParity 16384 false
    ∧ EvenParity 16384 true ∧ EvenParity 32768 true := by
  unfold EvenParity
  decide

theorem test_witness_windows :
    (withCls (fun c => { c with count := 958 }) station).env.cls.count + 1 < 960
    ∧ (withCls (fun c => { c with count := 959, surgeMask := some 10000 }) station).env.cls.count + 1 = 960
    ∧ (withCls (fun c => { c with count := 959 }) station).env.cls.surgeMask = none := by decide

/-- A full window of 25 kV samples, its last one included, and one that clips. -/
theorem test_window_conclusions :
    let c (n : Classifier) : Classifier := { n with count := 959, crossings := 12, squares := 34560000000, voids := 2 }
    (after (.sampleFrame 0 false) (withCls c station)).env.cls.latest = .ac25
    ∧ (after (.sampleFrame 32767 true) (withCls c station)).env.cls.confirmed = .indeterminate := by decide

theorem test_witness_classifier_timers :
    (withCls (fun c => { c with lossTimer := some 0 }) station).env.cls.lossTimer = some 0
    ∧ (withCls (fun c => { c with silenceTimer := some 240 }) station).env.cls.silenceTimer = some 240
    ∧ (withCls (fun c => { c with surgeMask := some 10000 }) station).env.cls.surgeMask = some 10000 := ⟨rfl, rfl, rfl⟩

theorem test_witness_window_ranges :
    (1099511627775 : Nat) < 1099511627776 ∧ (-31455360 : Int).natAbs ≤ 960 * 32766
    ∧ (1030666325760 : Nat) ≤ 960 * (32766 * 32766) := by decide

/-- R10, each class at the ends of its band. -/
theorem test_classes_at_their_bounds :
    classify 124 124 0 = .dead ∧ classify 250 62 0 = .dc15 ∧ classify 487 121 9 = .dc15 ∧ classify 488 0 0 = .unknown
    ∧ classify 500 125 0 = .dc3 ∧ classify 975 243 0 = .dc3 ∧ classify (-250) 62 0 = .reverse
    ∧ classify 343 2750 3 = .ac15 ∧ classify 0 4500 5 = .ac15 ∧ classify 0 4375 11 = .ac25
    ∧ classify (-906) 7250 13 = .ac25 ∧ classify 0 7251 13 = .unknown ∧ classify 0 125 0 = .unknown := by decide

theorem test_confirmation_at_the_bounds :
    confirm .noSystem (.ac25, 2) = .noSystem ∧ confirm .noSystem (.ac25, 3) = .system .ac25
    ∧ confirm (.system .ac25) (.dead, 1) = .system .ac25 ∧ confirm (.system .ac25) (.dead, 2) = .noSystem
    ∧ confirm .noSystem (.unknown, 4) = .indeterminate ∧ confirm .noSystem (.reverse, 3) = .noSystem := by decide

/-- The invariants hold at a station in service, and its next step answers. -/
theorem test_witness_invariants :
    station.env.cls.Inv ∧ station.Interlocked ∧ station.SlotsSafe ∧ station.act.link.Inv ∧ station.ring.Inv
    ∧ step station = .next (station.elapse 1) := by
  refine ⟨⟨by decide, by decide, by decide, by decide, by decide, fun _ _ h => (by cases h), by decide, by decide, rfl⟩,
    ⟨by decide, fun h => (by cases h)⟩, ⟨fun i => ?_, by decide⟩, ?_, ?_, rfl⟩
  · cases i <;> exact ⟨by decide, by decide, by decide, by decide⟩
  · exact ⟨by decide, fun _ => rfl, fun _ => rfl, fun h => (by cases h), by decide, by decide, by decide, by decide,
      by decide, by decide⟩
  · exact ⟨by decide, rfl, fun h => absurd h (by decide), by decide, fun h => absurd rfl h⟩

theorem test_witness_peers_invariant : withRoof.PeersInv := by
  refine ⟨⟨by decide, by decide, by decide, by decide, by decide, by decide, by decide, by decide, by decide, by decide⟩,
    by decide, fun h => (by cases h), fun h => (by cases h)⟩

theorem test_witness_notices_invariant : (withNotices [held40] (some 40)).act.notices.Inv := by
  refine ⟨by decide, by decide, by decide, by decide, by decide, fun id h => ?_⟩
  cases h
  decide

theorem test_witness_selector :
    (withSelector (.moving .ac25) (some 5000)).act.selector.state = .moving .ac25
    ∧ (withSelector (.moving .ac25) (some 5000)).act.selector.timer = some 5000
    ∧ (Position.park = Position.park ∧ false = false) ∧ (Position.system .dc3 ≠ Position.park ∧ true = true)
    ∧ station.act.selector.state = .rest .park
    ∧ (withSelector .unknown none).act.selector.state = .unknown
    ∧ Switches.closedAt (Switches.set station.env.pins.selector .park true) = [.park]
    ∧ (withSelector .fault none).act.selector.state = .fault := by decide

theorem test_selector_travel_end :
    (after .selectorTravelEnd (withSelector (.moving .ac25) (some 5000))).act.selector.state = .rest (.system .ac25) := by
  decide

theorem test_witness_isolators :
    ((withIsolator .closing (some 300)).act.isolators.get .zero).state = .closing
    ∧ ((withIsolator .closing (some 300)).act.isolators.get .zero).timer = some 300
    ∧ ((withIsolator (.opening true) (some 0)).act.isolators.get .zero).state = .opening true
    ∧ (station.act.isolators.get .zero).state = .opened
    ∧ ((withIsolator .closed none).act.isolators.get .zero).state = .closed
    ∧ ((withIsolator .fault none).act.isolators.get .zero).state = .fault := by decide

theorem test_witness_breaker :
    (withBreaker .closing (some 200) none).act.breaker.state = .closing
    ∧ (withBreaker .closing (some 200) none).act.breaker.timer = some 200
    ∧ (withBreaker .opening (some 0) none).act.breaker.state = .opening
    ∧ (withBreaker .opening (some 0) none).act.breaker.timer = some 0
    ∧ station.act.breaker.state = .opened ∧ (withBreaker .lockout none none).act.breaker.state = .lockout
    ∧ (withBreaker .closed none (some 40001)).act.breaker.lastTrip = some 40001
    ∧ (withBreaker .closed none (some 40001)).env.now - 40001 < 60000
    ∧ (∀ last, (withBreaker .closed none (some 40000)).act.breaker.lastTrip = some last → 60000 ≤ station.env.now - last) := by
  refine ⟨rfl, rfl, rfl, rfl, rfl, rfl, rfl, by decide, fun last h => ?_⟩
  cases h
  decide

/-- Everything a close request to isolator 1 and one to the breaker ask for (R24, R28). -/
def closable : Act :=
  { station.act with
    selector := { state := .rest (.system .ac25), timer := none, waiters := [] }
    slots := ⟨station.act.slots.zero, { station.act.slots.one with lift := .up, duty := .collect }⟩ }

def connected : Act :=
  { closable with isolators := ⟨closable.isolators.zero, { closable.isolators.one with state := .closed }⟩ }

def confirmedEnv : Env := { station.env with cls := { station.env.cls with confirmed := .system .ac25 } }

theorem test_close_requests :
    ((closable.closeIsolator .one []).isolators.get .one).state = .closing
    ∧ ((closable.closeIsolator .zero []).isolators.get .zero).state = .opened
    ∧ (connected.closeBreaker confirmedEnv []).breaker.state = .closing
    ∧ (connected.closeBreaker station.env []).breaker.state = .opened := by decide

theorem test_witness_roof_test :
    let s := withAct fun a => { a with test := { a.test with running := true } }
    station.act.test.running = false ∧ s.act.test.running = true ∧ s.env.cls.latest ≠ .dead
    ∧ (withCls (fun c => { c with latest := .dead }) s).env.cls.latest = .dead
    ∧ (Reflection.mk false 0).positive = false
    ∧ 2200 ≤ 16 * 125 + 300 ∧ 16 * 125 ≤ 2200 + 300 ∧ ¬ (2200 ≤ 15 * 125 + 300 ∧ 15 * 125 ≤ 2200 + 300) := by decide

theorem test_witness_clear_fault :
    maskNames 0 .zero = false ∧ maskNames 0 .one = false ∧ (maskNames 1 .zero || maskNames 1 .one) = true := by decide

theorem test_clear_fault_slots :
    let s := withSlot fun r => { r with lift := .dropped, latch := true }
    ((after (.clearFaultSlots 2 9 1 0) s).act.slots.zero.lift, (after (.clearFaultSlots 2 9 1 0) s).act.slots.zero.latch)
      = (.down, true) := by decide

theorem test_clear_fault_switchgear :
    (after (.clearFaultSwitchgear 2 9 0 0) (withBreaker .lockout none none)).act.breaker.state = .opened
    ∧ (after (.clearFaultSwitchgear 2 9 0 0) (withSelector .fault none)).act.selector.state = .unknown := by decide

theorem test_witness_force : (3 : Nat) ≤ 3 ∧ ac25.fmin ≤ ac25.fmax := by decide

theorem test_witness_slots :
    (withSlot fun r => { r with lift := .rising, duty := .collect, riseTimer := some 10000 }).act.slots.zero.lift = .rising
    ∧ ((withSlot fun r => { r with lift := .rising }).act.slots.get .zero).Raised
    ∧ ((withSlot fun r => { r with lift := .up }).act.slots.get .zero).Raised
    ∧ ((withSlot fun r => { r with lift := .lowering .venting, lowerTimer := some 0 }).act.slots.get .zero).lift
        = .lowering .venting
    ∧ station.act.slots.zero.lift = .down
    ∧ (withSlot fun r => { r with lift := .dropped, latch := true }).act.slots.zero.lift = .dropped :=
  ⟨rfl, .inl rfl, .inr rfl, rfl, rfl, rfl⟩

theorem test_slot_up :
    (after (.slotUp .zero true) (withSlot fun r => { r with lift := .rising, duty := .collect, riseTimer := some 1 })).act.slots.zero.lift
      = .up := by decide

theorem test_lock_and_unlock :
    (after (.lock 2 9 3 0) station).act.slots.one.locked = true
    ∧ (after (.unlock 2 9 2 0) (withSlot fun r => { r with locked := true })).act.slots.zero.locked = true := by decide

theorem test_prefer :
    (after (.prefer 2 9 1 0) station).act.preferred = some .zero
    ∧ (after (.prefer 2 9 3 0) station).act.preferred = none := by
  decide

theorem test_witness_frames_not_delivered :
    ((0 : Byte).toNat = 0 ∨ (0 : Byte).toNat = 2) ∧ ¬ ((3 : Byte).toNat = 0 ∨ (3 : Byte).toNat = 2)
    ∧ (8 : Byte).toNat < 9 ∧ station.env.pv.authority ≠ some (10 : Byte).toNat
    ∧ station.Hears 2 2 8 ∧ station.Hears 2 3 10 ∧ notice40.id ≠ 0
    ∧ (withHead .onWire 1 true).act.link.readback = true :=
  ⟨by decide, by decide, by decide, by decide, ⟨rfl, rfl, by decide, by decide, by decide⟩,
    ⟨rfl, rfl, by decide, by decide, by decide⟩, by decide, rfl⟩

def heldStation (brk : BreakerState) (sel : SelectorState) : State :=
  { withBreaker brk none none with
    act :=
      { (withBreaker brk none none).act with
        seq := { Sequencer.reset with state := .held .roofFault }
        selector := { state := sel, timer := none, waiters := [] } } }

theorem test_witness_resume :
    (∃ r, (heldStation .opened (.rest .park)).act.seq.state = .held r)
    ∧ (heldStation .opening (.rest .park)).act.breaker.state ≠ .opened
    ∧ (heldStation .opened .fault).act.selector.state = .fault
    ∧ ¬ ((heldStation .opened (.rest .park)).act.selector.state = .fault
        ∨ (heldStation .opened (.rest .park)).act.isolators.zero.state = .fault
        ∨ (heldStation .opened (.rest .park)).act.isolators.one.state = .fault)
    ∧ (heldStation .opened (.rest .park)).act.bids.profile = some .ac25
    ∧ ¬ (∃ r, station.act.seq.state = .held r)
    ∧ (heldStation .opened (.rest .park)).Admits 2 .resume 2 9 ∧ State.reset.act.bids.profile = none := by
  refine ⟨⟨_, rfl⟩, by decide, rfl, by decide, rfl, fun h => ?_,
    ⟨⟨rfl, rfl, by decide, by decide, by decide⟩, by decide, by decide⟩, rfl⟩
  obtain ⟨r, k⟩ := h
  cases k

/-- R144 with no collector connected, and with slot 1's. -/
theorem test_resume :
    (after (.resume 2 9 0 0) (heldStation .opened (.rest .park))).act.seq.state = .prepare .testing
    ∧ (after (.resume 2 9 0 0)
        { station with act := { connected with seq := { Sequencer.reset with state := .held .passageBroken } } }).act.seq.state
      = .sensing := by decide

theorem test_mute_and_unmute :
    (after (.mute 2 9 0 0) station).act.startup.mode = .muted
    ∧ (after (.mute 0 9 0 0) station).act.startup.mode = .ready
    ∧ (after (.unmute 2 9 0 0) (withStartup fun x => { x with mode := .muted })).act.startup.mode = .join := by decide

theorem test_witness_modes :
    (withStartup fun x => { x with mode := .safe }).act.startup.mode = .safe
    ∧ (withStartup fun x => { x with mode := .listen, listenTimer := some 0 }).act.startup.listenTimer = some 0
    ∧ (withStartup fun x => { x with mode := .join, joinTimer := some 200 }).act.startup.joinTimer = some 200
    ∧ armed.act.startup.armedBy = some 9 ∧ armed.act.startup.armingTimer = some 1000
    ∧ armed.Admits 2 .resetArm 0 9 ∧ station.act.startup.armedBy = none :=
  ⟨rfl, rfl, rfl, rfl, rfl, ⟨⟨rfl, rfl, by decide, by decide, by decide⟩, by decide, by decide⟩, rfl⟩

theorem test_listen_and_join :
    (after .listenTimerExpiry (withStartup fun x => { x with mode := .listen, listenTimer := some 0 })).act.startup.mode = .join
    ∧ (after .joinTimerExpiry (withStartup fun x => { x with mode := .join, joinTimer := some 0 })).act.startup.mode = .ready := by
  decide

/-! ### Configuration -/

def profileBytes (p : Profile) : List Byte :=
  [n8 p.maxCollect] ++ le16 (n16 p.minSpacing) ++ le16 (n16 p.scrapeSpacing)
  ++ [n8 (flag p.scrapeAllowed), n8 p.heads.code] ++ le16 (n16 p.f0) ++ le16 (n16 p.kmu) ++ le16 (n16 p.fmin)
  ++ le16 (n16 p.fmax) ++ le16 (n16 p.scrapeAdd)

/-- The 254 bytes before the CRC of station 2's block, with one byte changed. -/
def blockBody (at_ : Nat) (value : Byte) : List Byte :=
  let b : List Byte :=
    [136, 9, 1, 0, 2, 0, 1] ++ le16 2300 ++ le16 3700 ++ le16 150 ++ le16 120 ++ le16 150 ++ le16 120 ++ le16 2200
    ++ [10, 20, 40, 3, 5, 5, 0, 0] ++ profileBytes ac25 ++ profileBytes ac25 ++ profileBytes dc3 ++ profileBytes dc15
  (b ++ List.replicate 157 0).set at_ value

/-- With the CRC of the unchanged block. -/
def block (at_ : Nat) (value : Byte) : List Byte := blockBody at_ value ++ [0x2B, 0xA5]

def reading (n : Nat) : State :=
  { State.reset with act := { State.reset.act with startup := { Startup.reset with load := .reading n } } }

def chunk (n : Nat) : List Byte := ((blockBody 3 0).drop (16 * n)).take 16

theorem test_crc_of_the_chunks :
    crcFrom 65535 (chunk 0) = 57235 ∧ crcFrom 57235 (chunk 1) = 41454
    ∧ crcFrom 41454 (chunk 2) = 11032 ∧ crcFrom 11032 (chunk 3) = 33975
    ∧ crcFrom 33975 (chunk 4) = 22902 ∧ crcFrom 22902 (chunk 5) = 19011
    ∧ crcFrom 19011 (chunk 6) = 22199 ∧ crcFrom 22199 (chunk 7) = 64868
    ∧ crcFrom 64868 (chunk 8) = 36730 ∧ crcFrom 36730 (chunk 9) = 42686
    ∧ crcFrom 42686 (chunk 10) = 26698 ∧ crcFrom 26698 (chunk 11) = 21998
    ∧ crcFrom 21998 (chunk 12) = 52292 ∧ crcFrom 52292 (chunk 13) = 25452
    ∧ crcFrom 25452 (chunk 14) = 43952 ∧ crcFrom 43952 (chunk 15) = 42283 := by decide +kernel

theorem crcFrom_append (r : Half) (a b : List Byte) : crcFrom r (a ++ b) = crcFrom (crcFrom r a) b := List.foldl_append

/-- Station 2's block is read correctly (R163). -/
theorem test_witness_block_read : readCorrect (block 3 0) = true := by
  have h : (block 3 0).take 254 =
      chunk 0 ++ chunk 1 ++ chunk 2 ++ chunk 3 ++ chunk 4 ++ chunk 5 ++ chunk 6 ++ chunk 7 ++ chunk 8 ++ chunk 9
      ++ chunk 10 ++ chunk 11 ++ chunk 12 ++ chunk 13 ++ chunk 14 ++ chunk 15 := by decide +kernel
  have k := test_crc_of_the_chunks
  have c : crc ((block 3 0).take 254) = 42283 := by
    simp only [h, crc, crcFrom_append]
    simp only [k]
  rw [readCorrect, c]
  decide +kernel

theorem test_witness_configuration :
    (block 3 0).length = 256 ∧ readCorrect [] = false ∧ (reading 3).act.startup.load = .reading 3
    ∧ (reading 2).act.startup.mode = .start ∧ configFailure (block 3 0) = none ∧ station.act.startup.mode ≠ .start := by
  decide +kernel

/-- R164, each row by the first value that fails it, and the values at the ends of the ranges. -/
theorem test_configuration_checks :
    (configFailure (block 4 0)).map Prod.fst = some 2 ∧ (configFailure (block 4 9)).map Prod.fst = some 2
    ∧ configFailure (block 4 8) = none ∧ (configFailure (block 5 2)).map Prod.fst = some 3
    ∧ (configFailure (block 21 20)).map Prod.fst = some 4 ∧ configFailure (block 21 19) = none
    ∧ (configFailure (block 35 4)).map Prod.fst = some 5 ∧ (configFailure (block 25 11)).map Prod.fst = some 6
    ∧ configFailure (block 25 0xEC) = none ∧ (configFailure (block 25 0xEB)).map Prod.fst = some 6 := by decide +kernel

theorem test_configuration_not_read : (after (.configAttemptEnd []) (reading 3)).act.startup.mode = .safe := by
  decide +kernel

/-! ### Consist link -/

theorem test_witness_state_timer :
    let defers := withHead .deferring 0 true
    let waits : State :=
      { defers with
        act :=
          { defers.act with
            link :=
              { defers.act.link with waiting := [{ frame := .stateRoof roofShows, requesters := [.other] }] } } }
    let roof : TxHead :=
      { entry := { frame := .stateRoof roofShows, requesters := [] }, access := .deferring, attempts := 0 }
    station.act.link.stateTimer = some 50 ∧ station.act.link.head = none ∧ station.act.link.waiting = []
    ∧ roof.entry.isStateRoof = true ∧ bidEntry.isStateRoof = false
    ∧ (∃ x ∈ waits.act.link.waiting, x.isStateRoof = true) ∧ (withHead .onWire 1 false).act.link.gateOpen = false := by
  decide

theorem test_state_timer : (after .stateTimerExpiry station).act.link.head.map (fun h => h.entry.isStateRoof) = some true := by
  decide

theorem test_witness_head_entry :
    (withHead .deferring 0 true).act.link.head.map TxHead.access = some .deferring
    ∧ (withHead .onWire 1 true).act.link.head.map TxHead.access = some .onWire
    ∧ (wireBits 2 bidEntry.frame)[0]? = some true ∧ (wireBits 2 bidEntry.frame)[1]? = some false
    ∧ (wireBits 2 bidEntry.frame)[112]? = none
    ∧ (withHead (.backoff 255) 8 true).act.link.head.map TxHead.access = some (.backoff 255)
    ∧ station.act.link.head = none := by decide +kernel

theorem test_attempt_start :
    (after .attemptStart (withHead .deferring 0 true)).act.link.head.map TxHead.access = some .onWire := by
  decide

theorem test_collision : (after (.collision 0) (withHead .onWire 1 true)).act.link.head.map TxHead.access
    = some (.jamming false) := by decide +kernel

theorem test_backoff_end :
    (after .backoffExpiry (withHead (.backoff 3) 2 true)).act.link.head.map TxHead.access = some .deferring := by decide

theorem test_frame_sent :
    ((after .frameSent (withHead .onWire 1 true)).act.link.framesSent,
      (after .frameSent (withHead .onWire 1 true)).act.link.head)
      = (1, none) := by decide

/-- Before the twelfth attempt, at it, and behind a CLOSED gate. -/
theorem test_witness_jam_end :
    (withHead (.jamming true) 11 true).act.link.head
      = some { entry := bidEntry, access := .jamming true, attempts := 11 }
    ∧ (withHead (.jamming false) 12 true).act.link.gateOpen = true
    ∧ (withHead (.jamming false) 1 false).act.link.gateOpen = false ∧ (0 : Nat) < 2 ^ min 1 8 := by decide

theorem test_jam_end :
    (after .jamEnd (withHead (.jamming true) 12 true)).act.link.discards = 1
    ∧ (after .jamEnd (withHead (.jamming true) 12 true)).act.link.lateCollisions = 1 := by decide

theorem test_witness_framing :
    ([1, 2, 3] : List Byte).length < 4 ∧ 56 < (57 : Byte).toNat ∧ ([0] : List Byte).length < (0 : Byte).toNat + 2
    ∧ (56 : Byte).toNat ≤ 56 ∧ (List.replicate 56 (0 : Byte)).length = (56 : Byte).toNat
    ∧ le16 (crc [2, 9, 4, 1, 7]) ≠ [0, 0] := by decide +kernel

theorem test_framing_error :
    (after (.framingError [2, 9, 4, 57]) station).act.link.crcErrors = 1
    ∧ (after (.framingError [2, 9, 4]) station).act.link.crcErrors = 0
    ∧ (after (.framingError [2, 9, 9, 0, 0x2B, 0xD4]) station).act.link.crcErrors = 1 := by decide +kernel

theorem test_witness_unknown_kinds :
    State.reset.act.link.address = none ∧ (0 : Byte).toNat = 0 ∧ 15 < (16 : Byte).toNat
    ∧ decodeFrame 9 [] = none ∧ decodeFrame 4 [] = none ∧ decodeFrame 3 [1, 0, 0x41, 0x1F, 0] = none
    ∧ (2 : Byte).toNat = 2 ∧ station.act.startup.mode ≠ .safe ∧ station.act.startup.mode ≠ .start := by decide

theorem test_unknown_kind :
    (after (.unknownKind 2 9 9 []) station).act.link.unknownKinds = 1
    ∧ (after (.unknownKind 0 2 4 [7]) station).act.startup.mode = .safe := by decide

/-- R57, R60, R69 to R72: payloads written out byte by byte. -/
theorem test_payloads :
    decodeFrame 3 [1, 1, 0x74, 0x0E, 7] = some (.bid { kind := .collect, slot := .one, dfront := 3700, number := 7 })
    ∧ decodeFrame 6 [40, 2, 0xC0, 0xC6, 0x2D, 0, 0xA8, 0xCA, 0x2D, 0, 1, 3, 0, 0] = some (.route notice40)
    ∧ decodeFrame 2 [2, 1, 0, 0, 0, 0, 0x40, 0x42, 0x0F, 0, 0xA0, 0x0F, 1, 1] = some (.stateCab (cabShows 0))
    ∧ decodeFrame 8 [7, 0, 0, 0] = some (.order .reset 0 0) := by decide

theorem test_witness_frames_valid :
    frameValid (.stateRoof roofShows) = true
    ∧ frameValid (.bid { kind := .scrape, slot := .zero, dfront := 8000, number := 255 }) = true
    ∧ frameValid (.route notice40) = true ∧ frameValid (.cancel 1) = true
    ∧ frameValid (.alert ⟨.dropped, some .one⟩) = true := by decide

/-! ### Peer View -/

theorem test_witness_peers :
    withRoof.env.pv.entry 1 = some roofEntry ∧ withRoof.env.pv.entry 3 = none ∧ roofEntry.last.isRoof = true
    ∧ cabEntry.last.isRoof = false ∧ roofEntry.ageTimer = some 150 ∧ roofEntry.bidTimer = some 300
    ∧ ({ roofEntry with fresh := false, ageTimer := none, removalTimer := some 9850 }).removalTimer = some 9850 := by decide

theorem test_heard_roof : withRoof.Hears 2 0 1 := ⟨rfl, rfl, by decide, by decide, by decide⟩

theorem test_state_roof :
    ((after (.stateRoof 0 1 roofShows) withRoof).env.pv.entry 1).map (fun p => (p.fresh, p.ageTimer, p.bid.isSome))
      = some (true, some 150, false) := by decide

theorem test_witness_hold_and_odometer :
    (withPv fun v => { v with hold := .holding, authority := none, holdTimer := some 2000 }).env.pv.holdTimer = some 2000
    ∧ station.env.pv.geometry.odoStale = false ∧ station.env.pv.geometry.baseTime ≤ station.env.now
    ∧ station.env.pv.geometry.known = true
    ∧ ({ cabShows 0 with direction := .bLeads }).direction ≠ station.env.pv.geometry.direction
    ∧ (withPv fun v => { v with geometry := { v.geometry with known := false } }).env.pv.geometry.known = false := by decide

theorem test_hold_and_odometer :
    (after .authorityHoldExpiry
      (withPv fun v => { v with table := [], hold := .holding, authority := none, holdTimer := some 2000 })).env.pv.hold = .lost
    ∧ (after .odoStale station).env.now = 101000 ∧ (after .odoStale station).env.pv.geometry.odoStale = true := by decide

theorem test_direction_change :
    (after (.stateCab 0 9 { cabShows 1 with direction := .bLeads }) station).env.pv.geometry.refusalRun = true
    ∧ (after (.stateCab 0 9 { cabShows 0 with direction := .bLeads }) station).env.pv.geometry.direction = .bLeads := by decide

theorem test_peer_timers :
    ((after (.peerAgeExpiry 1) withRoof).env.pv.entry 1).map Peer.removalTimer = some (some 9850)
    ∧ ((after (.peerBidTimerExpiry 1) withRoof).env.pv.entry 1).map Peer.bid = some none
    ∧ (after (.peerRemovalExpiry 1)
        (withPv fun v =>
          { v with table := [{ roofEntry with fresh := false, ageTimer := none, removalTimer := some 0 }, cabEntry] })).env.pv.entry 1
      = none := by decide

theorem test_bid_cede_alert :
    ((after (.cede 0 1 7) withRoof).env.pv.entry 1).map Peer.bid = some none
    ∧ ((after (.cede 0 1 8) withRoof).env.pv.entry 1).map Peer.bid = some roofEntry.bid
    ∧ ((after (.bid 0 1 { kind := .scrape, slot := .zero, dfront := 8000, number := 8 }) withRoof).env.pv.entry 1).map Peer.bidTimer
      = some (some 300)
    ∧ ((after (.alert 0 1 ⟨.dropped, some .zero⟩) withRoof).env.pv.entry 1).map Peer.alert
      = some (some (⟨.dropped, some .zero⟩, 100000)) := by decide

theorem test_witness_positions :
    geometry.length < 4001 ∧ (4294967295 : Nat) + 4000 * 0 / 3600 < 4294967296
    ∧ station.env.front < ({ geometry with length := 8000 }).dfront 8000 + 1000000
    ∧ station.env.dfront 3700 ≤ station.env.front := by decide

/-! ### Bid Unit -/

def placed (n d : Nat) (i : Slot) : Placed := { address := n, slot := i, dfront := d }

theorem test_precedence :
    bidOutranks (.collect, placed 2 3700 .one) (.collect, placed 1 1700 .one) = true
    ∧ bidOutranks (.scrape, placed 1 300 .zero) (.scrape, placed 2 2300 .zero) = true
    ∧ bidOutranks (.collect, placed 1 300 .zero) (.scrape, placed 1 300 .zero) = true
    ∧ bidOutranks (.collect, placed 1 300 .zero) (.collect, placed 2 300 .zero) = true := by decide

/-- 1,500 dm and 1,499 dm away from a pending bid, under AC25's spacing of 1,500. -/
theorem test_admission :
    station.act.admissible station.env .collect .one [] = true
    ∧ station.act.admissible station.env .collect .zero [(.collect, placed 1 3800 .one)] = true
    ∧ station.act.admissible station.env .collect .zero [(.collect, placed 1 3799 .one)] = false
    ∧ station.act.admissible station.env .scrape .zero [] = false := by decide

def withBid (phase : BidPhase) : State :=
  withAct fun a =>
    { a with
      seq := { a.seq with state := .raising, target := some .ac25, collector := some .one }
      bids :=
        { a.bids with
          bid := some { kind := .collect, slot := .one, dfront := 3700, number := 0, phase := phase }
          windowTimer := some 0, collectRequest := some .one } }

theorem test_witness_bid_window :
    (withBid .window).act.bids.windowTimer = some 0
    ∧ ((withBid .window).act.mayBid (withBid .window).env
        && (withBid .window).act.admissible (withBid .window).env .collect .one (withBid .window).env.pv.pendings) = true
    ∧ station.env.pins.add.get .one = false ∧ station.env.pins.up.get .one = false
    ∧ ((withBid .window).act.mayBid State.reset.env) = false
    ∧ (withAct fun a => { a with bids := { a.bids with spacingTimer := some 100 } }).act.bids.spacingTimer = some 100 := by decide

theorem test_bid_window :
    ((after .bidWindowExpiry (withBid .window)).act.slots.one.lift,
      (after .bidWindowExpiry (withBid .window)).act.slots.one.riseTimer)
      = (.rising, some 10000) := by decide

theorem test_witness_profiles :
    (station.act.recomputeProfile station.env).bids.profile = some .ac25
    ∧ (station.act.recomputeProfile State.reset.env).bids.profile = none
    ∧ (station.act.recomputeProfile { station.env with cls := { station.env.cls with confirmed := .system .dc3 } }).bids.profile
      = some .dc3
    ∧ ({ station.act with
          seq := { station.act.seq with state := .raising, notice := some held40 } }.recomputeProfile station.env).bids.profile
      = some .dc3 := by decide

/-! ### Notice Queue -/

/-- R112 to R115: what each clause asks for, at the end of its range. -/
theorem test_witness_routes :
    (3000000 : Word).toNat ≤ (3000000 : Word).toNat ∧ (3000000 : Word).toNat + 20000 < (3020001 : Word).toNat
    ∧ ¬ ((3020000 : Word).toNat ≤ (3000000 : Word).toNat ∨ (3000000 : Word).toNat + 20000 < (3020000 : Word).toNat)
    ∧ notice40.heads ≠ some ⟨false, false⟩ ∧ (withNotices [held40] (some 40)).act.notices.current = some notice40.id
    ∧ station.act.rearPosition station.env ≤ notice40.stop.toNat
    ∧ (withNotices [held40] none).act.notices.find 40 = some held40 ∧ station.act.notices.find 40 = none
    ∧ station.act.rearPosition station.env = 996300 ∧ station.act.frontPosition station.env = 997700 := by decide

theorem test_routes :
    (after (.route 0 9 notice40) station).act.notices.held = [held40]
    ∧ ((after (.route 0 9 { notice40 with start := 997700, stop := 1000000 }) station).act.notices.held.map HeldNotice.late)
      = [true] := by decide

theorem test_routes_refused :
    (after (.route 0 9 { notice40 with start := 990000, stop := 996299 }) station).act.notices.held = []
    ∧ (after (.route 0 9 { notice40 with id := 41, start := 3000999, stop := 3002000 }) (withNotices [held40] none)).act.notices.held
      = [held40]
    ∧ (after (.route 0 9 { notice40 with heads := some ⟨false, false⟩ }) station).act.notices.held = [] := by decide

theorem test_cancel :
    (after (.cancel 0 9 40) (withNotices [held40] none)).act.notices.held = []
    ∧ (after (.cancel 0 9 40) (withNotices [held40] (some 40))).act.notices.held = [held40] := by decide

/-- A notice of end 996,249 is 51 dm behind the rear position, one of end 996,250 is 50 dm behind it. -/
theorem test_review :
    let h (stop : Word) : HeldNotice :=
      { notice := { notice40 with start := 990000, stop := stop }, late := false, pointReached := false }
    (withNotices [h 996249] none).act.notices.reviewTimer = some 10
    ∧ (after .noticeReviewTimerExpiry (withNotices [h 996249] none)).act.notices.held = []
    ∧ (after .noticeReviewTimerExpiry (withNotices [h 996250] none)).act.notices.held = [h 996250] := by decide

theorem test_next_notice :
    (withNotices [held40] none).act.notices.next = some held40
    ∧ (withNotices [held40] (some 40)).act.notices.currentNotice = some held40
    ∧ (withNotices [held40] (some 40)).act.notices.next = none := by decide

/-! ### Roof Sequencer -/

theorem test_witness_sequencer_timers :
    (withSeq fun q => { q with retryTimer := some 500, retry := some (.roofTest, 0) }).act.seq.retryTimer = some 500
    ∧ (withSeq fun q => { q with state := .prepare .testing, testRetryTimer := some 200 }).act.seq.testRetryTimer = some 200
    ∧ (withSeq fun q => { q with state := .raising, powerlessTimer := some 0 }).act.seq.powerlessTimer = some 0
    ∧ (withSeq fun q => { q with state := .sensing, noSupplyTimer := some 10000 }).act.seq.noSupplyTimer = some 10000
    ∧ (withSeq fun q => { q with state := .sensing, recloseHold := some 1 }).act.seq.recloseHold = some 1
    ∧ (withSeq fun q => { q with state := .prepare .testing }).act.stillNamed .roofTest = true
    ∧ station.act.seq.reviewTimer = some 10 ∧ station.act.seq.state = .dormant := by decide

theorem test_retry_timers :
    (after .seqRetryExpiry (withSeq fun q =>
      { q with state := .prepare .testing, retryTimer := some 500, retry := some (.roofTest, 0) })).act.test.running = true
    ∧ (after .testRetryExpiry (withSeq fun q =>
      { q with state := .prepare .testing, testRetryTimer := some 200 })).act.seq.testCount = 1 := by decide

theorem test_sensing_timers :
    (after .powerlessTimerExpiry (withSeq fun q =>
      { q with state := .raising, collector := some .one, powerlessTimer := some 0 })).act.seq.powerless = true
    ∧ (after .noSupplyTimerExpiry (withSeq fun q => { q with state := .sensing, noSupplyTimer := some 1 })).ring.records.length = 1
    ∧ (after .recloseHoldExpiry
        { station with
          env := confirmedEnv
          act :=
            { connected with seq := { Sequencer.reset with state := .sensing, recloseHold := some 1 } } }).act.breaker.state
      = .closing
    ∧ (after .seqReviewTimerExpiry station).act.seq.reviewTimer = some 10 := by decide

theorem test_leaving_dormant :
    (station.act.leaveDormant station.env).seq.state = .prepare .clearing
    ∧ station.act.eligible station.env (some .ac25) .zero = true
    ∧ (station.act.leaveDormant { station.env with pv := PeerView.reset 0 }).seq.state = .dormant := by decide

/-! ### Ice Unit -/

theorem test_witness_ice :
    station.act.ice.intervalTimer = some 1000 ∧ station.act.ice.reviewTimer = some 10 ∧ station.act.ice.level ≤ 3
    ∧ loaded.t1 < loaded.t2 ∧ loaded.t2 < loaded.t3 ∧ ¬ (50 ≤ 49) ∧ -50 ≤ (-50 : Int) ∧ (100 : Int) ≤ 100
    ∧ ¬ ((101 : Int) ≤ 100) := by decide

/-- R152 at the thresholds 10, 20 and 40 with hysteresis 3, and at the thirtieth interval of a fall. -/
theorem test_levels :
    let a (level rate fall : Nat) : Act :=
      { station.act with ice := { station.act.ice with level := level, trainRate := rate, fallCount := fall } }
    ((a 0 40 0).evaluateLevel station.env loaded).ice.level = 3
    ∧ ((a 0 19 0).evaluateLevel station.env loaded).ice.level = 1
    ∧ ((a 1 6 28).evaluateLevel station.env loaded).ice.fallCount = 29
    ∧ ((a 1 6 29).evaluateLevel station.env loaded).ice.level = 0
    ∧ ((a 1 7 29).evaluateLevel station.env loaded).ice.fallCount = 0 := by decide

theorem test_interval_end :
    (after (.iceIntervalEnd 101) (withAct fun a => { a with ice := { a.ice with arcs := ⟨3, 4⟩ } })).act.ice.ownRate = 4
    ∧ (after (.iceIntervalEnd 101) station).act.ice.lastTemp = some 0
    ∧ (after (.iceIntervalEnd 100) station).act.ice.lastTemp = some 100
    ∧ (after .iceReviewTimerExpiry station).act.ice.reviewTimer = some 10 := by decide

/-! ### Event Ring and Service Port -/

theorem test_witness_service :
    station.port.reply = none ∧ le16 (crc [1, 0, 0]) ≠ [0, 0] ∧ ((0 : Byte).toNat = 0 ∨ 7 < (0 : Byte).toNat)
    ∧ ((8 : Byte).toNat = 0 ∨ 7 < (8 : Byte).toNat) ∧ station.env.cfg = some loaded ∧ State.reset.env.cfg = none
    ∧ (after .status station).port.reply ≠ none ∧ (after (.serviceByte 1) station).port.gapTimer = some 5
    ∧ (after (.serviceByte 1) station).port.gathered.length < 4 := by decide +kernel

theorem test_service_bytes :
    let s : State := { station with port := { station.port with gathered := [1, 0, 0, (le16 (crc [1, 0, 0])).getD 0 0] } }
    (after (.serviceByte ((le16 (crc [1, 0, 0])).getD 1 0)) s).port.reply.map (List.take 2) = some [1, 0]
    ∧ (after .serviceReplyEnd (after .counters station)).port.reply = none
    ∧ (after .serviceByteGapExpiry (after (.serviceByte 1) station)).port.gathered = [] := by decide +kernel

theorem test_replies :
    (after (.badFrame 9 0 0 0 0) station).port.reply.map (List.take 4) = some [9, 1, 0, 0]
    ∧ (after (.unknownCommand 8 0) station).port.reply.map (List.take 4) = some [8, 2, 0, 0]
    ∧ (after .config State.reset).port.reply.map (List.take 5) = some [6, 3, 1, 0, 0]
    ∧ (after (.events 1) station).port.reply.map (List.take 4) = some [2, 0, 0, 0]
    ∧ (after .peers station).port.reply.map (List.take 2) = some [4, 0]
    ∧ (after .notices station).port.reply.map (List.take 2) = some [5, 0] := by decide +kernel

def record (n : Nat) : Record := { seq := n16 n, time := 0, entry := station.act.entry .mode 255 0 0 }

def full : Ring :=
  { Ring.reset with records := (List.range 128).map record, sequence := 128, busy := true }

theorem test_ring_overrun :
    full.records.length ≤ 128 ∧ (full.write 0 (station.act.entry .mode 255 0 0)).dropped = 1
    ∧ ((after (.ack 1) { station with ring := { full with dropped := 5, firstDropped := 1 } }).ring.records.length,
      (after (.ack 1) { station with ring := { full with dropped := 5, firstDropped := 1 } }).ring.dropped) = (128, 0) := by
  decide +kernel

theorem test_moderation :
    (after .moderationCountEnd
      { station with ring := { full with moderation := 20, busy := false } }).ring.busy = true
    ∧ (after .moderationCountEnd { station with ring := { Ring.reset with moderation := 20 } }).env.now = 100020 := by
  decide +kernel

/-! ### States and operands for the hypotheses of the clauses about several blocks -/

theorem test_witness_stopped_peer :
    let s := withPv fun v => { v with table := [{ cabEntry with ageTimer := none }] }
    (s.env.pv.entry 9).map (fun p => (p.ageTimer, p.removalTimer, p.bidTimer)) = some (none, none, none)
    ∧ s.ring.moderation = 0 ∧ s.ring.records = [] ∧ full.moderation = 0 ∧ full.busy = true := by decide

/-- The contacts that a link reset may find (R35, R170). -/
theorem test_witness_reset_contacts :
    let s (x : Switches) (closed : Bool) : State :=
      { armed with env := { armed.env with pins := { armed.env.pins with selector := x, breakerClosed := closed } } }
    Switches.closedAt (s ⟨false, false, false, false, false⟩ true).env.pins.selector = []
    ∧ Switches.closedAt armed.env.pins.selector = [.park] ∧ armed.env.pins.breakerClosed = false
    ∧ 2 ≤ (Switches.closedAt (s ⟨true, true, false, false, false⟩ true).env.pins.selector).length
    ∧ (s ⟨true, true, false, false, false⟩ true).Admits 2 .reset 2 9 :=
  ⟨rfl, rfl, rfl, by decide, ⟨⟨rfl, rfl, by decide, by decide, by decide⟩, by decide, by decide⟩⟩

/-- R19, R31: a forced opening, and a timeout with a requester waiting. -/
theorem test_forced_opening :
    let closing : Act :=
      { station.act with
        breaker := { station.act.breaker with state := .closing, timer := some 200, closeWaiters := [.sequencer 1] } }
    BreakerState.isLive closing.breaker.state = true ∧ BreakerState.isLive station.act.breaker.state = false
    ∧ (closing.forceOpen station.env 3).inbox.reports.contains (.breakerForced 3) = true
    ∧ (closing.forceOpen station.env 3).breaker.state = .opened
    ∧ (closing.forceOpen
        { station.env with pins := { station.env.pins with breakerClosed := true } } 3).breaker.state = .opening := by
  decide

def crowded (access : Access) (frame : Frame) : State :=
  withAct fun a =>
    { a with
      link :=
        { a.link with
          head := some { entry := { bidEntry with frame := frame }, access := access, attempts := 1 }
          waiting := List.replicate 7 bidEntry } }

def muting : Act :=
  { station.act with startup := { station.act.startup with mode := .muting } }

/-- R167, R168: both slots down or one of them up, the gate OPEN or CLOSED, the queue with room or full. -/
theorem test_witness_muting :
    (∀ i, (station.act.slots.get i).restsDown = true) ∧ muting.startup.mode = .muting
    ∧ (withSlot fun r => { r with lift := .up, duty := .collect }).act.slots.zero.lift ≠ .down
    ∧ muting.link.gateOpen = true ∧ muting.bids.bid = none ∧ muting.link.length < 8
    ∧ State.reset.act.link.gateOpen = false ∧ 8 ≤ (crowded .onWire bidEntry.frame).act.link.length
    ∧ (∀ h, (crowded .onWire bidEntry.frame).act.link.head = some h → h.entry.isStateRoof = false)
    ∧ (∀ x ∈ (crowded .onWire bidEntry.frame).act.link.waiting, x.isStateRoof = false)
    ∧ muting.startup.pendingClose = false
    ∧ (withStartup fun x => { x with mode := .muted, pendingClose := true }).act.startup.pendingClose = true := by
  refine ⟨fun i => by cases i <;> decide, rfl, by decide, rfl, rfl, by decide, rfl, by decide, fun h k => ?_, by decide,
    rfl, rfl⟩
  cases k
  rfl

theorem test_muting :
    (muting.mutedTest station.env).startup.mode = .muted
    ∧ (muting.mutedTest station.env).startup.pendingClose = true
    ∧ ((Act.handle station.env .finalLeft
        { muting with startup := { muting.startup with mode := .muted, pendingClose := true } }).link.gateOpen) = false := by
  decide

theorem test_witness_disarming :
    armed.Hears 2 0 9 ∧ armed.Hears 2 2 9 ∧ armed.Hears 2 3 9 ∧ armed.Admits 2 .resetArm 2 9
    ∧ frameValid (.stateRoof roofShows) = true
    ∧ armed.act.startup.armedBy = some (9 : Byte).toNat
    ∧ ({ armed with env := { armed.env with pv := { armed.env.pv with authority := none } } } : State).Hears 2 2 9 :=
  ⟨⟨rfl, rfl, by decide, by decide, by decide⟩, ⟨rfl, rfl, by decide, by decide, by decide⟩,
    ⟨rfl, rfl, by decide, by decide, by decide⟩,
    ⟨⟨rfl, rfl, by decide, by decide, by decide⟩, by decide, by decide⟩, by decide, rfl,
    ⟨rfl, rfl, by decide, by decide, by decide⟩⟩

/-- R169: another accepted frame from the arming cab disarms; one to another node does not. -/
theorem test_disarmed :
    (after (.stateCab 0 9 (cabShows 0)) armed).act.startup.armedBy = none
    ∧ (after (.lock 3 9 3 0) armed).act.startup.armedBy = some 9 := by decide

/-- R59, R60: a STATE_ROOF that defers at the head, one that waits, none at all, and a full queue. -/
theorem test_witness_state_roof_queued :
    let roof (x : Access) : TxHead :=
      { entry := { frame := .stateRoof roofShows, requesters := [] }, access := x, attempts := 0 }
    let waits : List TxEntry := [bidEntry, { frame := .stateRoof roofShows, requesters := [.other] }, bidEntry]
    ((roof .deferring).entry.isStateRoof = true ∧ (roof .deferring).access = .deferring)
    ∧ ¬ ((roof .onWire).entry.isStateRoof = true ∧ (roof .onWire).access = .deferring)
    ∧ waits = [bidEntry] ++ { frame := .stateRoof roofShows, requesters := [.other] } :: [bidEntry]
    ∧ (∀ y ∈ [bidEntry], y.isStateRoof = false)
    ∧ [bidEntry].length + 1 < 8 ∧ 8 ≤ (crowded .onWire bidEntry.frame).act.link.waiting.length + 1
    ∧ (withHead .deferring 0 true).act.link.stateTimer = some 50 := by decide

theorem test_state_roof_queued :
    (after .stateTimerExpiry (crowded .deferring (.stateRoof roofShows))).act.link.length = 8
    ∧ (after .stateTimerExpiry (crowded .onWire (.stateRoof roofShows))).act.link.length = 8
    ∧ (after .stateTimerExpiry (crowded .deferring (.stateRoof roofShows))).ring.records.length = 0
    ∧ (after .stateTimerExpiry (crowded .onWire (.stateRoof roofShows))).ring.records.length = 1 := by decide

/-- R88: 99 dm below the extrapolated odometer the base stays, 100 dm below it goes back. -/
theorem test_rebase :
    let shows (o : Word) := after (.stateCab 0 9 { cabShows 0 with odometer := o }) station
    station.env.pv.geometry.known = true ∧ (cabShows 0).direction = station.env.pv.geometry.direction
    ∧ station.env.pv.geometry.front station.env.now = 1000000
    ∧ (shows 999901).env.pv.geometry.baseOdometer = 1000000
    ∧ (shows 999900).env.pv.geometry.baseOdometer = 999900
    ∧ (shows 1000001).env.pv.geometry.baseOdometer = 1000001 := by decide

def requesting : Act := { station.act with bids := { station.act.bids with collectRequest := some .one } }

/-- R98: the conditions for opening a bid, behind an OPEN gate, behind a CLOSED one and on a full queue. -/
theorem test_witness_opening :
    requesting.bids.bid = none ∧ requesting.bids.spacingTimer = none ∧ requesting.bids.request .collect = some .one
    ∧ requesting.startup.mode = .ready ∧ station.env.pv.permit = true
    ∧ requesting.admissible station.env .collect .one station.env.pv.pendings = true
    ∧ requesting.link.gateOpen = true ∧ requesting.link.length < 8
    ∧ (withHead .onWire 1 false).act.link.gateOpen = false
    ∧ (requesting.tryRequest station.env .collect).inbox.reports.contains (.outcome .collect .opened) = true
    ∧ ({ requesting with link := (crowded .onWire bidEntry.frame).act.link }.tryRequest station.env .collect).inbox.reports.contains
        (.outcome .collect .notOpened) = true := by decide

def offered : Act :=
  { (withBid .offered).act with link := { station.act.link with head := some { entry := bidEntry, access := .onWire, attempts := 1 } } }

/-- R99, R102: a bid in each phase, the answers to its BID, and a CEDE that is owed. -/
theorem test_witness_ceding :
    (withBid .offered).act.bids.bid.map HeldBid.phase = some .offered
    ∧ (withBid .window).act.bids.bid.map HeldBid.phase = some .window
    ∧ (withBid .committed).act.bids.bid.map HeldBid.phase = some .committed
    ∧ (withBid .offered).act.bids.bid.map HeldBid.number = some 0
    ∧ (offered.bidTxAnswered 0 .sent).bids.bid.map HeldBid.phase = some .window
    ∧ (offered.bidTxAnswered 0 .discarded).bids.bid = none
    ∧ offered.link.withdrawBid 0 = none
    ∧ ({ offered with link := (withHead .deferring 0 true).act.link }.link.withdrawBid 0).isSome = true
    ∧ (offered.cede station.env 5).bids.owedCede = some 0
    ∧ ((offered.cede station.env 5).bidTxAnswered 0 .sent).bids.owedCede = none
    ∧ ((withBid .window).act.cede station.env 5).bids.spacingTimer = some 100 := by decide

/-- R102's causes: a BID from behind under a spacing of 1,500 dm, and a permit withdrawn. -/
theorem test_ceding :
    let s := withBid .window
    let near : BidPayload := { kind := .collect, slot := .one, dfront := 3800, number := 7 }
    (s.act.bidDelivered withRoof.env 1 near).bids.bid = none
    ∧ ((s.act.bidDelivered withRoof.env 1 { near with dfront := 3600 }).bids.bid).isSome = true
    ∧ s.act.viewReason State.reset.env { kind := .collect, slot := .one, dfront := 3700, number := 0, phase := .window }
        = some 2
    ∧ s.act.viewReason s.env { kind := .collect, slot := .one, dfront := 3700, number := 0, phase := .window } = none
    ∧ (s.act.withdrawRequest s.env .collect).bids.bid = none
    ∧ (s.act.bidsEnd s.env).bids.bid = none ∧ ((withBid .committed).act.bidsEnd s.env).bids.bid = none
    ∧ ((withBid .committed).act.bidRaiseAnswered .one .done).bids.bid = none := by decide

def collecting : Act :=
  { station.act with slots := ⟨station.act.slots.zero, { station.act.slots.one with lift := .up, duty := .collect }⟩ }

/-- A collector of station 1's that stands at `d`. -/
def collectorAt (d : Half) : Env :=
  { station.env with
    pv :=
      { station.env.pv with
        table :=
          [{ roofEntry with
              bid := none, bidTimer := none
              last := .roof
                { roofShows with
                  slots := ⟨roofShows.slots.zero, { roofShows.slots.one with dA := d, duty := .collect, lift := .up }⟩ } },
            cabEntry] } }

/-- R106: AC25 keeps two collectors 1,500 dm apart; one nearer to a higher one is retracted. -/
theorem test_settle_down :
    collecting.active station.env = some ac25 ∧ (collecting.slots.get .one).duty = .collect
    ∧ (collecting.slots.get .zero).duty ≠ .collect ∧ (collecting.slots.get .one).Raised
    ∧ collectorReason ac25 (collecting.inView (collectorAt 3900) .collect)
        (collecting.bidPlace (collectorAt 3900) .one) = some 2
    ∧ ((collecting.settleDown (collectorAt 3900)).slots.one.duty) = .idle
    ∧ collecting.settleDown (collectorAt 2200) = collecting
    ∧ collecting.inbox.reports = [] := by
  refine ⟨by decide, by decide, by decide, .inr rfl, by decide, by decide, by decide, rfl⟩

theorem test_witness_settle_reasons :
    ac25.maxCollect < ([placed 1 3900 .one, placed 3 4000 .one].filter fun x => x.outranks .collect (placed 2 3700 .one)).length + 1
    ∧ collectorReason ac25 [placed 1 3900 .one, placed 3 4000 .one] (placed 2 3700 .one) = some 1
    ∧ (placed 1 300 .zero).outranks .scrape (placed 2 2300 .zero) = true
    ∧ scraperReason ac25 [placed 1 300 .zero] [] (placed 2 2300 .zero) = some 3
    ∧ scraperReason ac25 [] [placed 2 2699 .one] (placed 2 2300 .zero) = some 4
    ∧ scraperReason ac25 [] [placed 2 2700 .one] (placed 2 2300 .zero) = none := by decide

/-- Six notices, the last at 4,000,000. -/
def sixHeld : List HeldNotice :=
  [2000000, 2200000, 2400000, 2600000, 2800000, 4000000].zipIdx.map fun x =>
    { held40 with
      notice := { notice40 with id := n8 (x.2 + 1), start := n32 x.1, stop := n32 (x.1 + 1000) } }

/-- R114: on a full queue a nearer notice evicts the farthest; one beyond it, and any where it is current, is refused. -/
theorem test_full_queue :
    ((withNotices sixHeld none).act.notices.held.filter fun h => h.notice.id != 40).length = 6
    ∧ (after (.route 0 9 notice40) (withNotices sixHeld none)).act.notices.held.map (fun h => h.notice.id)
      = [1, 2, 3, 4, 5, 40]
    ∧ (after (.route 0 9 { notice40 with start := 4001000, stop := 4002000 }) (withNotices sixHeld none)).act.notices.held
      = sixHeld
    ∧ (after (.route 0 9 notice40) (withNotices sixHeld (some 6))).act.notices.held = sixHeld := by decide

/-- R118: behind a current notice that ends at 2,001,000 the next is the one at 2,200,000. -/
theorem test_next_behind_current :
    ((withNotices sixHeld (some 1)).act.notices.currentNotice).map (fun h => h.notice.id) = some 1
    ∧ ((withNotices sixHeld (some 1)).act.notices.next).map (fun h => h.notice.id) = some 2
    ∧ (withNotices sixHeld (some 6)).act.notices.next = none := by decide

/-- R124: a retry of the present stay asks again; one of an earlier stay does not. -/
theorem test_retry_asks_again :
    let s (v : Nat) := withSeq fun q =>
      { q with state := .prepare .selecting, target := some .dc3, visit := 4, retryTimer := some 100
               retry := some (.moveSelector .dc3, v) }
    (s 4).act.stillNamed (.moveSelector .dc3) = true
    ∧ (after .seqRetryExpiry (s 4)).act.selector.state = .moving .dc3
    ∧ (after .seqRetryExpiry (s 3)).act.selector.state = .rest .park := by decide

/-! ### The passage -/

def inState (x : SeqState) (f : Sequencer → Sequencer) (a : Act) : Act :=
  { a with seq := f { a.seq with state := x, target := some .ac25 } }

def tells (q : Request) (x : Answer) (a : Act) : Act := Act.handle station.env (.answered (.sequencer a.seq.visit) q x) a

/-- R124, R128, R129: answers in PREPARE, the last one and one before it. -/
theorem test_prepare :
    let a (x : PreparePhase) (l : List Request) := inState (.prepare x) (fun q => { q with awaiting := l, testCount := 3 }) station.act
    (tells .openBreaker .done (a .clearing [.openBreaker, .openIsolator .zero])).seq.awaiting = [.openIsolator .zero]
    ∧ (tells .openBreaker .done (a .clearing [.openBreaker])).seq.state = .prepare .testing
    ∧ (tells .roofTest (.tested .normal) (a .testing [.roofTest])).seq.state = .prepare .selecting
    ∧ (tells .roofTest (.tested .invalid) (a .testing [.roofTest])).seq.testRetryTimer = some 200
    ∧ (tells .roofTest (.tested .earth) (a .testing [.roofTest])).seq.state = .held .roofFault
    ∧ (tells (.moveSelector .ac25) .done (a .selecting [.moveSelector .ac25])).seq.state = .raising
    ∧ (tells (.moveSelector .ac25) .refused (a .selecting [.moveSelector .ac25])).seq.retryTimer = some 100 := by decide

/-- R127: slot 0 by PREFER; slot 1 as the one that collects, and as the rearmost. -/
theorem test_choice :
    let a := inState .raising id station.act
    station.env.profile (some .ac25) = some ac25 ∧ a.eligible station.env a.seq.target .zero = true
    ∧ a.chooseCollector station.env = some .one
    ∧ ({ a with preferred := some .zero }.chooseCollector station.env) = some .zero
    ∧ ((inState .raising id { collecting with preferred := some .zero }).chooseCollector station.env) = some .one := by
  decide

/-- R130, R131: RAISING's outcomes with a choice that is not yet up, committed or not. -/
theorem test_raising :
    let a (c : Bool) (i : Slot) := inState .raising (fun q => { q with committed := c, collector := some i }) station.act
    let told (o : Outcome) (a : Act) := Act.handle station.env (.outcome .collect o) a
    (told .opened (a false .one)).seq.powerlessTimer = some 10000 ∧ (told .won (a false .one)).seq.committed = true
    ∧ (told .raised (a true .one)).seq.state = .connecting ∧ (told .failed (a true .zero)).seq.collector = some .one
    ∧ (a false .one).chooseCollector station.env = (a false .one).seq.collector
    ∧ ((a false .zero).seqRechoice station.env).seq.collector = some .one := by decide

def systemEnv (y : Supply) : Env := { station.env with cls := { station.env.cls with confirmed := .system y } }

/-- R132, R133: the rows of SENSING's table, with the selector at AC25. -/
theorem test_sensing_table :
    let a (used : Bool) (hold : Timer) :=
      inState .sensing (fun q => { q with collector := some .one, reselectUsed := used, recloseHold := hold }) connected
    let reads (e : Env) (a : Act) := (Act.handle e .confirmedChanged a).seq.state
    reads station.env (a false none) = .sensing ∧ reads (systemEnv .ac25) (a false none) = .closing
    ∧ reads (systemEnv .ac25) (a false (some 1)) = .sensing
    ∧ reads (systemEnv .dc3) (a true none) = .held .secondMismatch
    ∧ reads (systemEnv .dc3) (a false none) = .reselect
    ∧ (Act.handle (systemEnv .dc15) .confirmedChanged (a false none)).seq.collector = none
    ∧ reads { station.env with cls := { station.env.cls with confirmed := .indeterminate } } (a false none)
      = .held .indeterminate
    ∧ dc15.heads.permits (connected.slots.get .one).head = false ∧ dc3.heads.permits (connected.slots.get .one).head = true := by
  decide

/-- R136: a trip in RUNNING; the breaker's answer in CLOSING. -/
theorem test_running :
    let a (x : SeqState) := inState x (fun q => { q with collector := some .one, awaiting := [.closeBreaker] }) connected
    (tells .closeBreaker .done (a .closing)).seq.state = .running
    ∧ (Act.handle (systemEnv .ac25) .trip (a .running)).seq.recloseHold = some 1000
    ∧ (Act.handle (systemEnv .ac25) .trip (a .running)).seq.state = .sensing := by decide

/-- Station 2's slot 1 stands at 996,300, so that AC25's lead of 500 dm reaches a start of 996,800 and not one of 996,801. -/
def near (n : Notice) : HeldNotice := { notice := n, late := false, pointReached := false }

def announced (h : HeldNotice) (a : Act) : Act := { a with notices := { a.notices with held := [h] } }

/-- R134, R135: the open point of a collector, in RUNNING and in HELD. -/
theorem test_open_point :
    let h (start : Word) := near { notice40 with start := start, stop := 1010000 }
    let a (h : HeldNotice) := inState .running (fun q => { q with collector := some .one }) (announced h connected)
    (a (h 996800)).notices.next = some (h 996800) ∧ (a (h 996800)).openPointReached station.env (h 996800) = true
    ∧ (a (h 996801)).openPointReached station.env (h 996801) = false
    ∧ ((a (h 996800)).testOpenPoint station.env).seq.state = .opening
    ∧ ((a (h 996800)).testOpenPoint station.env).notices.current = some 40
    ∧ (a (h 996800)).notices.find 40 = some (h 996800)
    ∧ ((inState (.held .roofFault) id
          (announced (near { notice40 with kind := .lowerZone, start := 996800, stop := 1010000 }) collecting)).testOpenPoint
        station.env).slots.one.lift = .down := by decide

def passing (x : SeqState) (k : NoticeKind) (stop : Word) (l : List Request) (a : Act) : Act :=
  let n : Notice := { notice40 with kind := k, start := 990000, stop := stop }
  inState x (fun q => { q with collector := some .one, notice := some (near n), awaiting := l }) a

/-- R137 to R139: the breaker's opening in OPENING, COASTING's wait at 996,250 and 996,249, LOWERING's answers. -/
theorem test_passage :
    (tells .openBreaker .done (passing .opening .phaseGap 996250 [.openBreaker] connected)).seq.state = .coasting
    ∧ (tells .openBreaker .done (passing .opening .systemGap 996250 [.openBreaker] connected)).seq.state = .isolating
    ∧ ((passing .coasting .phaseGap 996250 [] connected).positionsMoved station.env).seq.state = .coasting
    ∧ ((passing .coasting .phaseGap 996249 [] connected).positionsMoved station.env).seq.state = .sensing
    ∧ ((passing .coasting .phaseGap 996249 [] collecting).positionsMoved station.env).seq.state = .connecting
    ∧ (passing .isolating .lowerZone 996249 [] collecting).mustLower station.env
        { notice40 with kind := .lowerZone } = [.one]
    ∧ ((passing .isolating .lowerZone 996250 [] collecting).isolated station.env).seq.state = .lowering
    ∧ (tells (.lower .one) .failed
        (passing .lowering .lowerZone 996250 [.lower .one] station.act)).seq.state = .gap .waiting := by decide

/-- R140: GAP behind a system gap with another system beyond, and GAP's wait. -/
theorem test_gap :
    ((passing .isolating .systemGap 996250 [] closable).enterGap station.env).seq.state = .gap .testing
    ∧ ((passing .isolating .systemGap 996250 [] closable).enterGap station.env).seq.target = some .dc3
    ∧ ((passing (.gap .waiting) .systemGap 996250 [] collecting).gapWait station.env).seq.state = .gap .waiting
    ∧ ((passing (.gap .waiting) .systemGap 996249 [] collecting).gapWait station.env).seq.state = .connecting
    ∧ ((passing (.gap .waiting) .systemGap 996249 [] station.act).gapWait station.env).seq.state = .raising
    ∧ (tells (.moveSelector .dc3) .done
        (passing (.gap .selecting) .systemGap 996250 [.moveSelector .dc3] collecting)).seq.state = .gap .waiting := by decide

/-- R142, R145: the collector lost on the wire and in COASTING; the notices flushed in a passage and outside one. -/
theorem test_loss_and_flush :
    ((passing .running .systemGap 996250 [] station.act).seqSlotChanged station.env .one).seq.state = .raising
    ∧ ((passing .coasting .phaseGap 996250 [] station.act).collectorLost station.env).seq.state = .gap .waiting
    ∧ ((passing .lowering .phaseGap 996250 [] station.act).collectorLost station.env).seq.state = .lowering
    ∧ (Act.handle station.env .flushed (passing .opening .systemGap 996250 [] connected)).seq.state = .held .passageBroken
    ∧ (Act.handle station.env .currentRetired (passing .opening .systemGap 996250 [] connected)).seq.notice.isSome = true
    ∧ (Act.handle station.env .currentRetired (passing .sensing .systemGap 996250 [] connected)).seq.notice = none := by decide

/-! ### Forcing, the scraper, heat -/

def iceAt (level : Nat) (a : Act) : Act := { a with ice := { a.ice with level := level, trainRate := 40 } }

def iceMode (m : IceMode) : Env :=
  { station.env with
    pv := { station.env.pv with table := [{ cabEntry with last := .cab { cabShows 0 with iceMode := m } }] } }

/-- R150, R151: FORCE, OFF, and 5 °C with a reading of 5 and of 6. -/
theorem test_forcing :
    ((iceAt 0 station.act).iceModeChanged (iceMode .force)).ice.level = 3
    ∧ ((iceAt 2 station.act).iceModeChanged (iceMode .off)).ice.level = 0
    ∧ ((iceAt 2 { station.act with ice := { station.act.ice with lastTemp := some 6 } }).iceModeChanged (iceMode .auto)).ice.forced
      = some 0
    ∧ ((iceAt 2 { station.act with ice := { station.act.ice with lastTemp := some 5 } }).iceModeChanged (iceMode .auto)).ice.forced
      = none := by decide

/-- R151: where a forcing ends at an interval end, the level keeps the forced value; it moves from the next one on. -/
theorem test_forcing_ends :
    let forced : State :=
      withAct fun a => { a with ice := { a.ice with level := 0, forced := some 0, lastTemp := some 6, arcs := ⟨50, 0⟩ } }
    let unforced : State :=
      withAct fun a => { a with ice := { a.ice with level := 0, forced := none, lastTemp := some 5, arcs := ⟨50, 0⟩ } }
    ((after (.iceIntervalEnd 5) forced).act.ice.forced, (after (.iceIntervalEnd 5) forced).act.ice.level) = (none, 0)
    ∧ (after (.iceIntervalEnd 5) unforced).act.ice.level = 3
    ∧ (after (.iceIntervalEnd 6) unforced).act.ice.forced = some 0 := by decide

/-- R153: an ALERT DROPPED at level 1, and at level 0. -/
theorem test_dropped_alert :
    let s (level : Nat) : State := { withRoof with act := iceAt level withRoof.act }
    let x : Alert := ⟨.dropped, some .zero⟩
    (s 1).act.ice.forced = none ∧ (after (.alert 0 1 x) (s 1)).act.ice.level = 3
    ∧ (after (.alert 0 1 x) (s 0)).act.ice.level = 0 := by decide

def scraping : Act :=
  { collecting with slots := ⟨{ collecting.slots.zero with lift := .up, duty := .scrape }, collecting.slots.one⟩ }

/-- R154, R159: a fall from 3 retracts the scraper. -/
theorem test_fall_from_three :
    let a := iceAt 3 scraping
    (a.slots.get .zero).duty = .scrape ∧ (a.slots.get .one).duty ≠ .scrape
    ∧ (a.setLevel station.env 2 0).slots.zero.lift = .down
    ∧ (a.setLevel station.env 2 0).slots.one.lift = .up ∧ a.setLevel station.env 3 0 = a := by decide

/-- R157, R158: at level 3 slot 0 at 2,300 may scrape ahead of the collector at 3,700. -/
theorem test_candidate :
    let a := iceAt 3 collecting
    a.active station.env = some ac25 ∧ station.env.pv.geometry.known = true ∧ a.inView station.env .collect ≠ []
    ∧ (a.chosenCandidate station.env).map (fun x => (x.place.address, x.place.slot)) = some (2, .zero)
    ∧ (a.recandidate station.env).inbox.evalDue = true
    ∧ ((a.recandidate station.env).rerequest station.env).bids.scrapeRequest = some .zero
    ∧ (iceAt 2 collecting).chosenCandidate station.env = none := by decide

/-- R160: slot 0 stands at 997,700; the lead of 500 dm reaches a lower zone at 998,200. -/
theorem test_scraper_point :
    let a (start : Word) : Act :=
      announced (near { notice40 with kind := .lowerZone, start := start, stop := 1010000 }) (iceAt 3 scraping)
    ((a 998200).iceNotices station.env).slots.zero.lift = .down
    ∧ ((a 998201).iceNotices station.env).slots = (a 998201).slots := by decide

/-- R155, R156: heatBudget 5 over two stations leaves 2 of the 3 heaters; the insulator is shed. -/
theorem test_heat :
    let b := (iceAt 3 scraping).reheat withRoof.env
    b.ice.heaters = [.collectorHead .one, .scraperHead .zero] ∧ b.ice.shed = [.insulator]
    ∧ ((iceAt 3 scraping).reheat station.env).ice.shed = []
    ∧ ((iceAt 3 scraping).reheat State.reset.env).ice.heaters = [] := by decide

/-! ### Requests, the arming cab's frames, the STATE_ROOF's fields -/

def told (q : Request) (x : Answer) (a : Act) : Bool := a.inbox.reports.contains (.answered (.sequencer 2) q x)

def selectorAt (x : SelectorState) : Act := (withSelector x none).act

def breakerIn (x : BreakerState) (a : Act) : Act := { a with breaker := { a.breaker with state := x } }

def shown (p : Pins) : Env := { station.env with pins := p }

/-- R21: the selector at rest elsewhere and UNKNOWN, with the end switch open and closed; at rest there; under way there and
elsewhere; in FAULT; and with an isolator or the breaker not open. -/
theorem test_move_requests :
    let q : Request := .moveSelector .dc3
    let move (a : Act) : Act := a.moveSelector station.env .dc3 [.sequencer 2]
    let there (a : Act) : Act :=
      a.moveSelector (shown { station.env.pins with selector := { station.env.pins.selector with dc3 := true } }) .dc3
        [.sequencer 2]
    station.env.pins.selector.dc3 = false
    ∧ (∀ i : Slot, ((selectorAt .unknown).isolators.get i).state = .opened)
    ∧ (move (selectorAt (.rest .park))).selector = { state := .moving .dc3, timer := some 4000, waiters := [.sequencer 2] }
    ∧ (move (selectorAt .unknown)).selector.state = .moving .dc3
    ∧ (there (selectorAt .unknown)).selector.state = .rest (.system .dc3) ∧ told q .done (there (selectorAt (.rest .park)))
    ∧ told q .done (move (selectorAt (.rest (.system .dc3))))
    ∧ (move (selectorAt (.moving .dc3))).selector.waiters = [.sequencer 2]
    ∧ told q .refused (move (selectorAt (.moving .ac25))) ∧ told q .refused (move (selectorAt .fault))
    ∧ told q .refused (move connected) ∧ told q .refused (move (breakerIn .opening (selectorAt .unknown))) :=
  ⟨by decide, fun i => by cases i <;> rfl, by decide⟩

def isolatorIn (x : IsolatorState) (k : BreakerState) : Act := breakerIn k (withIsolator x none).act

/-- R26: an open request to isolator 0 in each of its states, with the breaker OPEN, CLOSED, OPENING and LOCKOUT. -/
theorem test_isolator_open_requests :
    let opens (closed : Bool) (i : Contact) (a : Act) : Act :=
      a.openIsolator (shown { station.env.pins with breakerClosed := closed, isolators := ⟨i, .opened⟩ }) .zero [.sequencer 2]
    let q : Request := .openIsolator .zero
    told q .done (opens false .opened (isolatorIn .opened .opened))
    ∧ (opens false .closed (isolatorIn .closing .opened)).isolators.zero.state = .opening true
    ∧ (opens false .opened (isolatorIn .closing .opened)).isolators.zero.state = .opened
    ∧ (opens false .closed (isolatorIn .closed .lockout)).isolators.zero.timer = some 300
    ∧ (opens true .closed (isolatorIn .closed .closed)).isolators.zero.state = .opening false
    ∧ (opens true .closed (isolatorIn .closed .closed)).breaker.state = .opening
    ∧ (opens false .closed (isolatorIn .closed .closing)).breaker.state = .opened
    ∧ (opens false .closed (isolatorIn .closed .closing)).isolators.zero.state = .opening true
    ∧ (opens true .closed (isolatorIn .closed .opening)).isolators.zero.state = .opening false
    ∧ (opens true .closed (isolatorIn (.opening false) .opening)).isolators.zero.openWaiters = [.sequencer 2]
    ∧ told q .done (opens false .opened (isolatorIn .fault .opened))
    ∧ told q .done (opens false .opened (isolatorIn .fault .opening)) = false := by decide

/-- R30, R36: an open request to the breaker in each of its states, its contact showing closed and open; a test request, with a
test running, with every device open, and with a device that is not. -/
theorem test_breaker_and_test_requests :
    let opens (closed : Bool) (k : BreakerState) : Act :=
      (breakerIn k connected).openBreaker (shown { station.env.pins with breakerClosed := closed }) [.sequencer 2]
    let running : Act := { connected with test := { connected.test with running := true } }
    told .openBreaker .done (opens false .opened) ∧ told .openBreaker .done (opens false .lockout)
    ∧ (opens true .opening).breaker.openWaiters = [.sequencer 2]
    ∧ ((opens true .closing).breaker.state, (opens true .closed).breaker.timer) = (.opening, some 100)
    ∧ (opens false .closed).breaker.state = .opened ∧ told .openBreaker .done (opens false .closing)
    ∧ (station.act.requestTest [.sequencer 2]).test.running = true
    ∧ (running.requestTest [.sequencer 2]).test.waiters = [.sequencer 2]
    ∧ told .roofTest (.tested .invalid) (connected.requestTest [.sequencer 2]) := by decide

/-- R41: a raise of slot 0: free with its up switch open and closed, free with its ADD contact closed, locked. -/
theorem test_raises :
    let up (p : Pins) (a : Act) : SlotRec := (a.raise (shown p) .zero .collect).slots.zero
    let free : SlotRec := station.act.slots.zero
    let p := station.env.pins
    (free.lift = .down ∧ free.locked = false ∧ free.latch = false)
    ∧ station.act.bids.profile = some .ac25 ∧ station.act.active station.env = some ac25
    ∧ (station.act.raise station.env .zero .collect).slots.zero.riseTimer = some 10000
    ∧ (up { p with up := ⟨true, false⟩ } station.act).lift = .up
    ∧ ((up { p with add := ⟨true, false⟩ } station.act).lift, (up { p with add := ⟨true, false⟩ } station.act).latch)
      = (.dropped, true)
    ∧ ((withSlot fun r => { r with locked := true }).act.raise station.env .zero .collect).inbox.reports
      = [.raiseAnswered .zero .refused] := by decide

/-- R43, R44: a lower request from DOWN, LOWERING and UP, the isolator OPEN and CLOSED, the down switch closed and open; the
isolator's DONE brings VENTING. -/
theorem test_lower_requests :
    let housed (d : Bool) : Env := shown { station.env.pins with down := ⟨d, d⟩ }
    let asks (d : Bool) (i : Slot) (a : Act) : Act := a.lower (housed d) i [.sequencer 2]
    let awaiting : Act := (withSlot fun r => { r with lift := .lowering .awaitingIsolator }).act
    let reports (d : Bool) (a : Act) : Act := Act.handle (housed d) (.answered (.lift .zero) (.openIsolator .zero) .done) a
    told (.lower .zero) .done (asks true .zero station.act)
    ∧ (asks true .zero awaiting).slots.zero.lowerWaiters = [.sequencer 2]
    ∧ (connected.slots.get .one).lift = .up
    ∧ (asks false .one connected).slots.one.lift = .lowering .awaitingIsolator
    ∧ (asks false .one connected).isolators.one.state = .opened
    ∧ (asks false .one closable).slots.one.lift = .lowering .venting
    ∧ (asks true .one closable).slots.one.lift = .down
    ∧ (reports false awaiting).slots.zero.lowerTimer = some 8000
    ∧ (reports true awaiting).slots.zero.lift = .down
    ∧ (reports false station.act).slots.zero.lift = .down := by decide

/-- R169: a frame of the arming cab to another node leaves the record, and one of another source; one to the station disarms. -/
theorem test_arming_record :
    let sent (c : Instr) : Option Nat × Timer :=
      ((after c armed).act.startup.armedBy, (after c armed).act.startup.armingTimer)
    sent (.route 3 9 notice40) = (some 9, some 1000) ∧ sent (.reset 3 9 0 0 0) = (some 9, some 1000)
    ∧ sent (.stateCab 2 8 (cabShows 0)) = (some 9, some 1000) ∧ sent (.route 2 9 notice40) = (none, none)
    ∧ sent .armingTimerExpiry = (none, none) := by decide

/-- R60: the payload of a station without a bid, and with one that is committed. -/
theorem test_state_roof_fields :
    let none_ := station.act.composeStateRoof station.env
    let bidding := (withBid .committed).act
    (none_.mode, none_.seq, none_.selector, none_.breaker) = (.ready, .dormant, .park, .opened)
    ∧ station.act.bids.bid = none ∧ none_.bid = none ∧ bidding.bids.bid.isSome
    ∧ ((bidding.composeStateRoof station.env).bid.map fun o => o.committed) = some true
    ∧ none_.slots.one.dA.toNat = 3700 ∧ station.act.ice.ownRate ≤ 255 ∧ station.act.ice.level ≤ 3
    ∧ station.act.ice.heaters.length ≤ 3 := by decide

/-- R139, R160: at LOWERING for a lower zone, a scraper that the Ice Unit is lowering is joined, and its DONE ends the wait; a slot
LOWERING at another block's request is not asked. -/
theorem test_joined_scraper :
    let lowers (who : Requester) (a : Act) : Act :=
      { a with
        slots := ⟨{ a.slots.zero with lift := .lowering .venting, lowerWaiters := [who] }, a.slots.one⟩ }
    let enters (who : Requester) : Act :=
      (lowers who (passing .isolating .lowerZone 996250 [] station.act)).isolated station.env
    let n : Notice := { notice40 with kind := .lowerZone }
    (lowers .iceUnit station.act).mustLower station.env n = [] ∧ (lowers .iceUnit station.act).lowerRequests station.env n = [.zero]
    ∧ (enters .iceUnit).seq.state = .lowering ∧ (enters .iceUnit).seq.awaiting = [.lower .zero]
    ∧ (enters .iceUnit).slots.zero.lowerWaiters = [.iceUnit, .sequencer (enters .iceUnit).seq.visit]
    ∧ (tells (.lower .zero) .done (enters .iceUnit)).seq.state = .gap .waiting
    ∧ (enters .bidUnit).seq.awaiting = [] ∧ (enters .bidUnit).seq.state = .gap .waiting := by decide

/-- A station whose isolator 0 is in FAULT. -/
def brokenIsolator (a : Act) : Act :=
  { a with isolators := ⟨{ a.isolators.zero with state := .fault }, a.isolators.one⟩ }

/-- R124: a refusal among whose causes is a device in FAULT or LOCKOUT, the one asked for or another, and one without. -/
theorem test_refused_by_a_device :
    let refused (q : Request) (a : Act) : SeqState × Timer :=
      let b := tells q .refused (inState .connecting id a)
      (b.seq.state, b.seq.retryTimer)
    let isolator := brokenIsolator station.act
    let selector := selectorAt .fault
    refused (.moveSelector .ac25) isolator = (.held .isolatorFault, none)
    ∧ refused (.moveSelector .ac25) selector = (.held .selectorFault, none)
    ∧ refused (.closeIsolator .zero) isolator = (.held .isolatorFault, none)
    ∧ refused (.closeIsolator .one) isolator = (.held .isolatorFault, none)
    ∧ refused (.closeIsolator .one) selector = (.held .selectorFault, none)
    ∧ refused (.closeIsolator .zero) (brokenIsolator selector) = (.held .isolatorFault, none)
    ∧ refused (.closeIsolator .one) (brokenIsolator selector) = (.held .selectorFault, none)
    ∧ refused .closeBreaker isolator = (.held .isolatorFault, none)
    ∧ refused .closeBreaker (brokenIsolator selector) = (.held .selectorFault, none)
    ∧ refused .closeBreaker (breakerIn .lockout isolator) = (.held .lockout, none)
    ∧ ∀ q ∈ [.moveSelector .ac25, .closeIsolator .one, .closeBreaker],
        refused q station.act = (.connecting, some 100) := by decide

/-- R36, R124: a roof test that was running when an isolator faulted is joined and reads NORMAL; the move that follows is refused
for that isolator, and the event ends in HELD. -/
theorem test_joined_test_behind_a_fault :
    let s : State := withCls (fun c => { c with latest := .dead }) (withAct fun a =>
      { brokenIsolator (inState (.prepare .testing) (fun q => { q with awaiting := [.roofTest] }) a) with
        test := { a.test with running := true, waiters := [.sequencer a.seq.visit] } })
    (after (.roofTestCompletion (some ⟨true, 18⟩)) s).act.test.result = .normal
    ∧ (after (.roofTestCompletion (some ⟨true, 18⟩)) s).act.seq.state = .held .isolatorFault := by decide

/-- R29: the close timeout and the contact's closing together, the expiry first; a contact that closes later; a contact that
shows CLOSED at the expiry. -/
theorem test_close_timeout :
    let s := withBreaker .closing (some 200) none
    let opened := after .breakerCloseTimeout s
    let later : State := { opened with env := { opened.env with now := opened.env.now + 1 } }
    let shows : State := { s with env := shown { s.env.pins with breakerClosed := true } }
    opened.act.breaker.state = .opened ∧ opened.act.breaker.closeTimeout = some opened.env.now
    ∧ (after .breakerClosed opened).act.breaker.state = .opening ∧ (after .breakerClosed opened).act.breaker.timer = some 100
    ∧ (after .breakerClosed opened).ring.records = opened.ring.records
    ∧ (after .breakerClosed later).ring.records ≠ later.ring.records
    ∧ (after .breakerContactConflict opened).ring.records ≠ opened.ring.records
    ∧ (after .breakerOpened (after .breakerClosed opened)).act.breaker.state = .opened
    ∧ (after .breakerCloseTimeout shows).act.breaker.state = .opening := by decide

/-! ### Outputs, the selector's ways to FAULT, DORMANT and its causes -/

/-- R20 to R30, R36, R40, R53: each output in a state that drives it and in one that does not. -/
theorem test_roof_outputs :
    (selectorAt (.moving .dc3)).moveCommand = some .dc3 ∧ (selectorAt .fault).moveCommand = none
    ∧ (isolatorIn .closing .opened).closeCoil .zero = true ∧ (isolatorIn .closing .opened).openCoil .zero = false
    ∧ (isolatorIn (.opening true) .opened).openCoil .zero = true ∧ (isolatorIn .fault .opened).openCoil .zero = true
    ∧ (isolatorIn (.opening false) .opened).openCoil .zero = false
    ∧ (breakerIn .closing connected).closeCommand = true ∧ (breakerIn .closed connected).closeCommand = false
    ∧ (breakerIn .closed connected).holdOutput = true ∧ (breakerIn .opening connected).holdOutput = false
    ∧ (station.act.requestTest []).coupled = true ∧ station.act.coupled = false
    ∧ (let r (x : LiftState) : SlotRec := { slot 2300 .headA with lift := x, pressure := 234 }
      (r .up).pressureOutput = 234 ∧ (r (.lowering .awaitingIsolator)).valve = true
      ∧ (r (.lowering .venting)).pressureOutput = 0 ∧ (r .dropped).valve = false)
    ∧ (let b := (iceAt 3 scraping).reheat withRoof.env
      b.headHeater .zero = true ∧ b.headHeater .one = true ∧ b.insulatorHeater = false)
    ∧ ((iceAt 3 scraping).reheat station.env).insulatorHeater = true ∧ station.attention = false := by decide

/-- R56, R57, R63: the head of each access state, with the station's address set. -/
theorem test_sending :
    (withHead .onWire 1 true).act.link.address = some 2
    ∧ ((withHead .onWire 1 true).sending.map fun b => (b.length, b.take 4, (b.drop 32).take 8))
      = some (112, [true, false, true, false], [false, true, false, false, false, false, false, false])
    ∧ (withHead (.jamming true) 1 true).sending = some (List.replicate 16 false)
    ∧ (withHead .deferring 0 true).sending = none ∧ (withHead (.backoff 3) 1 true).sending = none
    ∧ station.act.link.head = none ∧ station.sending = none := by decide

/-- R163: the first attempt's read stands from the reset on, the next one's from the failure, none after the third. -/
theorem test_memory_reads :
    State.reset.act.memoryRead = some { attempt := 1, address := 0, length := 256 }
    ∧ (after (.configAttemptEnd []) (reading 2)).act.memoryRead = some { attempt := 3, address := 0, length := 256 }
    ∧ (after (.configAttemptEnd []) (reading 3)).act.memoryRead = none ∧ station.act.memoryRead = none := by decide

/-- The records of an event, by code, data0 and data1. -/
def records (s : State) : List (EventCode × Half × Word) := s.ring.records.map fun r => (r.entry.code, r.entry.data0, r.entry.data1)

/-- R22, R23: each way into FAULT with its record, its alert and its answer; the changes that are ignored. -/
theorem test_selector_faults :
    let moving : State :=
      withAct fun a => { a with selector := { state := .moving .ac25, timer := some 4000, waiters := [.sequencer 0] } }
    let unknown := withSelector .unknown none
    let fault (c : Instr) (s : State) (x : Half) (y : Word) : Bool :=
      decide ((after c s).act.selector.state = .fault) && (records (after c s)).contains (.switchgearFault, x, y)
    fault .selectorTravelTimeout moving 256 5 ∧ fault (.selectorEndSwitchChange .park false) station 512 0
    ∧ fault (.selectorEndSwitchChange (.system .dc3) true) station 512 0
    ∧ Switches.get unknown.env.pins.selector .park = true
    ∧ fault (.selectorEndSwitchChange (.system .dc15) true) unknown 512 6
    ∧ fault (.isolatorContactConflict .one .closed) moving 512 5 ∧ fault .breakerContactConflict moving 512 5
    ∧ fault .breakerContactConflict { moving with act := breakerIn .lockout moving.act } 512 5
    ∧ (after .selectorTravelTimeout moving).act.link.lastAlert = some { code := .switchgearFault, slot := none }
    ∧ told (.moveSelector .ac25) .failed
        (({ moving.act with selector := { moving.act.selector with waiters := [.sequencer 2] } }).travelTimeout moving.env)
    ∧ (after (.selectorEndSwitchChange .park false) moving).act.selector.state = .moving .ac25
    ∧ (after (.selectorEndSwitchChange (.system .dc3) true) moving).act.selector.state = .moving .ac25
    ∧ (after (.selectorEndSwitchChange .park false) unknown).act.selector.state = .unknown
    ∧ (after (.selectorEndSwitchChange .park true) station).act.selector.state = .rest .park
    ∧ (after .selectorTravelEnd station).act.selector.state = .rest .park := by decide

/-- The station RUNNING with slot 1 on the wire under 25 kV. -/
def running : State :=
  { station with
    env := { confirmedEnv with pins := { confirmedEnv.pins with breakerClosed := true } }
    act := inState .running (fun q => { q with collector := some .one }) (breakerIn .closed connected) }

/-- R125: DORMANT for each of its causes, and with two at one event the higher; the records of SEQ_STATE. -/
theorem test_dormant_causes :
    let into (c : Instr) (cause : Word) : Bool :=
      let t := after c running
      decide (t.act.seq.state = .dormant) && decide (t.act.breaker.state = .opening)
        && (t.ring.records.any fun r => decide (r.entry.code = .seqState) && decide (r.entry.data1 = 256 * cause))
    running.Quiet ∧ running.env.pv.permit = true ∧ into (.peerAgeExpiry 9) 1
    ∧ into (.stateCab 0 9 { cabShows 0 with permit := false }) 1 ∧ into (.mute 2 9 0 0) 4 ∧ into (.lock 0 9 3 0) 5
    ∧ into (.unknownKind 0 2 1 []) 3
    ∧ (let held := { running with env := { running.env with pv := { running.env.pv with hold := .holding, holdTimer := some 2000 } } }
      (Act.handle held.env .holdLost held.act).seq.state = .dormant
      ∧ (after .authorityHoldExpiry held).act.seq.state = .dormant)
    ∧ (running.act.goDormant running.env .permitChanged) = running.act
    ∧ running.act.goDormant running.env .muteTaken = running.act.enterDormant running.env 4
    ∧ (running.act.push .lockAll).goDormant running.env .holdLost = (running.act.push .lockAll).enterDormant running.env 5
    ∧ station.act.goDormant station.env .lockAll = station.act := by
  refine ⟨⟨rfl, rfl⟩, ?_⟩
  decide

/-- R126: leaving DORMANT is tested at the reports of permit, mode, profile, preferred slot, breaker and slot. -/
theorem test_dormant_left :
    let leaves (r : Report) : Bool := decide ((Act.handle station.env r station.act).seq.state = .prepare .clearing)
    leaves .permitChanged ∧ leaves .modeChanged ∧ leaves .profileChanged ∧ leaves .preferredChanged ∧ leaves .breakerOpened
    ∧ leaves (.slotChanged .zero) ∧ leaves .holdLost = false
    ∧ (after (.prefer 2 9 1 0) station).act.seq.state = .prepare .testing
    ∧ (after .joinTimerExpiry (withStartup fun x => { x with mode := .join, joinTimer := some 200 })).act.seq.state
      = .prepare .testing := by decide

/-- R32, R33: a first trip, one 59,999 ms after another and one 60,000 ms after it, with their records. -/
theorem test_trip_records :
    let trip (last : Option Nat) : Act := (withBreaker .closed none last).act.breakerContact station.env false
    let written (last : Option Nat) := (trip last).logs.map fun x => (x.code, x.data0, x.data1)
    (trip none).breaker.state = .opened ∧ (trip none).holdOutput = false ∧ (trip none).inbox.reports.contains .trip
    ∧ written none = [(.breakerTrip, 0, 0)]
    ∧ (trip (some 40001)).breaker.state = .lockout ∧ (trip (some 40001)).inbox.reports.contains .lockout
    ∧ written (some 40001) = [(.breakerTrip, 0, 59999), (.breakerLockout, 0, 59999)]
    ∧ (trip (some 40000)).breaker.state = .opened ∧ written (some 40000) = [(.breakerTrip, 0, 60000)] := by decide

/-- R32: BREAKER_TRIP's data1 at the last value that its four bytes hold, and past it (log 49). -/
theorem test_trip_age :
    let age (now : Nat) : List Word :=
      ((withBreaker .closed none (some 0)).act.breakerContact { station.env with now := now } false).logs.map fun x => x.data1
    age 4294967295 = [4294967295] ∧ age 4294967296 = [Config.tripAgeBeyond 4294967296] := ⟨by decide, rfl⟩

/-- The collector of slot 1 on the wire, or a scraper behind the closed isolator, with a requester on each of its requests. -/
def raisedWith (d : Duty) : Act :=
  { breakerIn .closed connected with
    slots :=
      ⟨connected.slots.zero,
        { connected.slots.one with lift := .up, duty := d, raiseWaiting := true, lowerWaiters := [.startup] }⟩ }

def pinsClosed (b : Bool) : Env := { station.env with pins := { station.env.pins with breakerClosed := b } }

/-- R45: the breaker before the isolator; with a duty other than COLLECT the isolator's request forces the breaker open; a
contact that already shows OPEN; the answers, the record, the ALERT. R42: the record and the answer of a raise that fails. -/
theorem test_drop_steps :
    let drop (d : Duty) (closed : Bool) : Act := (raisedWith d).addContact (pinsClosed closed) .one true
    let codes (a : Act) := a.logs.map fun x => (x.code, x.data0, x.data1)
    let x := drop .collect true
    x.breaker.state = .opening ∧ (x.isolators.get .one).state = .opening false
    ∧ codes x = [(.slotDropped, 1, 2)] ∧ x.link.lastAlert = some { code := .dropped, slot := some .one }
    ∧ x.inbox.reports.contains (.raiseAnswered .one .failed)
    ∧ x.inbox.reports.contains (.answered .startup (.lower .one) .done)
    ∧ (drop .collect false).breaker.state = .opened ∧ ((drop .collect false).isolators.get .one).state = .opened
    ∧ (drop .scrape true).breaker.state = .opening ∧ codes (drop .scrape true) = [(.breakerForcedOpen, 4, 0), (.slotDropped, 2, 2)]
    ∧ (let rising : Act :=
        { raisedWith .collect with
          slots := ⟨connected.slots.zero, { (raisedWith .collect).slots.one with lift := .rising, riseTimer := some 0 }⟩ }
      let y := rising.riseTimeout (pinsClosed true) .one
      codes y = [(.raiseFail, 1, 0), (.breakerForcedOpen, 4, 0)] ∧ y.inbox.reports.contains (.raiseAnswered .one .failed)
        ∧ (y.slots.get .one).lift = .lowering .awaitingIsolator) := by decide

/-- R52: a STATE_CAB, a level, a profile; kept where the profile is none. -/
theorem test_setpoints_follow :
    let fast := (station.stateHeard 9 (.cab (cabShows 2000)))
    let force (a : Act) := (a.slots.get .one).force
    station.env.pv.authority = some 9 ∧ force station.act = 0 ∧ force fast.act = 108
    ∧ force (fast.act.setLevel fast.env 2 1) = 118
    ∧ (let none_ : Act := { fast.act with bids := { fast.act.bids with profile := none } }
      none_.active fast.env = none ∧ force (none_.setLevel fast.env 2 1) = 108
      ∧ force (fast.act.recomputeProfile { fast.env with cls := { fast.env.cls with confirmed := .system .dc3 } }) = 106
      ∧ force ({ fast.act with seq := fast.act.seq }.recomputeProfile { fast.env with cfg := none }) = 108) := by decide

/-- R166: the gate of each kind, a close that waits, the ALERT taken and one for which the queue has no room. -/
theorem test_duplicate_steps :
    let duplicate (s : State) : Act := s.act.duplicateHeard s.env 1
    let muted : State :=
      withAct fun a =>
        { a with
          startup := { a.startup with mode := .muted, pendingClose := true }
          link := { a.link with head := some { entry := { bidEntry with requesters := [.final] }, access := .backoff 2, attempts := 1 } } }
    let shut : State := { muted with act := { muted.act with link := { Link.reset (some 2) with gateOpen := false } } }
    let x := duplicate muted
    x.startup.mode = .safe ∧ x.startup.pendingClose = false ∧ x.link.gateOpen = true
    ∧ (x.link.head.map fun h => h.entry.requesters) = some [] ∧ x.link.lastAlert = some { code := .duplicate, slot := none }
    ∧ (x.logs.map fun r => (r.code, r.subject, r.data0, r.data1)).head? = some (.duplicateAddress, 2, 1, 5)
    ∧ (duplicate shut).link.gateOpen = true ∧ (duplicate shut).link.seed = some (2, 100000)
    ∧ (duplicate (crowded (.jamming false) bidEntry.frame)).link.lastAlert = none
    ∧ ((duplicate (crowded (.jamming false) bidEntry.frame)).logs.map LogEntry.code).getLast? = some .txFull := by decide

/-- R91: each record of the Peer View's, with its data. -/
theorem test_peer_records :
    let two := withPv fun v => { v with table := [{ cabEntry with address := 8 }, cabEntry], authority := none, hold := .lost }
    let silent := withPv fun v => { v with table := [{ cabEntry with last := .cab { cabShows 0 with claim := .none } }] }
    let holding := withPv fun v => { v with table := [], authority := none, hold := .holding, holdTimer := some 0 }
    let has (c : Instr) (s : State) (r : EventCode × Half × Word) : Bool := (records (after c s)).contains r
    let turned : RoofPayload := { roofShows with slots := ⟨{ roofShows.slots.zero with dA := 301 }, roofShows.slots.one⟩ }
    has (.stateRoof 0 1 roofShows) station (.peerJoined, 0, 0) ∧ has (.stateCab 0 10 { cabShows 0 with claim := .none }) station (.peerJoined, 1, 0)
    ∧ has (.stateRoof 0 1 turned) withRoof (.peerMoved, 0, 111411501)
    ∧ has (.stateCab 0 1 { cabShows 0 with claim := .none }) withRoof (.peerMoved, 1, 0)
    ∧ records (after (.stateRoof 0 1 roofShows) withRoof) = []
    ∧ has (.peerAgeExpiry 9) station (.peerStale, 1, 100000) ∧ has (.peerAgeExpiry 9) station (.authorityChange, 0, 9)
    ∧ has (.peerRemovalExpiry 9) (withPv fun v => { v with table := [{ cabEntry with fresh := false, ageTimer := none, removalTimer := some 9850 }] })
        (.peerRemoved, 1, 100000)
    ∧ has (.stateCab 0 9 (cabShows 0)) two (.authorityConflict, 2, 0)
    ∧ has (.stateCab 0 9 (cabShows 0)) { silent with env := { silent.env with pv := { silent.env.pv with authority := none, hold := .lost } } }
        (.authorityChange, 9, 0)
    ∧ has .authorityHoldExpiry holding (.authorityLost, 0, 0) ∧ has .odoStale station (.odoStale, 0, 1000000)
    ∧ has (.stateCab 0 9 { cabShows 0 with direction := .bLeads }) (withNotices [held40] none) (.noticeFlushed, 1, 1000000) := by
  decide

/-- The records beside an order, a commit, a load, a mark and a reading. -/
theorem test_records_of_effects :
    let has (c : Instr) (s : State) (r : EventCode × Half × Word) : Bool := (records (after c s)).contains r
    let broken : State :=
      withAct fun a =>
        { a with
          selector := { a.selector with state := .fault }, breaker := { a.breaker with state := .lockout }
          isolators := ⟨{ a.isolators.zero with state := .fault }, { a.isolators.one with state := .fault }⟩ }
    records (after (.lock 0 14 3 0) (withSlot fun r => { r with locked := true })) = [(.slotLock, 1, 14)]
    ∧ records (after (.lock 2 14 3 0) station) = [(.slotLock, 1, 14), (.slotLock, 1, 14)]
    ∧ has (.clearFaultSwitchgear 2 9 0 0) broken (.switchgearCleared, 15, 0)
    ∧ records (after (.clearFaultSwitchgear 2 9 0 0) station) = []
    ∧ has .bidWindowExpiry (withBid .window) (.bidWon, 1, 3700)
    ∧ has (.configAttemptEnd []) (reading 3) (.configBad, 1, 0)
    ∧ ((announced held40 station.act).markNotice 40).2.logs.map (fun x => (x.code, x.data0, x.data1)) = [(.noticeCurrent, 40, 3000000)]
    ∧ ((announced held40 station.act).markNotice 41).1 = none
    ∧ (({ station.act with ice := { station.act.ice with readingTaken := true } } : Act).takeReading 101).logs.map (fun x => (x.code, x.data0))
      = [(.tempInvalid, 101)]
    ∧ (({ station.act with ice := { station.act.ice with readingTaken := false } } : Act).takeReading (-51)).logs = [] := by decide

/-- R177: the place of heads beyond in R111's list. -/
theorem test_heads_beyond :
    (heldNoticeBytes false { held40 with notice := { notice40 with heads := some ⟨true, false⟩ } }).getD 13 9 = 0
    ∧ (heldNoticeBytes false { held40 with notice := { notice40 with heads := some ⟨false, true⟩ } }).getD 13 9 = 1
    ∧ (heldNoticeBytes false { held40 with notice := { notice40 with heads := some ⟨true, true⟩ } }).getD 13 9 = 2
    ∧ (heldNoticeBytes false held40).drop 12 = [0, 0, 0, 0] := by decide

end Sys2Proof.Tests
end

/-! The Line Classifier (R1 to R17): the proofs of its statements. -/

namespace Sys2Proof.Machine

/-! ## The ranges of the classifier's registers

The ranges of the classifier's registers. Only the commands of chapter 1, the passing of time and the two resets write the
classifier: `exec_classifier` says once what a command can make of it, and the ranges follow case by case. -/

/-- R17: the classifier after a reset. -/
theorem Classifier.reset_inv : Classifier.reset.Inv where
  count := by decide
  sum := by decide
  squares := by decide
  crossings := by decide
  voids := by decide
  run := nofun
  badSamples := by decide
  maskedSurges := by decide
  timers := rfl

/-! ### Operations that leave the classifier as it is -/

@[simp] theorem State.reauthorize_cls (s : State) : s.reauthorize.env.cls = s.env.cls := rfl

@[simp] theorem State.takeGeometry_cls (c : CabPayload) (s : State) : (s.takeGeometry c).env.cls = s.env.cls := by
  unfold State.takeGeometry
  simp only
  split <;> rfl

@[simp] theorem State.stateHeard_cls (address : Nat) (x : StatePayload) (s : State) :
    (s.stateHeard address x).env.cls = s.env.cls := by
  unfold State.stateHeard
  simp only
  split
  · split_ifs <;> rfl
  · split_ifs <;> simp

@[simp] theorem State.updatePeer_cls (address : Nat) (f : Peer → Peer) (s : State) :
    (s.updatePeer address f).env.cls = s.env.cls := by
  unfold State.updatePeer
  split
  · rfl
  · simp only
    split <;> rfl

@[simp] theorem State.alertHeard_cls (src : Nat) (x : Alert) (s : State) :
    (s.alertHeard src x).env.cls = s.env.cls := by
  unfold State.alertHeard
  simp only
  split <;> split <;> rfl

@[simp] theorem State.peerAged_cls (address : Nat) (s : State) : (s.peerAged address).env.cls = s.env.cls := by
  unfold State.peerAged
  split
  · rfl
  · simp only
    split <;> rfl

@[simp] theorem State.peerRemoved_cls (address : Nat) (s : State) : (s.peerRemoved address).env.cls = s.env.cls := by
  unfold State.peerRemoved
  split
  · rfl
  · simp only
    split <;> rfl

@[simp] theorem State.holdExpired_cls (s : State) : s.holdExpired.env.cls = s.env.cls := by
  unfold State.holdExpired
  split <;> rfl

@[simp] theorem State.obey_cls (dst src : Nat) (v : Verb) (mask : Byte) (s : State) :
    (s.obey dst src v mask).env.cls = s.env.cls := by
  cases v <;> rfl

@[simp] theorem State.armOrder_cls (dst src : Nat) (s : State) : (s.armOrder dst src).env.cls = s.env.cls := by
  unfold State.armOrder
  split <;> rfl

theorem State.whenAdmitted_cls {k : State → State} (h : ∀ s, (k s).env.cls = s.env.cls)
    (dst src kind verb : Nat) (source : Bool) (s : State) :
    (s.whenAdmitted dst src kind verb source k).env.cls = s.env.cls := by
  unfold State.whenAdmitted
  split
  · rfl
  · split
    · exact h s
    · rfl

@[simp] theorem State.attemptEnded_cls (buffer : List Byte) (s : State) :
    (s.attemptEnded buffer).env.cls = s.env.cls := by
  unfold State.attemptEnded
  split
  · simp only
    split
    · split <;> rfl
    · split <;> rfl
  · rfl

@[simp] theorem State.travelEnded_cls (s : State) : s.travelEnded.env.cls = s.env.cls := by
  unfold State.travelEnded
  split <;> rfl

@[simp] theorem State.takeCommand_cls (code : Byte) (arg : Half) (s : State) :
    (s.takeCommand code arg).env.cls = s.env.cls := by
  unfold State.takeCommand
  split <;> rfl

@[simp] theorem State.judge_cls (b0 c1 c2 d0 d1 : Byte) (s : State) :
    (s.judge b0 c1 c2 d0 d1).env.cls = s.env.cls := by
  unfold State.judge
  split
  · exact State.takeCommand_cls _ _ s
  · rfl

@[simp] theorem State.gather_cls (b : Byte) (s : State) : (s.gather b).env.cls = s.env.cls := by
  unfold State.gather
  split
  · exact State.judge_cls _ _ _ _ _ s
  · rfl

/-- A service command writes no more than the port and the ring. -/
theorem State.command_cls {f : State → State} (h : ∀ s, (f s).env.cls = s.env.cls) (s : State) :
    (s.command f).env.cls = s.env.cls := by
  unfold State.command
  split
  · rfl
  · exact h s

/-! ### What a command can make of the classifier -/

/-- What one command can make of the classifier: nothing, the passing of time, a reset, or one of the events of chapter 1. -/
inductive Classifier.Evolves (c : Classifier) : Classifier → Prop
  | kept : Evolves c c
  | elapsed (n : Nat) : Evolves c (c.elapse n)
  | reset : Evolves c Classifier.reset
  | arrived (code : BitVec 16) (parity : Bool) : Evolves c (c.arrive code parity).1
  | lost (n : Nat) : Evolves c (c.elapse n).lossExpired.1
  | silent (n : Nat) (h : c.silenceTimer = some n) : Evolves c (c.elapse n).silenceExpired.1
  | unmasked (n : Nat) : Evolves c (c.elapse n).maskExpired.1

theorem Classifier.Evolves.of_eq {c d : Classifier} (h : d = c) : Classifier.Evolves c d := h ▸ .kept

/-- R2, R3, R7, R17: each of these keeps the ranges. -/
theorem Classifier.Evolves.inv {c d : Classifier} (h : Classifier.Evolves c d) (i : c.Inv) : d.Inv := by
  cases h with
  | kept => exact i
  | elapsed n => exact Classifier.elapse_inv i n
  | reset => exact Classifier.reset_inv
  | arrived code parity => exact Classifier.arrive_inv i code parity
  | lost n => exact Classifier.lossExpired_inv (Classifier.elapse_inv i n)
  | silent n t =>
    exact Classifier.silenceExpired_inv (Classifier.elapse_inv i n) (by simp [Classifier.elapse, Timer.elapse, t])
  | unmasked n => exact Classifier.maskExpired_inv (Classifier.elapse_inv i n)

/-- An expiry that another block takes lets time pass for the classifier, or does nothing. -/
theorem State.onExpiry_evolves {k : State → State} (h : ∀ s, (k s).env.cls = s.env.cls) (t : Timer) (s : State) :
    Classifier.Evolves s.env.cls (s.onExpiry t k).env.cls := by
  cases t with
  | none => exact .kept
  | some n => exact h (s.elapse n) ▸ .elapsed n

theorem State.onPeerExpiry_evolves {k : State → State} (h : ∀ s, (k s).env.cls = s.env.cls) (address : Nat)
    (t : Peer → Timer) (s : State) : Classifier.Evolves s.env.cls (s.onPeerExpiry address t k).env.cls := by
  unfold State.onPeerExpiry
  split
  · exact State.onExpiry_evolves h _ s
  · exact .kept

theorem State.capReached_evolves (s : State) : Classifier.Evolves s.env.cls s.capReached.env.cls := by
  unfold State.capReached
  simp only
  split
  · exact .kept
  · exact .elapsed _

/-- R170: of the orders only a RESET that the arming cab sends touches the classifier, and resets it. -/
theorem State.acceptOrder_evolves (dst src : Nat) (v : Verb) (mask : Byte) (t : Int) (s : State) :
    Classifier.Evolves s.env.cls (s.acceptOrder dst src v mask t).env.cls := by
  unfold State.acceptOrder
  simp only
  split
  · split
    · exact .of_eq (State.armOrder_cls dst src s)
    · unfold State.resetOrder
      split
      · exact .kept
      · split
        · exact .reset
        · exact .kept
  · exact .of_eq (State.whenAdmitted_cls (State.obey_cls dst src v mask) ..)

theorem State.accept_evolves (dst src : Nat) (f : Frame) (t : Int) (s : State) :
    Classifier.Evolves s.env.cls (s.accept dst src f t).env.cls := by
  cases f with
  | order v mask arg => exact State.acceptOrder_evolves dst src v mask t s
  | stateRoof p => exact .of_eq (State.stateHeard_cls ..)
  | stateCab p => exact .of_eq (State.stateHeard_cls ..)
  | bid b => exact .of_eq (State.updatePeer_cls ..)
  | cede n => exact .of_eq (State.updatePeer_cls ..)
  | alert x => exact .of_eq (State.alertHeard_cls ..)
  | route n => exact .of_eq (State.whenAdmitted_cls (by intro; rfl) ..)
  | cancel id => exact .of_eq (State.whenAdmitted_cls (by intro; rfl) ..)

theorem State.checkFrame_evolves (dst src kind : Nat) (f : Option Frame) (t : Int) (s : State) :
    Classifier.Evolves s.env.cls (s.checkFrame dst src kind f t).env.cls := by
  unfold State.checkFrame
  split
  · exact .kept
  · split
    · exact .kept
    · split
      · exact .kept
      · split
        · exact State.accept_evolves dst src _ t s
        · exact .kept

theorem State.hear_evolves {k : State → State} (h : ∀ s, Classifier.Evolves s.env.cls (k s).env.cls) (s : State) :
    Classifier.Evolves s.env.cls (s.hear k).env.cls := by
  unfold State.hear
  split
  · exact .kept
  · exact h s

theorem State.receive_evolves (dst src : Byte) (f : Frame) (t : Int) (s : State) :
    Classifier.Evolves s.env.cls (s.receive dst src f t).env.cls :=
  State.hear_evolves (State.checkFrame_evolves _ _ _ _ _) s

theorem State.receiveRaw_evolves (dst src kind : Byte) (payload : List Byte) (s : State) :
    Classifier.Evolves s.env.cls (s.receiveRaw dst src kind payload).env.cls :=
  State.hear_evolves (fun s => State.checkFrame_evolves _ _ _ _ _ s) s

theorem State.receiveBytes_evolves (bytes : List Byte) (s : State) :
    Classifier.Evolves s.env.cls (s.receiveBytes bytes).env.cls := by
  refine State.hear_evolves (fun s => ?_) s
  split
  · split
    · exact .kept
    · simp only
      split
      · exact State.checkFrame_evolves _ _ _ _ _ s
      · exact .kept
  · exact .kept

/-! ### The classifier's own commands -/

theorem State.lossExpiry_evolves (s : State) :
    Classifier.Evolves s.env.cls
      (s.onExpiry s.env.cls.lossTimer fun s => s.classifier Classifier.lossExpired).env.cls := by
  cases s.env.cls.lossTimer with
  | none => exact .kept
  | some n => exact .lost n

theorem State.silenceExpiry_evolves (s : State) :
    Classifier.Evolves s.env.cls
      (s.onExpiry s.env.cls.silenceTimer fun s => s.classifier Classifier.silenceExpired).env.cls := by
  cases h : s.env.cls.silenceTimer with
  | none => exact .kept
  | some n => exact .silent n h

theorem State.maskExpiry_evolves (s : State) :
    Classifier.Evolves s.env.cls
      (s.onExpiry s.env.cls.surgeMask fun s => s.classifier Classifier.maskExpired).env.cls := by
  cases s.env.cls.surgeMask with
  | none => exact .kept
  | some n => exact .unmasked n

/-- Every command has a next state, and what it makes of the classifier is one of `Classifier.Evolves`: the end of the event does
not touch it. -/
theorem exec_classifier (c : Instr) (s : State) :
    ∃ t, exec c s = .next t ∧ Classifier.Evolves s.env.cls t.env.cls := by
  cases c
  case powerOnReset pins => exact ⟨_, rfl, .reset⟩
  case sampleFrame code parity => exact ⟨_, rfl, .arrived code parity⟩
  case lossTimerExpiry => exact ⟨_, rfl, s.lossExpiry_evolves⟩
  case silenceTimerExpiry => exact ⟨_, rfl, s.silenceExpiry_evolves⟩
  case surgeMaskExpiry => exact ⟨_, rfl, s.maskExpiry_evolves⟩
  case selectorTravelEnd => exact ⟨_, rfl, .of_eq s.travelEnded_cls⟩
  case configAttemptEnd buffer => exact ⟨_, rfl, .of_eq (s.attemptEnded_cls buffer)⟩
  case odoStale => exact ⟨_, rfl, s.capReached_evolves⟩
  case moderationCountEnd => exact ⟨_, rfl, .elapsed _⟩
  case framingError bytes => exact ⟨_, rfl, s.receiveBytes_evolves bytes⟩
  case unknownKind dst src kind payload => exact ⟨_, rfl, s.receiveRaw_evolves dst src kind payload⟩
  case peerAgeExpiry a => exact ⟨_, rfl, s.onPeerExpiry_evolves (State.peerAged_cls a) a _⟩
  case peerRemovalExpiry a => exact ⟨_, rfl, s.onPeerExpiry_evolves (State.peerRemoved_cls a) a _⟩
  case peerBidTimerExpiry a => exact ⟨_, rfl, s.onPeerExpiry_evolves (State.updatePeer_cls a _) a _⟩
  case authorityHoldExpiry => exact ⟨_, rfl, s.onExpiry_evolves State.holdExpired_cls _⟩
  case unknownCommand code arg => exact ⟨_, rfl, .of_eq (s.command_cls (State.takeCommand_cls code arg))⟩
  case badFrame b0 b1 b2 b3 b4 => exact ⟨_, rfl, .of_eq (s.command_cls (State.judge_cls b0 b1 b2 b3 b4))⟩
  case serviceByte b => exact ⟨_, rfl, .of_eq (s.command_cls (State.gather_cls b))⟩
  case status | events | ack | peers | notices | config | counters =>
    exact ⟨_, rfl, .of_eq (s.command_cls (by intro; rfl))⟩
  case lock | unlock | clearFaultSlots | clearFaultSwitchgear | prefer | resume | mute | unmute | resetArm | reset
      | stateRoof | stateCab | bid | cede | alert | route | cancel =>
    exact ⟨_, rfl, s.receive_evolves _ _ _ _⟩
  case selectorTravelTimeout | isolatorTimeout | breakerCloseTimeout | breakerOpenTimeout | riseTimeout | lowerTimeout
      | armingTimerExpiry | stateTimerExpiry | bidWindowExpiry | bidSpacingExpiry | noticeReviewTimerExpiry
      | seqRetryExpiry | testRetryExpiry | powerlessTimerExpiry | noSupplyTimerExpiry | recloseHoldExpiry
      | seqReviewTimerExpiry | iceIntervalEnd | iceReviewTimerExpiry | listenTimerExpiry | joinTimerExpiry
      | serviceByteGapExpiry =>
    exact ⟨_, rfl, s.onExpiry_evolves (by intro; rfl) _⟩
  case selectorEndSwitchChange | isolatorClosed | isolatorOpened | isolatorContactConflict | breakerClosed
      | breakerOpened | breakerContactConflict | breakerTrip | roofTestCompletion | slotUp | slotDown | slotDropped
      | attemptStart | collision | jamEnd | backoffExpiry | frameSent | arcPulse | serviceReplyEnd =>
    exact ⟨_, rfl, .kept⟩

/-- Settles O14: time passes on an empty queue, and a command does what `exec_classifier` allows. -/
theorem classifierRangesKept : Obligations.ClassifierRangesKept := by
  intro s t i h
  cases q : s.pending with
  | nil =>
    simp only [step, q] at h
    cases h
    exact Classifier.elapse_inv i 1
  | cons c rest =>
    simp only [step, q] at h
    obtain ⟨u, hu, e⟩ := exec_classifier c { s with pending := rest }
    rw [hu] at h
    cases h
    exact e.inv i

/-! ## The arithmetic of a window

The arithmetic of a window: the mean, the exact square root, the table of classes, run record and confirmation (R9 to R14). -/

/-! ### The square root (R9) -/

/-- The bracket of the digit-by-digit root: with `r` a lower bound and `r + 2^k` above the root, the root is found. -/
theorem isqrtFrom_spec (n : Nat) : ∀ k r : Nat, r * r ≤ n → n < (r + 2 ^ k) * (r + 2 ^ k) →
    isqrtFrom n k r * isqrtFrom n k r ≤ n ∧ n < (isqrtFrom n k r + 1) * (isqrtFrom n k r + 1)
  | 0, _, low, high => ⟨low, high⟩
  | k + 1, r, low, high => by
    have double : r + 2 ^ k + 2 ^ k = r + 2 ^ (k + 1) := by rw [pow_succ]; omega
    unfold isqrtFrom
    split
    · exact isqrtFrom_spec n k (r + 2 ^ k) (by assumption) (double ▸ high)
    · exact isqrtFrom_spec n k r low (by omega)

theorem isqrt_spec {n : Nat} (h : n < 4294967296) : isqrt n * isqrt n ≤ n ∧ n < (isqrt n + 1) * (isqrt n + 1) :=
  isqrtFrom_spec n 16 0 (Nat.zero_le n) h

/-! ### The mean (R9) -/

/-- M is rounded toward zero: in magnitude it is the floor of the magnitude's quotient. -/
theorem windowMean_natAbs (s : Int) : (windowMean s).natAbs = s.natAbs / 960 := Int.natAbs_tdiv s 960

theorem windowMean_nonneg {s : Int} (h : 0 ≤ s) : 0 ≤ windowMean s := Int.tdiv_nonneg h (by decide)

theorem windowMean_nonpos {s : Int} (h : s ≤ 0) : windowMean s ≤ 0 := by
  have := windowMean_nonneg (Int.neg_nonneg.mpr h)
  rw [windowMean, Int.neg_tdiv] at this
  exact Int.neg_nonneg.mp this

theorem windowRms_spec {q : Nat} (s : Int) (h : q < 1099511627776) :
    let ac := q / 960 - (windowMean s).natAbs * (windowMean s).natAbs
    windowRms s q * windowRms s q ≤ ac ∧ ac < (windowRms s q + 1) * (windowRms s q + 1) :=
  isqrt_spec (by omega)

/-- R9: the root of a measured window stays in its range. -/
theorem windowRms_le {s : Int} {q : Nat} (h : q ≤ 960 * (32766 * 32766)) : windowRms s q ≤ 32766 := by
  have root : windowRms s q * windowRms s q ≤ 32766 * 32766 := by
    have := (windowRms_spec s (q := q) (by omega)).1
    omega
  exact Nat.mul_self_le_mul_self_iff.mp root

/-- Settles O12: mean, root and ranges of a window. -/
theorem windowArithmetic : Obligations.WindowArithmetic := by
  refine ⟨fun s => ⟨?_, ?_, windowMean_nonneg, windowMean_nonpos⟩, fun s q => windowRms_spec s, fun s q hs hq =>
    ⟨?_, ?_, windowRms_le hq⟩⟩
  · rw [windowMean_natAbs]
    omega
  · rw [windowMean_natAbs]
    omega
  · rw [windowMean_natAbs]
    omega
  · omega

/-! ### Run record and confirmation (R12, R14) -/

theorem extendRun_same (k : WindowClass) (n : Nat) : extendRun k (some (k, n)) = (k, min 4 (n + 1)) := if_pos rfl

theorem extendRun_other {k r : WindowClass} (n : Nat) (h : r ≠ k) : extendRun k (some (r, n)) = (k, 1) := if_neg h

/-! ### The table of classes (R10) -/

/-- R10's table with the quarter of M taken of M itself where M is positive. -/
theorem classify_table (m : Int) (rms z : Nat) : classify m rms z =
    if m.natAbs < 125 ∧ rms < 125 then .dead
    else if 250 ≤ m ∧ m ≤ 487 ∧ (rms : Int) ≤ m / 4 then .dc15
    else if 500 ≤ m ∧ m ≤ 975 ∧ (rms : Int) ≤ m / 4 then .dc3
    else if m ≤ -250 ∧ rms ≤ m.natAbs / 4 then .reverse
    else if 2750 ≤ rms ∧ rms ≤ 4500 ∧ m.natAbs ≤ rms / 8 ∧ 3 ≤ z ∧ z ≤ 5 then .ac15
    else if 4375 ≤ rms ∧ rms ≤ 7250 ∧ m.natAbs ≤ rms / 8 ∧ 11 ≤ z ∧ z ≤ 13 then .ac25
    else .unknown := by
  have low : 250 ≤ m ∧ m ≤ 487 ∧ rms ≤ m.natAbs / 4 ↔ 250 ≤ m ∧ m ≤ 487 ∧ (rms : Int) ≤ m / 4 := by omega
  have high : 500 ≤ m ∧ m ≤ 975 ∧ rms ≤ m.natAbs / 4 ↔ 500 ≤ m ∧ m ≤ 975 ∧ (rms : Int) ≤ m / 4 := by omega
  simp only [classify, low, high]

/-- Settles O13: each row of R10's table, reached where no row above it holds; then R12 and R14. -/
theorem classesAndConfirmation : Obligations.ClassesAndConfirmation := by
  refine ⟨fun m rms z => ?rows, fun _ => rfl, extendRun_same, fun k r n => extendRun_other n, fun old n _ h4 => ?confirm⟩
  case rows =>
    have table := classify_table m rms z
    exact ⟨fun a => by rw [table, if_pos a],
      fun a b => by rw [table, if_neg a, if_pos b],
      fun a b c => by rw [table, if_neg a, if_neg b, if_pos c],
      fun a b c d => by rw [table, if_neg a, if_neg b, if_neg c, if_pos d],
      fun a b c d e => by rw [table, if_neg a, if_neg b, if_neg c, if_neg d, if_pos e],
      fun a b c d e f => by rw [table, if_neg a, if_neg b, if_neg c, if_neg d, if_neg e, if_pos f],
      fun a b c d e f => by rw [table, if_neg a, if_neg b, if_neg c, if_neg d, if_neg e, if_neg f]⟩
  case confirm =>
    have full : 4 ≤ n ↔ n = 4 := by omega
    exact ⟨rfl, rfl, rfl, rfl, rfl, if_congr full rfl rfl, if_congr full rfl rfl⟩

/-! ## After a reset

The state after a reset: each block's values meet the block's invariant (R17, R35, R54, R74, R92, R122, R178). -/

/-- R74. -/
theorem Link.reset_inv (address : Option Nat) : (Link.reset address).Inv where
  length := Nat.zero_le 8
  head := fun _ => rfl
  gate := nofun
  closed := fun _ => ⟨rfl, .inl rfl⟩
  framesSent := Nat.zero_le _
  collisions := Nat.zero_le _
  lateCollisions := Nat.zero_le _
  discards := Nat.zero_le _
  crcErrors := Nat.zero_le _
  unknownKinds := Nat.zero_le _

/-- R92. -/
theorem PeerView.reset_inv (now : Nat) : (PeerView.reset now).Inv where
  order := .nil
  range := fun _ m => absurd m List.not_mem_nil
  aging := fun _ m => absurd m List.not_mem_nil
  bids := fun _ m => absurd m List.not_mem_nil
  authority := rfl
  conflict := rfl
  present := by simp [PeerView.reset]
  holding := by simp [PeerView.reset]
  speed := Nat.zero_le _
  length := Nat.zero_le _

/-- R122. -/
theorem NoticeQueue.reset_inv : NoticeQueue.reset.Inv where
  length := Nat.zero_le _
  ids := .nil
  named := fun _ m => absurd m List.not_mem_nil
  ends := fun _ m => absurd m List.not_mem_nil
  order := .nil
  mark := nofun

/-- R178. -/
theorem Ring.reset_inv : Ring.reset.Inv where
  length := Nat.zero_le _
  numbered := rfl
  dropped := nofun
  droppedRange := Nat.zero_le _
  attention := fun h => absurd rfl h

/-- R54. -/
theorem SlotRec.reset_safe : SlotRec.reset.Safe where
  duty := fun h => absurd rfl h
  lock := fun _ => ⟨nofun, nofun⟩
  dropped := nofun
  pressure := Nat.zero_le _

/-- R35: no switch device is closing or closed. -/
theorem State.reset_interlocked : State.reset.Interlocked := ⟨nofun, nofun⟩

theorem State.reset_slotsSafe : State.reset.SlotsSafe where
  safe := by
    intro i
    cases i with
    | zero => exact SlotRec.reset_safe
    | one => exact SlotRec.reset_safe
  duties := fun _ => rfl

theorem State.reset_peersInv : State.reset.PeersInv where
  view := PeerView.reset_inv 0
  own := fun _ m => absurd m List.not_mem_nil
  unset := fun _ => rfl
  start := fun _ => rfl

/-- Settles O60. -/
theorem invariantsHoldAtReset : Obligations.InvariantsHoldAtReset :=
  ⟨Classifier.reset_inv, State.reset_interlocked, State.reset_slotsSafe, Link.reset_inv none, State.reset_peersInv,
    NoticeQueue.reset_inv, Ring.reset_inv, rfl, rfl⟩

/-- Settles O6: a power-on reset writes these registers, and the end of the event leaves them. -/
theorem powerOnResetClassifierAndPeers : Obligations.PowerOnResetClassifierAndPeers := fun pins s =>
  ⟨(s.powerOn pins).finish, rfl, rfl, rfl, rfl, rfl, rfl, rfl, rfl⟩

/-! ## Windows and timers

Samples, the conclusion of a window, and the classifier's timers (R2 to R8, R11, R15): what each makes of the classifier and
which records it writes, then the commands around them. -/

/-! ### Parity (R2) -/

/-- The running exclusive-or over a list of bits tells whether the ones are even in number. -/
theorem foldl_bne_eq_false_iff (f : Nat → Bool) (l : List Nat) (p : Bool) :
    l.foldl (fun p n => p != f n) p = false ↔ ((l.filter f).length + flag p) % 2 = 0 := by
  induction l generalizing p with
  | nil => cases p <;> simp [flag]
  | cons n l ih =>
    rw [List.foldl_cons, ih, List.filter_cons]
    cases f n <;> cases p <;> simp [flag]
    omega

theorem parityCorrect_iff (code : BitVec 16) (parity : Bool) :
    parityCorrect code parity = true ↔ EvenParity code parity := by
  unfold parityCorrect EvenParity
  rw [beq_iff_eq]
  exact foldl_bne_eq_false_iff _ _ _

/-! ### One sample (R4 to R6) -/

/-- R6: the crossing detector's table, by the sample's value. -/
theorem Classifier.sample_armed (code : BitVec 16) (c : Classifier) :
    (c.sample code).armed =
      if sampleValue code ≤ -250 then true else if 250 ≤ sampleValue code then false else c.armed := by
  cases h : c.armed <;> simp [Classifier.sample, h]

theorem Classifier.sample_crossings (code : BitVec 16) (c : Classifier) :
    (c.sample code).crossings =
      if c.armed = true ∧ 250 ≤ sampleValue code then c.crossings + 1 else c.crossings := by
  simp [Classifier.sample]

/-- The window in progress with one sample more, its arrival having restarted the loss timer and ended a loss run (R2). -/
def Classifier.sampled (code : BitVec 16) (c : Classifier) : Classifier :=
  { c with lossTimer := some 2, silenceTimer := none }.sample code

theorem Classifier.sampled_eq (code : BitVec 16) (c : Classifier) :
    c.sampled code =
      { c with
        lossTimer := some 2, silenceTimer := none, count := c.count + 1, sum := c.sum + sampleValue code
        squares := c.squares + (sampleValue code * sampleValue code).toNat
        clip := c.clip || decide (code.toInt = 32767) || decide (code.toInt = -32768)
        surge := c.surge || decide (16384 ≤ (sampleValue code).natAbs)
        crossings := if c.armed = true ∧ 250 ≤ sampleValue code then c.crossings + 1 else c.crossings
        armed := if sampleValue code ≤ -250 then true else if 250 ≤ sampleValue code then false else c.armed } := by
  rw [← Classifier.sample_crossings code c, ← Classifier.sample_armed code c]
  rfl

/-! ### The arrival of a frame (R2, R8) -/

theorem Classifier.arrive_bad {code : BitVec 16} {parity : Bool} (c : Classifier) (h : ¬ EvenParity code parity) :
    c.arrive code parity = ({ c with badSamples := min 65535 (c.badSamples + 1) }, []) :=
  if_neg (mt (parityCorrect_iff code parity).mp h)

theorem Classifier.arrive_within {code : BitVec 16} {parity : Bool} {c : Classifier} (h : EvenParity code parity)
    (n : c.count + 1 < 960) : c.arrive code parity = (c.sampled code, []) :=
  (if_pos ((parityCorrect_iff code parity).mpr h)).trans (if_pos n)

theorem Classifier.arrive_full {code : BitVec 16} {parity : Bool} {c : Classifier} (h : EvenParity code parity)
    (n : c.count + 1 = 960) : c.arrive code parity =
      if (c.sampled code).clip = true then (c.sampled code).concludeVoid .clipped
      else (c.sampled code).concludeMeasured :=
  (if_pos ((parityCorrect_iff code parity).mpr h)).trans (if_neg (show ¬ c.count + 1 < 960 by omega))

/-! ### The classifier's records among the part's -/

/-- R15: the classifier's records are written one behind the other, with subject 0. -/
theorem Act.logClassifier_eq (r : List ClsRecord) (a : Act) :
    a.logClassifier r = { a with logs := a.logs ++ r.map fun x => a.entry x.1 0 x.2.1 x.2.2 } := by
  unfold Act.logClassifier
  induction r generalizing a with
  | nil => simp
  | cons x r ih =>
    rw [List.foldl_cons, ih]
    simp [Act.log, Act.entry]

/-- R16: a change of the confirmed system does no more than the end of an event may. -/
theorem Act.Settles.confirmedChanged {e : Env} {a0 a : Act} (h : Act.Settles e a0 a) :
    Act.Settles e a0 (a.confirmedChanged e) := by
  have checked : Act.Settles e a0 (a.supplyChecked e) := by
    unfold Act.supplyChecked
    split
    · split
      · exact h
      · exact h.forceOpen
    · exact h.forceOpen
  exact checked.recomputeProfile.evalDue.push

theorem State.classifier_eq (f : Classifier → Classifier × List ClsRecord) (s : State) :
    s.classifier f =
      { s with
        env := { s.env with cls := (f s.env.cls).1 }
        act :=
          if (f s.env.cls).1.confirmed = s.env.cls.confirmed then s.act.logClassifier (f s.env.cls).2
          else (s.act.logClassifier (f s.env.cls).2).confirmedChanged { s.env with cls := (f s.env.cls).1 } } := rfl

/-- A report of the classifier that writes nothing and leaves the confirmed system leaves the rest of the part. -/
theorem State.classifier_silent {f : Classifier → Classifier × List ClsRecord} {s : State} {d : Classifier}
    (h : f s.env.cls = (d, [])) (k : d.confirmed = s.env.cls.confirmed) :
    s.classifier f = { s with env := { s.env with cls := d } } := by
  rw [State.classifier_eq, h, if_pos k]
  rfl

/-- An event of the classifier: it writes the classifier, and its records come first of those that the event writes. -/
theorem State.classifier_event (f : Classifier → Classifier × List ClsRecord) (s : State) :
    ∃ t es, (s.classifier f).finish = t ∧ t.env = { s.env with cls := (f s.env.cls).1 } ∧ t.port = s.port
      ∧ t.ring = s.ring.writeAll s.env.now
        (s.act.logs ++ ((f s.env.cls).2.map fun x => s.act.entry x.1 0 x.2.1 x.2.2) ++ es) := by
  have first : Act.Settles (s.classifier f).env (s.act.logClassifier (f s.env.cls).2) (s.classifier f).act := by
    rw [State.classifier_eq]
    split_ifs
    · exact .refl _
    · exact (Act.Settles.refl _).confirmedChanged
  obtain ⟨b, settled, finished⟩ := State.finish_settles (s.classifier f)
  obtain ⟨es, written⟩ := (first.trans settled).logs
  refine ⟨_, es, finished, rfl, rfl, ?_⟩
  rw [written, Act.logClassifier_eq]
  rfl

/-- Between two events nothing is left for an event's end to do. -/
theorem State.Quiet.finish {s : State} (h : s.Quiet) : s.finish = s := by
  obtain ⟨empty, unwritten⟩ := h
  have kept : ({ s.act with logs := [] } : Act) = s.act := by rw [← unwritten]
  rw [State.finish_of_quiet empty, kept, unwritten]
  rfl

/-- Settles O9: inside a window a sample frame writes the classifier only, and no record. -/
theorem sampleFrameWithinAWindow : Obligations.SampleFrameWithinAWindow := by
  intro code parity s x c bad good
  have quiet {d : Classifier} (h : c.arrive code parity = (d, [])) (k : d.confirmed = c.confirmed) :
      let t : State := { s with env := { s.env with cls := d } }
      exec (.sampleFrame code parity) s = .next t.finish ∧ (s.Quiet → exec (.sampleFrame code parity) s = .next t) := by
    intro t
    have run : exec (.sampleFrame code parity) s = .next t.finish :=
      congrArg (fun u => Host.Outcome.next (State.finish u)) (State.classifier_silent h k)
    exact ⟨run, fun q => run.trans (congrArg _ (State.Quiet.finish (s := t) q))⟩
  exact ⟨fun h => quiet (c.arrive_bad h) rfl,
    fun h n => quiet ((Classifier.arrive_within h n).trans (by rw [Classifier.sampled_eq]; rfl)) rfl⟩

/-! ### The conclusion of a window (R7, R8, R11 to R15) -/

/-- R7: SURGE at a surge while the mask is idle. -/
theorem Classifier.reportSurge_records (k : WindowClass) (c : Classifier) :
    (c.reportSurge k).2 =
      if c.surge = true ∧ c.surgeMask = none then [(.surge, n16 c.maskedSurges, n32 k.code)] else [] := by
  cases h : c.surge <;> cases m : c.surgeMask <;> simp [Classifier.reportSurge, h, m]

/-- R7: a surge report writes the surge mask and its count only. -/
theorem Classifier.reportSurge_frame (k : WindowClass) (c : Classifier) :
    ∃ mask count, (c.reportSurge k).1 = { c with surgeMask := mask, maskedSurges := count } := by
  unfold Classifier.reportSurge
  split
  · exact ⟨_, _, rfl⟩
  · split <;> exact ⟨_, _, rfl⟩

section
variable (k : WindowClass) (c : Classifier)

@[simp] theorem Classifier.reportSurge_armed : (c.reportSurge k).1.armed = c.armed := by
  obtain ⟨m, n, h⟩ := c.reportSurge_frame k; rw [h]
@[simp] theorem Classifier.reportSurge_lossTimer : (c.reportSurge k).1.lossTimer = c.lossTimer := by
  obtain ⟨m, n, h⟩ := c.reportSurge_frame k; rw [h]
@[simp] theorem Classifier.reportSurge_silenceTimer : (c.reportSurge k).1.silenceTimer = c.silenceTimer := by
  obtain ⟨m, n, h⟩ := c.reportSurge_frame k; rw [h]
@[simp] theorem Classifier.reportSurge_badSamples : (c.reportSurge k).1.badSamples = c.badSamples := by
  obtain ⟨m, n, h⟩ := c.reportSurge_frame k; rw [h]
@[simp] theorem Classifier.reportSurge_run : (c.reportSurge k).1.run = c.run := by
  obtain ⟨m, n, h⟩ := c.reportSurge_frame k; rw [h]
@[simp] theorem Classifier.reportSurge_voids : (c.reportSurge k).1.voids = c.voids := by
  obtain ⟨m, n, h⟩ := c.reportSurge_frame k; rw [h]
@[simp] theorem Classifier.reportSurge_reported : (c.reportSurge k).1.reported = c.reported := by
  obtain ⟨m, n, h⟩ := c.reportSurge_frame k; rw [h]

end

/-- R7: what a surge report makes of the surge mask and of its count, from `c` to `d`. -/
structure Classifier.SurgeReported (c d : Classifier) : Prop where
  calm : c.surge = false → d.surgeMask = c.surgeMask ∧ d.maskedSurges = c.maskedSurges
  started : c.surge = true → c.surgeMask = none → d.surgeMask = some 10000 ∧ d.maskedSurges = 0
  counted : c.surge = true → c.surgeMask.isSome = true →
    d.surgeMask = c.surgeMask ∧ d.maskedSurges = min 65535 (c.maskedSurges + 1)

theorem Classifier.reportSurge_reports (k : WindowClass) (c : Classifier) :
    Classifier.SurgeReported c (c.reportSurge k).1 where
  calm := fun h => by simp [Classifier.reportSurge, h]
  started := fun h m => by simp [Classifier.reportSurge, h, m]
  counted := fun h m => by
    obtain ⟨n, m⟩ := Option.isSome_iff_exists.mp m
    simp [Classifier.reportSurge, h, m, bump]

/-- What the conclusion of a window of class `k`, void or measured, makes of the classifier `c` that holds the window: the class is
the latest, the surge is reported, the next window is open, and crossing detector, timers and bad samples stay. -/
structure Classifier.Concluded (k : WindowClass) (c d : Classifier) : Prop extends Classifier.SurgeReported c d where
  latest : d.latest = k
  opened : d.count = 0 ∧ d.sum = 0 ∧ d.squares = 0 ∧ d.crossings = 0 ∧ d.clip = false ∧ d.surge = false
  armed : d.armed = c.armed
  lossTimer : d.lossTimer = c.lossTimer
  silenceTimer : d.silenceTimer = c.silenceTimer
  badSamples : d.badSamples = c.badSamples

theorem Classifier.concludeVoid_concluded (k : WindowClass) (c : Classifier) :
    Classifier.Concluded k c (c.concludeVoid k).1 where
  calm := (c.reportSurge_reports k).calm
  started := (c.reportSurge_reports k).started
  counted := (c.reportSurge_reports k).counted
  latest := rfl
  opened := ⟨rfl, rfl, rfl, rfl, rfl, rfl⟩
  armed := c.reportSurge_armed k
  lossTimer := c.reportSurge_lossTimer k
  silenceTimer := c.reportSurge_silenceTimer k
  badSamples := c.reportSurge_badSamples k

/-- R8, R13: a void window moves the void count and, where it comes to three, the confirmed system. -/
structure Classifier.Voided (c d : Classifier) : Prop where
  voids : d.voids = min 3 (c.voids + 1)
  run : d.run = c.run
  reported : d.reported = c.reported
  confirmed : d.confirmed = if min 3 (c.voids + 1) = 3 then .indeterminate else c.confirmed

theorem Classifier.concludeVoid_voided (k : WindowClass) (c : Classifier) :
    Classifier.Voided c (c.concludeVoid k).1 where
  voids := congrArg (bump 3) (c.reportSurge_voids k)
  run := c.reportSurge_run k
  reported := c.reportSurge_reported k
  confirmed := congrArg (fun n => if bump 3 n = 3 then Confirmed.indeterminate else c.confirmed) (c.reportSurge_voids k)

theorem Classifier.concludeVoid_records (k : WindowClass) (c : Classifier) :
    (c.concludeVoid k).2 = (c.reportSurge k).2 ++ confirmedRecord c.confirmed (c.concludeVoid k).1 := rfl

/-- R10: the class of the window in progress were it concluded as it stands. -/
def Classifier.windowClass (c : Classifier) : WindowClass :=
  classify (windowMean c.sum) (windowRms c.sum c.squares) c.crossings

/-- R11: and the line voltage it would report. -/
def Classifier.windowVoltage (c : Classifier) : Int :=
  voltageOf c.windowClass (windowMean c.sum) (windowRms c.sum c.squares)

theorem Classifier.concludeMeasured_concluded (c : Classifier) :
    Classifier.Concluded c.windowClass c c.concludeMeasured.1 where
  calm := (c.reportSurge_reports c.windowClass).calm
  started := (c.reportSurge_reports c.windowClass).started
  counted := (c.reportSurge_reports c.windowClass).counted
  latest := rfl
  opened := ⟨rfl, rfl, rfl, rfl, rfl, rfl⟩
  armed := c.reportSurge_armed c.windowClass
  lossTimer := c.reportSurge_lossTimer c.windowClass
  silenceTimer := c.reportSurge_silenceTimer c.windowClass
  badSamples := c.reportSurge_badSamples c.windowClass

/-- R11, R12, R14: a measured window moves run record, reported voltage and confirmed system, and ends a row of void windows. -/
structure Classifier.Measured (c d : Classifier) : Prop where
  voids : d.voids = 0
  run : d.run = some (extendRun c.windowClass c.run)
  reported : d.reported = c.windowVoltage
  confirmed : d.confirmed = confirm c.confirmed (extendRun c.windowClass c.run)

theorem Classifier.concludeMeasured_measured (c : Classifier) : Classifier.Measured c c.concludeMeasured.1 where
  voids := rfl
  run := congrArg (fun r => some (extendRun c.windowClass r)) (c.reportSurge_run c.windowClass)
  reported := rfl
  confirmed := congrArg (fun r => confirm c.confirmed (extendRun c.windowClass r)) (c.reportSurge_run c.windowClass)

/-- R15: SURGE, REVERSE_POLARITY, SYSTEM_CONFIRMED. -/
theorem Classifier.concludeMeasured_records (c : Classifier) :
    c.concludeMeasured.2 =
      (c.reportSurge c.windowClass).2
        ++ (if c.windowClass = .reverse ∧ c.run = some (.reverse, 3) then
            [(.reversePolarity, 4, i32 c.windowVoltage)]
          else [])
        ++ confirmedRecord c.confirmed c.concludeMeasured.1 := by
  rw [← c.reportSurge_run c.windowClass]
  rfl

/-- R8: the 960th sample concludes the window, as CLIPPED where the window has clipped, else as measured. -/
theorem Classifier.arrive_concludes {code : BitVec 16} {parity : Bool} {c : Classifier} (h : EvenParity code parity)
    (n : c.count + 1 = 960) :
    let p := c.sampled code
    let k := if p.clip then .clipped else p.windowClass
    let d := (c.arrive code parity).1
    Classifier.Concluded k p d ∧ (p.clip = true → Classifier.Voided p d) ∧ (p.clip = false → Classifier.Measured p d)
      ∧ (c.arrive code parity).2 =
        (p.reportSurge k).2
          ++ (if p.clip = false ∧ p.windowClass = .reverse ∧ p.run = some (.reverse, 3) then
              [(.reversePolarity, 4, i32 p.windowVoltage)]
            else [])
          ++ confirmedRecord c.confirmed d := by
  intro p k d
  have arrived := Classifier.arrive_full h n
  cases clip : p.clip with
  | true =>
    have void : c.arrive code parity = p.concludeVoid .clipped := arrived.trans (if_pos clip)
    have hk : k = .clipped := if_pos clip
    simp only [d, hk, void, Bool.true_eq_false, false_and, if_false, List.append_nil]
    exact ⟨p.concludeVoid_concluded .clipped, fun _ => p.concludeVoid_voided .clipped, nofun, rfl⟩
  | false =>
    have measured : c.arrive code parity = p.concludeMeasured :=
      arrived.trans (if_neg (Bool.eq_false_iff.mp clip))
    have hk : k = p.windowClass := if_neg (Bool.eq_false_iff.mp clip)
    simp only [d, hk, measured, true_and]
    exact ⟨p.concludeMeasured_concluded, nofun, fun _ => p.concludeMeasured_measured, p.concludeMeasured_records⟩

/-- R11's table. -/
theorem voltageOf_eq (k : WindowClass) (m : Int) (rms : Nat) :
    voltageOf k m rms =
      if k = .ac25 ∨ k = .ac15 ∨ k = .unknown then 4 * (rms : Int)
      else if k = .dc15 ∨ k = .dc3 ∨ k = .reverse then 4 * m else 0 := by
  cases k <;> rfl

/-! ### The records as the part writes them -/

/-- R7: SURGE as the part's record. -/
theorem Classifier.reportSurge_entries (k : WindowClass) (c : Classifier) (a : Act) :
    ((c.reportSurge k).2.map fun x => a.entry x.1 0 x.2.1 x.2.2) =
      if c.surge = true ∧ c.surgeMask = none then [a.entry .surge 0 (n16 c.maskedSurges) (n32 k.code)] else [] := by
  rw [Classifier.reportSurge_records]
  split <;> rfl

/-- R15: SYSTEM_CONFIRMED as the part's record. -/
theorem confirmedRecord_entries (old : Confirmed) (d : Classifier) (a : Act) :
    ((confirmedRecord old d).map fun x => a.entry x.1 0 x.2.1 x.2.2) =
      if d.confirmed = old then []
      else [a.entry .systemConfirmed 0 (n16 (d.confirmed.code + 256 * old.code)) (i32 d.reported)] := by
  unfold confirmedRecord
  split <;> rfl

/-- Settles O10: `Classifier.arrive_concludes`, with class and voltage of the window in the statement's words. -/
theorem windowConclusion : Obligations.WindowConclusion := by
  intro code parity s parityOk full c x clip surge z m rms k volts surges reversals
  obtain ⟨concluded, void, measured, records⟩ := Classifier.arrive_concludes parityOk full
  obtain ⟨t, es, run, env, port, ring⟩ := State.classifier_event (fun c => c.arrive code parity) s
  have crossings : (c.sampled code).crossings = z := Classifier.sample_crossings code _
  have hk : (c.sampled code).windowClass = k :=
    congrArg (classify m rms) crossings
  have hv : (c.sampled code).windowVoltage = volts := by
    unfold Classifier.windowVoltage
    rw [hk]
    exact voltageOf_eq k m rms
  have entries : ((c.arrive code parity).2.map fun x => s.act.entry x.1 0 x.2.1 x.2.2) =
      surges ++ reversals ++ if (c.arrive code parity).1.confirmed = c.confirmed then []
        else
          [s.act.entry .systemConfirmed 0 (n16 ((c.arrive code parity).1.confirmed.code + 256 * c.confirmed.code))
            (i32 (c.arrive code parity).1.reported)] := by
    rw [records, List.map_append, List.map_append, Classifier.reportSurge_entries, confirmedRecord_entries, hk, hv,
      apply_ite (List.map _)]
    rfl
  rw [hk] at concluded
  refine ⟨t, es, congrArg Host.Outcome.next run, ?_⟩
  rw [env, port, ring, entries]
  obtain ⟨count, sum, squares, crossed, unclipped, unsurged⟩ := concluded.opened
  refine ⟨rfl, rfl, rfl, rfl, rfl, count, sum, squares, crossed, unclipped, unsurged,
    concluded.armed.trans (Classifier.sample_armed code _), concluded.lossTimer, concluded.silenceTimer,
    concluded.badSamples, concluded.calm, concluded.started, concluded.counted, fun h => ?_, fun h => ?_, ?_⟩
  · have void := void h
    exact ⟨concluded.latest.trans (if_pos h), void.voids, void.run, void.reported, void.confirmed⟩
  · have measured := measured h
    exact ⟨concluded.latest.trans (if_neg (Bool.eq_false_iff.mp h)), measured.voids, measured.run.trans (by rw [hk]; rfl),
      measured.reported.trans hv, measured.confirmed.trans (by rw [hk]; rfl)⟩
  · simp only [List.append_assoc]
    rfl

/-! ### The classifier's timers (R3, R7; log 2) -/

/-- An expiry of the classifier's lets the time pass that its timer had left. -/
theorem State.onExpiry_event {timer : Timer} {n : Nat} (h : timer = some n)
    (f : Classifier → Classifier × List ClsRecord) (s : State) :
    (s.onExpiry timer fun s => s.classifier f).finish = ((s.elapse n).classifier f).finish := by
  rw [h]
  rfl

/-- Settles O11: the time that the timer had left passes, and the expiry voids the window or ends the mask. -/
theorem classifierTimers : Obligations.ClassifierTimers := by
  intro s n c mask voided
  have void (f : Classifier → Classifier × List ClsRecord) (loss : Timer) (last : List ClsRecord) :
      let p := { c.elapse n with lossTimer := loss, silenceTimer := some 240 }
      f (c.elapse n) = ((p.concludeVoid .void).1, (p.concludeVoid .void).2 ++ last) →
      ∃ t, ((s.elapse n).classifier f).finish = t
        ∧ voided t (last.map fun x => s.act.entry x.1 0 x.2.1 x.2.2) ∧ t.env.cls.lossTimer = loss := by
    intro p hf
    obtain ⟨t, es, run, env, port, ring⟩ := State.classifier_event f (s.elapse n)
    replace hf : f (s.elapse n).env.cls = _ := hf
    rw [hf] at env ring
    have concluded := p.concludeVoid_concluded .void
    have void := p.concludeVoid_voided .void
    obtain ⟨count, sum, squares, crossings, clip, surge⟩ := concluded.opened
    refine ⟨t, run, ?_, (congrArg (fun e => e.cls.lossTimer) env).trans concluded.lossTimer⟩
    simp only [voided, env]
    refine ⟨rfl, rfl, rfl, concluded.latest, void.voids, void.confirmed, void.run, void.reported, concluded.armed,
      concluded.badSamples, count, sum, squares, crossings, clip, surge, concluded.silenceTimer, concluded.calm,
      fun h m => concluded.started h (congrArg (Option.map (· - n)) m),
      fun h m => concluded.counted h (Option.isSome_map.trans m), es, ?_⟩
    have idle : p.surgeMask = none ↔ c.surgeMask = none := Option.map_eq_none_iff
    rw [ring, List.map_append, Classifier.concludeVoid_records, List.map_append, Classifier.reportSurge_entries,
      confirmedRecord_entries, void.reported]
    simp only [idle, List.append_assoc]
    rfl
  refine ⟨fun h => ?_, fun h => ?_, fun h => ?_⟩
  · obtain ⟨t, run, rest⟩ := void Classifier.lossExpired none [_] rfl
    exact ⟨t, congrArg Host.Outcome.next ((State.onExpiry_event h _ s).trans run), rest⟩
  · obtain ⟨t, run, rest, _⟩ := void Classifier.silenceExpired _ [] (Prod.ext rfl (List.append_nil _).symm)
    exact ⟨t, congrArg Host.Outcome.next ((State.onExpiry_event h _ s).trans run), rest⟩
  · let ended : State := { s.elapse n with env := { s.env.elapse n with cls := (c.elapse n).maskExpired.1 } }
    have silent : (s.elapse n).classifier Classifier.maskExpired = ended := State.classifier_silent rfl rfl
    exact ⟨ended.finish,
      congrArg Host.Outcome.next ((State.onExpiry_event h _ s).trans (congrArg State.finish silent)), rfl, rfl,
      fun quiet => by rw [State.Quiet.finish (s := ended) quiet]⟩

end Sys2Proof.Machine

namespace Sys2Proof.Machine

/-! ## What every command keeps of the reacting blocks

The invariants of the reacting blocks pass through a command: the operations keep them (`Act.Keeps`), and so does what a command
does around them. -/

namespace Act.Keeps

variable {a b : Act} {e : Env}

theorem ite {c : Act} {p : Prop} [Decidable p] (h : Act.Keeps e a b) (k : Act.Keeps e a c) :
    Act.Keeps e a (if p then b else c) := by split <;> assumption

/-- R35: no device is closing or closed after a reset. -/
theorem resetSwitchgear (a : Act) : Act.Keeps e a (a.resetSwitchgear e) := by
  have values : Act.Keeps e a
      { a with
        selector := { state := selectorAtReset e.pins.selector, timer := none, waiters := [] }
        isolators := ⟨Isolator.reset, Isolator.reset⟩
        breaker := Breaker.reset
        test := RoofTest.reset } :=
    ⟨⟨fun x => ⟨x.1, x.2⟩, id, id, rfl, id⟩, fun _ => ⟨nofun, nofun⟩⟩
  have logged := values.switchgearFault (i := none) (n := 0) (k := .contactConflict)
    (m := (selectorAtReset e.pins.selector).toCode.code)
  unfold Act.resetSwitchgear
  dsimp only
  split
  · exact logged.ite values
  · exact (logged.ite values).breakerReachesOpen

end Act.Keeps

/-- The invariants of slots, transmit lane, Notice Queue and switchgear pass from `s` to `t`. -/
structure State.Keeps (s t : State) : Prop where
  slots : s.SlotsSafe → t.SlotsSafe
  link : s.act.link.Inv → t.act.link.Inv
  notices : s.act.notices.Inv → t.act.notices.Inv
  interlock : s.Interlocked → t.Interlocked

namespace State.Keeps

variable {s s0 t : State}

theorem refl (s : State) : State.Keeps s s := ⟨id, id, id, id⟩

theorem trans {u : State} (h : State.Keeps s t) (k : State.Keeps t u) : State.Keeps s u :=
  ⟨fun x => k.slots (h.slots x), fun x => k.link (h.link x), fun x => k.notices (h.notices x),
    fun x => k.interlock (h.interlock x)⟩

theorem of_act (k : Act.Keeps s.env s.act t.act) (c : t.env.cls.confirmed = s.env.cls.confirmed) : State.Keeps s t where
  slots := fun x => t.slotsSafe_iff.mpr (k.slots (s.slotsSafe_iff.mp x))
  link := k.link
  notices := k.notices
  interlock := fun x => show Act.Interlocked _ _ by rw [c]; exact k.interlock x

/-- A write beside the blocks, which leaves the confirmed system. -/
theorem aside (h : State.Keeps s0 s) (a : t.act = s.act := by rfl)
    (c : t.env.cls.confirmed = s.env.cls.confirmed := by rfl) : State.Keeps s0 t :=
  h.trans (of_act (a ▸ .refl _) c)

theorem ite {p : Prop} [Decidable p] {u : State} (h : State.Keeps s t) (k : State.Keeps s u) :
    State.Keeps s (if p then t else u) := by split <;> assumption

theorem onAct {f : Env → Act → Act} (k : ∀ e a, Act.Keeps e a (f e a)) (h : State.Keeps s0 s) :
    State.Keeps s0 (s.onAct f) := h.trans (of_act (k _ _) rfl)

theorem elapse (n : Nat) : State.Keeps s (s.elapse n) := of_act (Act.Keeps.refl _).elapse rfl

theorem onExpiry {k : State → State} (g : ∀ u, State.Keeps u (k u)) (timer : Timer) :
    State.Keeps s (s.onExpiry timer k) := by
  cases timer with
  | none => exact .refl s
  | some n => exact (elapse n).trans (g _)

/-- The end of the event. -/
theorem finish (h : State.Keeps s0 s) : State.Keeps s0 s.finish := by
  obtain ⟨b, settled, finished⟩ := s.finish_settles
  refine h.trans (of_act ?_ rfl)
  rw [finished]
  exact (Act.Keeps.of_settles settled).trans ⟨⟨fun x => ⟨x.1, x.2⟩, id, id, rfl, id⟩, fun x => ⟨x.1, x.2⟩⟩

/-! ### Resets and the load -/

/-- R54: a slot after a reset. -/
theorem slotAtReset_safe (pins : Pins) (i : Slot) (latch : Bool) (old : SlotRec) :
    (slotAtReset pins i latch old).Safe where
  duty := fun h => absurd rfl h
  lock := fun _ => by
    unfold slotAtReset
    dsimp only
    split <;> exact ⟨nofun, nofun⟩
  dropped := by
    unfold slotAtReset
    dsimp only
    split <;> nofun
  pressure := Nat.zero_le _

/-- After a reset every one of these invariants holds, whatever stood before. -/
theorem afterReset {e : Env} {x : Startup} {slots : Pair SlotRec} {address : Option Nat} {logs : List LogEntry}
    (safe : ∀ i, (slots.get i).Safe) (idle : slots.zero.duty = .idle) (a : t.act = Act.afterReset e x slots address logs)
    (c : t.env.cls.confirmed = e.cls.confirmed) : State.Keeps s t := by
  obtain ⟨b, kept, hs, hk, hn, hi, hb⟩ : ∃ b, Act.Keeps e b t.act ∧ b.slots = slots ∧ b.link = Link.reset address
      ∧ b.notices = NoticeQueue.reset ∧ b.isolators = ⟨Isolator.reset, Isolator.reset⟩ ∧ b.breaker = Breaker.reset := by
    rw [a]
    exact ⟨_, (Act.Keeps.resetSwitchgear _).takeReading, rfl, rfl, rfl, rfl, rfl⟩
  refine ⟨fun _ => t.slotsSafe_iff.mpr (kept.slots ?_), fun _ => kept.link ?_, fun _ => kept.notices ?_, fun _ => ?_⟩
  · exact ⟨hs ▸ safe, fun _ => hs ▸ idle⟩
  · exact hk ▸ Link.reset_inv address
  · exact hn ▸ NoticeQueue.reset_inv
  · have quiet : b.Interlocked e.cls.confirmed := ⟨by rw [hi]; nofun, by rw [hb]; nofun⟩
    exact show Act.Interlocked _ _ by rw [c]; exact kept.interlock quiet

theorem powerOn {pins : Pins} : State.Keeps s (s.powerOn pins) :=
  afterReset (fun i => by cases i <;> exact slotAtReset_safe ..) rfl rfl rfl

theorem linkReset {src : Nat} {x : Int} : State.Keeps s (s.linkReset src x) :=
  afterReset (fun i => by cases i <;> exact slotAtReset_safe ..) rfl rfl rfl

theorem attemptEnded {buffer : List Byte} : State.Keeps s (s.attemptEnded buffer) := by
  unfold State.attemptEnded
  split
  · rename_i n _
    dsimp only
    split
    · split
      · exact (refl s).onAct fun _ a => (Act.Keeps.refl a).startupTo (by exact id)
      · exact (refl s).onAct fun _ a => (Act.Keeps.refl a).rejectLoad
    · split
      · exact (refl s).onAct fun _ a => (Act.Keeps.refl a).rejectLoad
      · obtain ⟨interlock, slots, link, notices, -⟩ := Act.Keeps.acceptLoad
          (e := { s.env with cfg := some (readBlock (blockOf buffer)) }) (a := s.act)
          (c := readBlock (blockOf buffer)) (n := n)
        exact ⟨fun x => (State.slotsSafe_iff _).mpr (slots (s.slotsSafe_iff.mp x)), link, notices, interlock⟩
  · exact refl s

/-! ### Line Classifier and Peer View -/

/-- R31, reason 1: the confirmed system may change with the classifier, and the interlock is then that of the new one. -/
theorem classifier {f : Classifier → Classifier × List ClsRecord} : State.Keeps s (s.classifier f) := by
  have logged (e : Env) := (Act.Keeps.refl (e := e) s.act).logClassifier (l := (f s.env.cls).2)
  rw [State.classifier_eq]
  split
  · rename_i same
    exact of_act (logged _) same
  · have changed := (logged { s.env with cls := (f s.env.cls).1 }).confirmedChanged
    exact ⟨fun x => (State.slotsSafe_iff _).mpr (changed.slots (s.slotsSafe_iff.mp x)), changed.link, changed.notices,
      fun x => Act.Keeps.confirmedChanged_interlocked ((logged s.env).interlock x)⟩

theorem viewChanged (h : State.Keeps s0 s) : State.Keeps s0 (s.onAct fun _ a => a.viewChanged) :=
  h.onAct fun _ a => (Act.Keeps.refl a).viewChanged

theorem reauthorize (h : State.Keeps s0 s) : State.Keeps s0 s.reauthorize :=
  h.trans (of_act (Act.Keeps.refl _).logAuthority rfl)

theorem controlsChanged {v : PeerView} (h : State.Keeps s0 s) :
    State.Keeps s0 (s.onAct fun e a => a.controlsChanged v e) := h.onAct fun _ a => (Act.Keeps.refl a).controlsChanged

theorem takeGeometry {c : CabPayload} : State.Keeps s (s.takeGeometry c) := by
  have recorded {u : State} (f : Env → Act → Act) (g : ∀ e a, Act.Keeps e a (f e a)) (h : State.Keeps s u) {p : Prop}
      [Decidable p] : State.Keeps s (if p then u.onAct f else (u.onAct f).onAct fun _ a => a.viewChanged) := by
    split
    · exact h.onAct g
    · exact (h.onAct g).viewChanged
  unfold State.takeGeometry
  refine recorded _ (fun e a => ?_) (refl s).aside
  split
  · exact .refl a
  · exact (Act.Keeps.refl a).log
  · exact (Act.Keeps.refl a).flushNotices.log
  · split
    · exact (Act.Keeps.refl a).log
    · exact .refl a

theorem stateHeard {address : Nat} {x : StatePayload} : State.Keeps s (s.stateHeard address x) := by
  unfold State.stateHeard
  dsimp only
  have put : State.Keeps s (s.setPv (s.env.pv.put (heardPeer s.env.now address x (s.env.pv.entry address)))) :=
    (refl s).aside
  have logged := put.onAct (f := fun _ a => match seenAs x (s.env.pv.entry address) with
    | .joined => a.log .peerJoined address (n16 x.kindCode) 0
    | .moved => a.log .peerMoved address (n16 x.kindCode) (n32 x.dAs)
    | .refreshed => a) (fun _ a => by
      split
      · exact (Act.Keeps.refl a).log
      · exact (Act.Keeps.refl a).log
      · exact .refl a)
  have heard (roof cab : Bool) :=
    ((logged.viewChanged.ite (p := roof) logged).reauthorize).ite (p := cab) (logged.viewChanged.ite (p := roof) logged)
  split
  · exact (heard _ _).controlsChanged
  · refine ite (((heard _ _).trans takeGeometry).onAct fun _ a => ?_) (heard _ _).controlsChanged
    exact (Act.Keeps.refl a).controlsChanged.cabTaken

theorem updatePeer {address : Nat} {f : Peer → Peer} : State.Keeps s (s.updatePeer address f) := by
  unfold State.updatePeer
  split
  · exact refl s
  · have put (p : Peer) : State.Keeps s (s.setPv (s.env.pv.put p)) := (refl s).aside
    exact (put _).viewChanged.ite (put _)

theorem bidHeard {src : Nat} {b : BidPayload} : State.Keeps s (s.bidHeard src b) := by
  unfold State.bidHeard
  exact updatePeer.onAct fun _ a => (Act.Keeps.refl a).bidDelivered

theorem cedeHeard {src : Nat} {n : Byte} : State.Keeps s (s.cedeHeard src n) :=
  updatePeer.onAct fun _ a => (Act.Keeps.refl a).evalDue

theorem alertHeard {src : Nat} {x : Alert} : State.Keeps s (s.alertHeard src x) := by
  have dropped {u : State} (h : State.Keeps s u) :
      State.Keeps s (if x.code = .dropped then u.onAct fun e a => a.peerDropped e else u) :=
    (h.onAct fun _ a => (Act.Keeps.refl a).peerDropped).ite h
  unfold State.alertHeard
  refine dropped ?_
  split
  · exact (refl s).aside
  · exact refl s

/-- R77: an entry of the table has changed or left; a cab's gives the authority anew. -/
theorem peerChanged {u : State} {v : PeerView} {p : Peer} (h : State.Keeps s u) :
    State.Keeps s (if p.last.isRoof then u.onAct fun _ a => a.viewChanged
      else u.reauthorize.onAct fun e a => a.controlsChanged v e) :=
  h.viewChanged.ite h.reauthorize.controlsChanged

theorem peerAged {address : Nat} : State.Keeps s (s.peerAged address) := by
  unfold State.peerAged
  split
  · exact refl s
  · exact peerChanged ((refl s).aside.onAct fun _ a => (Act.Keeps.refl a).log)

theorem peerRemoved {address : Nat} : State.Keeps s (s.peerRemoved address) := by
  unfold State.peerRemoved
  split
  · exact refl s
  · exact peerChanged ((refl s).aside.onAct fun _ a => (Act.Keeps.refl a).log)

theorem holdExpired : State.Keeps s s.holdExpired := by
  unfold State.holdExpired
  split
  · exact (refl s).aside.onAct fun _ a => (Act.Keeps.refl a).log.lower.lower.push.bidsEnd.evalDue
  · exact refl s
  · exact refl s

theorem onPeerExpiry {k : State → State} (g : ∀ u, State.Keeps u (k u)) (address : Nat) (timer : Peer → Timer) :
    State.Keeps s (s.onPeerExpiry address timer k) := by
  unfold State.onPeerExpiry
  split
  · exact onExpiry g _
  · exact refl s

theorem odometerStale : State.Keeps s s.odometerStale := by
  unfold State.odometerStale
  exact (refl s).aside.onAct fun _ a => (Act.Keeps.refl a).log.push

theorem capReached : State.Keeps s s.capReached := (refl s).ite ((elapse _).trans odometerStale)

/-! ### Frames -/

theorem obey {dst src : Nat} {v : Verb} {mask : Byte} : State.Keeps s (s.obey dst src v mask) := by
  unfold State.obey
  cases v with
  | lock => exact (refl s).onAct fun _ a => (Act.Keeps.refl a).lockOrder
  | unlock => exact (refl s).onAct fun _ a => (Act.Keeps.refl a).unlockOrder
  | clearFault => exact (refl s).onAct fun _ a => (Act.Keeps.refl a).clearFaultOrder
  | prefer => exact (refl s).onAct fun _ a => (Act.Keeps.refl a).preferOrder
  | resume => exact (refl s).onAct fun _ a => (Act.Keeps.refl a).resumeOrder
  | mute => exact (refl s).onAct fun _ a => (Act.Keeps.refl a).muteOrder
  | unmute => exact (refl s).onAct fun _ a => (Act.Keeps.refl a).unmuteOrder
  | resetArm => exact refl s
  | reset => exact refl s

theorem reportArming {dst src : Nat} : State.Keeps s (s.reportArming dst src) :=
  (refl s).onAct fun _ a => (Act.Keeps.refl a).armingFrame

theorem whenAdmitted {k : State → State} (g : ∀ u, State.Keeps u (k u)) {dst src kind verb : Nat} {source : Bool} :
    State.Keeps s (s.whenAdmitted dst src kind verb source k) := by
  unfold State.whenAdmitted
  exact (refl s).ite ((g s).ite ((refl s).onAct fun _ a => (Act.Keeps.refl a).log))

theorem acceptOrder {dst src : Nat} {v : Verb} {mask : Byte} {t : Int} :
    State.Keeps s (s.acceptOrder dst src v mask t) := by
  unfold State.acceptOrder State.armOrder State.resetOrder
  have all {x : Verb} : State.Keeps s (s.onAct fun _ a => a.armingForAll src x) :=
    (refl s).onAct fun _ a => (Act.Keeps.refl a).armingForAll
  refine ((all.ite ?_).ite (all.ite (linkReset.ite ?_))).ite (reportArming.trans (whenAdmitted fun _ => obey))
  · exact (refl s).onAct fun _ a => (Act.Keeps.refl a).arm
  · exact (refl s).onAct fun _ a => (Act.Keeps.refl a).log

theorem accept {dst src : Nat} {f : Frame} {t : Int} (valid : frameValid f = true) :
    State.Keeps s (s.accept dst src f t) := by
  unfold State.accept
  cases f with
  | order v mask arg => exact acceptOrder
  | stateRoof p => exact reportArming.trans stateHeard
  | stateCab p => exact reportArming.trans stateHeard
  | bid b => exact reportArming.trans bidHeard
  | cede n => exact reportArming.trans cedeHeard
  | alert x => exact reportArming.trans alertHeard
  | route n =>
    have named : n.id ≠ 0 := by simpa [frameValid] using valid
    exact reportArming.trans (whenAdmitted fun u => (refl u).onAct fun _ a => (Act.Keeps.refl a).routeTaken named)
  | cancel id => exact reportArming.trans (whenAdmitted fun u => (refl u).onAct fun _ a => (Act.Keeps.refl a).cancelTaken)

/-- R73: a count of the receive lane. -/
theorem counted {k : Link} (inv : s.act.link.Inv → k.Inv) (address : k.address = s.act.link.address) :
    State.Keeps s (s.setLink k) := of_act ((Act.Keeps.refl _).linkTo inv address) rfl

theorem countUnknown : State.Keeps s s.countUnknown :=
  counted (fun i => ⟨i.1, i.2, i.3, i.4, i.5, i.6, i.7, i.8, i.9, Nat.min_le_left _ _⟩) rfl

theorem countCrc : State.Keeps s s.countCrc :=
  counted (fun i => ⟨i.1, i.2, i.3, i.4, i.5, i.6, i.7, i.8, Nat.min_le_left _ _, i.10⟩) rfl

theorem checkFrame {dst src kind : Nat} {f : Option Frame} {t : Int} :
    State.Keeps s (s.checkFrame dst src kind f t) := by
  unfold State.checkFrame
  split
  · exact refl s
  · refine countUnknown.ite (((refl s).onAct fun _ a => (Act.Keeps.refl a).duplicateHeard).ite ?_)
    split
    · rename_i valid
      exact accept (Option.filter_eq_some_iff.mp valid).2
    · exact countUnknown

theorem hear {k : State → State} (g : ∀ u, State.Keeps u (k u)) : State.Keeps s (s.hear k) := by
  unfold State.hear
  exact (refl s).ite (g s)

theorem receive {dst src : Byte} {f : Frame} {t : Int} : State.Keeps s (s.receive dst src f t) :=
  hear fun _ => checkFrame

theorem receiveBytes {bytes : List Byte} : State.Keeps s (s.receiveBytes bytes) := by
  refine hear fun u => ?_
  split
  · exact countCrc.ite (checkFrame.ite countCrc)
  · exact refl u

/-! ### Contacts and the service port -/

theorem setPins {p : Pins} : State.Keeps s (s.setPins p) := (refl s).aside

theorem endSwitchShows {p : Position} {closed : Bool} : State.Keeps s (s.endSwitchShows p closed) := by
  unfold State.endSwitchShows
  exact setPins.onAct fun _ a => (Act.Keeps.refl a).endSwitch

theorem isolatorShows {i : Slot} {c : Contact} : State.Keeps s (s.isolatorShows i c) := by
  unfold State.isolatorShows
  exact setPins.onAct fun _ a => (Act.Keeps.refl a).isolatorContact

theorem breakerShows {closed : Bool} : State.Keeps s (s.breakerShows closed) := by
  unfold State.breakerShows
  exact setPins.onAct fun _ a => (Act.Keeps.refl a).breakerContact

theorem travelEnded : State.Keeps s s.travelEnded := by
  unfold State.travelEnded
  split
  · exact endSwitchShows
  · exact refl s
  · exact refl s
  · exact refl s

theorem takeCommand {code : Byte} {arg : Half} : State.Keeps s (s.takeCommand code arg) := by
  unfold State.takeCommand
  split <;> exact (refl s).aside

theorem judge {b0 c1 c2 d0 d1 : Byte} : State.Keeps s (s.judge b0 c1 c2 d0 d1) := takeCommand.ite (refl s).aside

theorem gather {b : Byte} : State.Keeps s (s.gather b) := by
  unfold State.gather
  split
  · exact judge
  · exact (refl s).aside

theorem command {f : State → State} (g : ∀ u, State.Keeps u (f u)) : State.Keeps s (s.command f) := (refl s).ite (g s)

end State.Keeps

/-- Every command has a next state, and keeps the invariants of the reacting blocks. -/
theorem exec_keeps (c : Instr) (s : State) : ∃ t, exec c s = .next t ∧ State.Keeps s t := by
  have reacts {f : Env → Act → Act} (g : ∀ e a, Act.Keeps e a (f e a)) (u : State) : State.Keeps u (u.onAct f) :=
    (State.Keeps.refl u).onAct g
  have expires {k : State → State} (g : ∀ u, State.Keeps u (k u)) (timer : Timer) :
      State.Keeps s (State.finish (s.onExpiry timer k)) := (State.Keeps.onExpiry g timer).finish
  cases c
  case powerOnReset => exact ⟨_, rfl, State.Keeps.powerOn.finish⟩
  case configAttemptEnd => exact ⟨_, rfl, State.Keeps.attemptEnded.finish⟩
  case sampleFrame => exact ⟨_, rfl, State.Keeps.classifier.finish⟩
  case lossTimerExpiry | silenceTimerExpiry | surgeMaskExpiry => exact ⟨_, rfl, expires (fun _ => .classifier) _⟩
  case selectorTravelEnd => exact ⟨_, rfl, State.Keeps.travelEnded.finish⟩
  case selectorTravelTimeout => exact ⟨_, rfl, expires (reacts fun _ a => (Act.Keeps.refl a).travelTimeout) _⟩
  case selectorEndSwitchChange => exact ⟨_, rfl, State.Keeps.endSwitchShows.finish⟩
  case isolatorClosed | isolatorOpened | isolatorContactConflict => exact ⟨_, rfl, State.Keeps.isolatorShows.finish⟩
  case isolatorTimeout => exact ⟨_, rfl, expires (reacts fun _ a => (Act.Keeps.refl a).isolatorTimeout) _⟩
  case breakerClosed =>
    exact ⟨_, rfl, (State.Keeps.setPins.onAct fun _ a => (Act.Keeps.refl a).breakerCloses).finish⟩
  case breakerOpened | breakerContactConflict | breakerTrip => exact ⟨_, rfl, State.Keeps.breakerShows.finish⟩
  case breakerCloseTimeout => exact ⟨_, rfl, expires (reacts fun _ a => (Act.Keeps.refl a).breakerCloseTimeout) _⟩
  case breakerOpenTimeout => exact ⟨_, rfl, expires (reacts fun _ a => (Act.Keeps.refl a).breakerOpenTimeout) _⟩
  case roofTestCompletion => exact ⟨_, rfl, (reacts (fun _ a => (Act.Keeps.refl a).completeTest) s).finish⟩
  case slotUp =>
    exact ⟨_, rfl, (State.Keeps.setPins.onAct fun _ a => (Act.Keeps.refl a).upSwitch).finish⟩
  case slotDown =>
    exact ⟨_, rfl, (State.Keeps.setPins.onAct fun _ a => (Act.Keeps.refl a).downSwitch).finish⟩
  case slotDropped =>
    exact ⟨_, rfl, (State.Keeps.setPins.onAct fun _ a => (Act.Keeps.refl a).addContact).finish⟩
  case riseTimeout => exact ⟨_, rfl, expires (reacts fun _ a => (Act.Keeps.refl a).riseTimeout) _⟩
  case lowerTimeout => exact ⟨_, rfl, expires (reacts fun _ a => (Act.Keeps.refl a).lowerTimeout) _⟩
  case lock | unlock | clearFaultSlots | clearFaultSwitchgear | prefer | resume | mute | unmute | resetArm | reset
      | stateRoof | stateCab | bid | cede | alert | route | cancel =>
    exact ⟨_, rfl, State.Keeps.receive.finish⟩
  case framingError => exact ⟨_, rfl, State.Keeps.receiveBytes.finish⟩
  case unknownKind => exact ⟨_, rfl, (State.Keeps.hear fun _ => .checkFrame).finish⟩
  case armingTimerExpiry => exact ⟨_, rfl, expires (reacts fun _ a => (Act.Keeps.refl a).disarm) _⟩
  case listenTimerExpiry => exact ⟨_, rfl, expires (reacts fun _ a => (Act.Keeps.refl a).listenExpired) _⟩
  case joinTimerExpiry => exact ⟨_, rfl, expires (reacts fun _ a => (Act.Keeps.refl a).joinExpired) _⟩
  case stateTimerExpiry => exact ⟨_, rfl, expires (reacts fun _ a => (Act.Keeps.refl a).stateTimerExpired) _⟩
  case attemptStart => exact ⟨_, rfl, (reacts (fun _ a => (Act.Keeps.refl a).attemptStart) s).finish⟩
  case collision => exact ⟨_, rfl, (reacts (fun _ a => (Act.Keeps.refl a).collide) s).finish⟩
  case jamEnd => exact ⟨_, rfl, (reacts (fun _ a => (Act.Keeps.refl a).jamEnd) s).aside.finish⟩
  case backoffExpiry => exact ⟨_, rfl, (reacts (fun _ a => (Act.Keeps.refl a).backoffEnd) s).finish⟩
  case frameSent => exact ⟨_, rfl, (reacts (fun _ a => (Act.Keeps.refl a).frameSent) s).finish⟩
  case peerAgeExpiry => exact ⟨_, rfl, (State.Keeps.onPeerExpiry (fun _ => .peerAged) _ _).finish⟩
  case peerRemovalExpiry => exact ⟨_, rfl, (State.Keeps.onPeerExpiry (fun _ => .peerRemoved) _ _).finish⟩
  case peerBidTimerExpiry => exact ⟨_, rfl, (State.Keeps.onPeerExpiry (fun _ => .updatePeer) _ _).finish⟩
  case authorityHoldExpiry => exact ⟨_, rfl, expires (fun _ => .holdExpired) _⟩
  case odoStale => exact ⟨_, rfl, State.Keeps.capReached.finish⟩
  case bidWindowExpiry => exact ⟨_, rfl, expires (reacts fun _ a => (Act.Keeps.refl a).windowExpired) _⟩
  case bidSpacingExpiry => exact ⟨_, rfl, expires (reacts fun _ a => (Act.Keeps.refl a).spacingExpired) _⟩
  case noticeReviewTimerExpiry => exact ⟨_, rfl, expires (reacts fun _ a => (Act.Keeps.refl a).noticeReview) _⟩
  case seqRetryExpiry => exact ⟨_, rfl, expires (reacts fun _ a => (Act.Keeps.refl a).retryExpired) _⟩
  case testRetryExpiry => exact ⟨_, rfl, expires (reacts fun _ a => (Act.Keeps.refl a).testRetryExpired) _⟩
  case powerlessTimerExpiry => exact ⟨_, rfl, expires (reacts fun _ a => (Act.Keeps.refl a).powerlessExpired) _⟩
  case noSupplyTimerExpiry => exact ⟨_, rfl, expires (reacts fun _ a => (Act.Keeps.refl a).noSupplyExpired) _⟩
  case recloseHoldExpiry => exact ⟨_, rfl, expires (reacts fun _ a => (Act.Keeps.refl a).recloseHoldExpired) _⟩
  case seqReviewTimerExpiry => exact ⟨_, rfl, expires (reacts fun _ a => (Act.Keeps.refl a).seqReview) _⟩
  case arcPulse => exact ⟨_, rfl, (reacts (fun _ a => (Act.Keeps.refl a).arcPulse) s).finish⟩
  case iceIntervalEnd =>
    exact ⟨_, rfl, expires (fun _ => State.Keeps.setPins.onAct fun _ a => (Act.Keeps.refl a).intervalEnd) _⟩
  case iceReviewTimerExpiry => exact ⟨_, rfl, expires (reacts fun _ a => (Act.Keeps.refl a).iceReviewExpired) _⟩
  case moderationCountEnd => exact ⟨_, rfl, (State.Keeps.elapse _).finish⟩
  case status | events | ack | peers | notices | config | counters =>
    exact ⟨_, rfl, (State.Keeps.command fun _ => (State.Keeps.refl _).aside).finish⟩
  case badFrame => exact ⟨_, rfl, (State.Keeps.command fun _ => .judge).finish⟩
  case unknownCommand => exact ⟨_, rfl, (State.Keeps.command fun _ => .takeCommand).finish⟩
  case serviceByte => exact ⟨_, rfl, (State.Keeps.command fun _ => .gather).finish⟩
  case serviceByteGapExpiry => exact ⟨_, rfl, expires (fun _ => (State.Keeps.refl _).aside) _⟩
  case serviceReplyEnd => exact ⟨_, rfl, (State.Keeps.refl s).aside.finish⟩

/-- What a step keeps: time passes on an empty queue, and a command keeps what `exec_keeps` says. -/
theorem step_keeps {s t : State} (h : step s = .next t) : State.Keeps s t := by
  cases q : s.pending with
  | nil =>
    simp only [step, q] at h
    cases h
    exact .elapse 1
  | cons c rest =>
    simp only [step, q] at h
    obtain ⟨u, run, kept⟩ := exec_keeps c { s with pending := rest }
    rw [run] at h
    cases h
    exact (State.Keeps.refl s).aside.trans kept

/-- Settles O19. -/
theorem breakerInterlockKept : Obligations.BreakerInterlockKept := fun _ _ i h => (step_keeps h).interlock i

end Sys2Proof.Machine

namespace Sys2Proof.Machine

/-! ## Switchgear Interlock and Roof Test Unit

The operations of the Switchgear Interlock, each said once: what it writes, whom it tells, and what it leaves. -/

/-! ### Reports and answers -/

/-- What a report on its way writes: `b` has more reports than `a` and is otherwise the same. -/
structure Act.Reports (a b : Act) : Prop where
  frame : b = { a with inbox := b.inbox }
  tells : ∀ r, a.Tells r → b.Tells r

theorem Act.Reports.refl (a : Act) : Act.Reports a a := ⟨rfl, fun _ => id⟩

theorem Act.Reports.trans {a b c : Act} (h : Act.Reports a b) (k : Act.Reports b c) : Act.Reports a c :=
  ⟨by rw [k.frame, h.frame], fun r x => k.tells r (h.tells r x)⟩

theorem Act.push_reports (r : Report) (a : Act) : Act.Reports a (a.push r) := by
  unfold Act.push
  split
  · exact .refl a
  · exact ⟨rfl, fun _ x => List.mem_append_left _ x⟩

theorem Act.push_tells (r : Report) (a : Act) : (a.push r).Tells r := by
  unfold Act.Tells
  rw [Act.push_inbox]
  dsimp only
  split
  · assumption
  · exact List.mem_append_right _ (List.mem_singleton.mpr rfl)

theorem Act.answerAll_cons (x : Requester) (who : List Requester) (q : Request) (ans : Answer) (a : Act) :
    a.answerAll (x :: who) q ans = (a.push (.answered x q ans)).answerAll who q ans := rfl

theorem Act.answerAll_reports (who : List Requester) (q : Request) (ans : Answer) (a : Act) :
    Act.Reports a (a.answerAll who q ans) := by
  induction who generalizing a with
  | nil => exact .refl a
  | cons x who ih => exact (a.push_reports _).trans (ih _)

/-- Everyone who waits is told. -/
theorem Act.answerAll_tells {who : List Requester} (q : Request) (ans : Answer) (a : Act) {x : Requester}
    (h : x ∈ who) : (a.answerAll who q ans).Tells (.answered x q ans) := by
  induction who generalizing a with
  | nil => cases h
  | cons y who ih =>
    rw [Act.answerAll_cons]
    rcases List.mem_cons.mp h with rfl | h
    · exact (Act.answerAll_reports ..).tells _ (Act.push_tells ..)
    · exact ih _ h

theorem Act.log_entry (k : EventCode) (x : Nat) (d : Half) (y : Word) (a : Act) :
    (a.log k x d y).logs = a.logs ++ [a.entry k x d y] := rfl

/-! ### States read by the interlocks -/

/-- R19. -/
theorem Act.breakerOpen_iff (a : Act) : a.breakerOpen = true ↔ a.breaker.state = .opened ∨ a.breaker.state = .lockout := by
  unfold Act.breakerOpen
  cases a.breaker.state <;> decide

theorem BreakerState.isLive_iff (x : BreakerState) : BreakerState.isLive x = true ↔ x = .closing ∨ x = .closed := by
  cases x <;> decide

theorem Act.bothIsolatorsOpen_iff (a : Act) : a.bothIsolatorsOpen = true ↔ ∀ i, (a.isolators.get i).state = .opened := by
  unfold Act.bothIsolatorsOpen
  rw [Bool.and_eq_true, decide_eq_true_eq, decide_eq_true_eq]
  exact ⟨fun h i => by cases i; exacts [h.1, h.2], fun h => ⟨h .zero, h .one⟩⟩

/-! ### Opening (R26, R30) -/

/-- What the opening of devices writes: breaker, isolators, and reports on their way. -/
structure Act.Opens (a b : Act) : Prop where
  frame : b = { a with breaker := b.breaker, isolators := b.isolators, inbox := b.inbox }
  tells : ∀ r, a.Tells r → b.Tells r

namespace Act.Opens

variable {a b c : Act} {e : Env}

theorem refl (a : Act) : Act.Opens a a := ⟨rfl, fun _ => id⟩

theorem trans (h : Act.Opens a b) (k : Act.Opens b c) : Act.Opens a c :=
  ⟨by rw [k.frame, h.frame], fun r x => k.tells r (h.tells r x)⟩

theorem reports (k : Act.Reports b c) (h : Act.Opens a b) : Act.Opens a c :=
  h.trans ⟨by rw [k.frame], k.tells⟩

theorem push {r : Report} (h : Act.Opens a b) : Act.Opens a (b.push r) := h.reports (Act.push_reports ..)

theorem answerAll {w : List Requester} {q : Request} {ans : Answer} (h : Act.Opens a b) :
    Act.Opens a (b.answerAll w q ans) := h.reports (Act.answerAll_reports ..)

theorem setIsolator {i : Slot} {r : Isolator} (h : Act.Opens a b) : Act.Opens a (b.setIsolator i r) :=
  h.trans ⟨rfl, fun _ => id⟩

theorem breakerTo {r : Breaker} (h : Act.Opens a b) : Act.Opens a { b with breaker := r } := h.trans ⟨rfl, fun _ => id⟩

theorem isolatorIsOpen {i : Slot} (h : Act.Opens a b) : Act.Opens a (b.isolatorIsOpen i) := h.setIsolator.answerAll

theorem driveOpen {i : Slot} (h : Act.Opens a b) : Act.Opens a (b.driveOpen e i) := by
  unfold Act.driveOpen
  dsimp only
  split
  · exact h.setIsolator.isolatorIsOpen
  · exact h.setIsolator

theorem isolatorBreakerOpened {i : Slot} (h : Act.Opens a b) : Act.Opens a (b.isolatorBreakerOpened e i) := by
  unfold Act.isolatorBreakerOpened
  dsimp only
  split
  · exact h.driveOpen
  · exact h.setIsolator.answerAll
  · exact h

theorem breakerReachesOpen (h : Act.Opens a b) : Act.Opens a (b.breakerReachesOpen e) :=
  h.breakerTo.answerAll.push.isolatorBreakerOpened.isolatorBreakerOpened

theorem openBreaker {w : List Requester} (h : Act.Opens a b) : Act.Opens a (b.openBreaker e w) := by
  unfold Act.openBreaker
  dsimp only
  split
  · exact h.answerAll
  · exact h.answerAll
  · exact h.breakerTo
  all_goals
    split
    · exact h.breakerTo.answerAll
    · exact h.breakerTo.answerAll.breakerReachesOpen

/-- A record is the same before and after. -/
theorem entry (h : Act.Opens a b) (k : EventCode) (x : Nat) (d : Half) (y : Word) :
    b.entry k x d y = a.entry k x d y := by rw [h.frame]; rfl

theorem selector (h : Act.Opens a b) : b.selector = a.selector := by rw [h.frame]
theorem link (h : Act.Opens a b) : b.link = a.link := by rw [h.frame]
theorem logs (h : Act.Opens a b) : b.logs = a.logs := by rw [h.frame]

end Act.Opens

/-- R26: an isolator whose open coil comes to be driven while its contact shows `c`. -/
def Isolator.driven (c : Contact) (r : Isolator) : Isolator :=
  if c = .opened then { r with state := .opened, timer := none, openWaiters := [] }
  else { r with state := .opening true, timer := some 300 }

theorem Isolator.driven_shown {c : Contact} (h : c = .opened) (r : Isolator) :
    r.driven c = { r with state := .opened, timer := none, openWaiters := [] } := if_pos h

theorem Isolator.driven_travels {c : Contact} (h : c ≠ .opened) (r : Isolator) :
    r.driven c = { r with state := .opening true, timer := some 300 } := if_neg h

theorem Act.isolatorIsOpen_isolators (i : Slot) (a : Act) : (a.isolatorIsOpen i).isolators =
    a.isolators.set i { a.isolators.get i with state := .opened, timer := none, openWaiters := [] } := by
  unfold Act.isolatorIsOpen
  rw [Act.Settles.answerAll_isolators]
  rfl

theorem Pair.set_set {α : Type} (p : Pair α) (i : Slot) (x y : α) : (p.set i x).set i y = p.set i y := by
  cases i <;> rfl

theorem Act.driveOpen_isolators (e : Env) (i : Slot) (a : Act) :
    (a.driveOpen e i).isolators = a.isolators.set i ((a.isolators.get i).driven (e.pins.isolators.get i)) := by
  unfold Act.driveOpen Isolator.driven
  dsimp only
  split
  · rw [Act.isolatorIsOpen_isolators]
    simp [Pair.set_set]
  · rfl

/-- R26: a contact that shows OPEN already answers those who wait. -/
theorem Act.driveOpen_tells {e : Env} {i : Slot} {a : Act} (h : e.pins.isolators.get i = .opened) {w : Requester}
    (m : w ∈ (a.isolators.get i).openWaiters) : (a.driveOpen e i).Tells (.answered w (.openIsolator i) .done) := by
  unfold Act.driveOpen
  rw [if_pos h]
  refine Act.answerAll_tells _ _ _ ?_
  simpa using m

/-- R26, R27: an isolator at the event the breaker reaches OPEN. -/
def Isolator.uponOpening (c : Contact) (r : Isolator) : Isolator :=
  if r.state = .opening false then r.driven c
  else if r.state = .fault then { r with openWaiters := [] }
  else r

theorem Isolator.uponOpening_awaiting {r : Isolator} (h : r.state = .opening false) (c : Contact) :
    r.uponOpening c = r.driven c := if_pos h

/-- R27: FAULT stays, its timer stopped as before. -/
theorem Isolator.uponOpening_fault {r : Isolator} (h : r.state = .fault) (c : Contact) :
    r.uponOpening c = { r with openWaiters := [] } :=
  (if_neg (by simp [h])).trans (if_pos h)

theorem Act.isolatorBreakerOpened_isolators (e : Env) (i : Slot) (a : Act) :
    (a.isolatorBreakerOpened e i).isolators =
      a.isolators.set i ((a.isolators.get i).uponOpening (e.pins.isolators.get i)) := by
  unfold Act.isolatorBreakerOpened Isolator.uponOpening
  dsimp only
  split
  · rename_i awaiting
    rw [Act.driveOpen_isolators, if_pos awaiting]
  · rename_i fault
    rw [Act.Settles.answerAll_isolators, if_neg (by simp [fault]), if_pos fault]
    rfl
  · rename_i awaiting fault
    rw [if_neg awaiting, if_neg fault, Pair.set_get_self]

@[simp] theorem Act.isolatorBreakerOpened_breaker (e : Env) (i : Slot) (a : Act) :
    (a.isolatorBreakerOpened e i).breaker = a.breaker := by
  unfold Act.isolatorBreakerOpened Act.driveOpen Act.isolatorIsOpen
  dsimp only
  repeat' split
  all_goals simp

theorem Act.breakerReachesOpen_breaker (e : Env) (a : Act) : (a.breakerReachesOpen e).breaker =
    { a.breaker with state := .opened, timer := none, openWaiters := [] } := by
  unfold Act.breakerReachesOpen
  simp

theorem Act.breakerReachesOpen_isolator (e : Env) (i : Slot) (a : Act) : (a.breakerReachesOpen e).isolators.get i =
    (a.isolators.get i).uponOpening (e.pins.isolators.get i) := by
  unfold Act.breakerReachesOpen
  cases i <;> simp [Act.isolatorBreakerOpened_isolators]

/-- R30: the breaker's requesters, and the Roof Sequencer. -/
theorem Act.breakerReachesOpen_tells (e : Env) (a : Act) : (a.breakerReachesOpen e).Tells .breakerOpened
    ∧ ∀ w ∈ a.breaker.openWaiters, (a.breakerReachesOpen e).Tells (.answered w .openBreaker .done) := by
  have rest (b : Act) : Act.Opens b ((b.isolatorBreakerOpened e .zero).isolatorBreakerOpened e .one) :=
    (Act.Opens.refl b).isolatorBreakerOpened.isolatorBreakerOpened
  exact ⟨(rest _).tells _ (Act.push_tells ..),
    fun w m => (rest _).tells _ ((Act.push_reports ..).tells _ (Act.answerAll_tells _ _ _ m))⟩

/-- R30: the breaker as an open request leaves it that is taken; `closed` is what its contact shows. -/
def Breaker.opens (closed : Bool) (who : List Requester) (k : Breaker) : Breaker :=
  if closed then
    { k with state := .opening, timer := some 100, closeWaiters := [], openWaiters := k.openWaiters ++ who }
  else { k with state := .opened, timer := none, closeWaiters := [], openWaiters := [] }

/-- R30: an open request to a breaker that is CLOSING or CLOSED. -/
theorem Act.openBreaker_live {a : Act} (h : BreakerState.isLive a.breaker.state = true) (e : Env) (who : List Requester) :
    a.openBreaker e who =
      let b := ({ a with breaker := a.breaker.opens true who }).answerAll a.breaker.closeWaiters .closeBreaker .failed
      if e.pins.breakerClosed then b else b.breakerReachesOpen e := by
  unfold Act.openBreaker
  dsimp only
  rcases (BreakerState.isLive_iff _).mp h with k | k <;> rw [k] <;> rfl

theorem Act.openBreaker_live_breaker {a : Act} (h : BreakerState.isLive a.breaker.state = true) (e : Env)
    (who : List Requester) : (a.openBreaker e who).breaker = a.breaker.opens e.pins.breakerClosed who := by
  rw [Act.openBreaker_live h]
  dsimp only
  split
  · rename_i c
    simp [c]
  · rename_i c
    simp [c, Act.breakerReachesOpen_breaker, Breaker.opens]

theorem Act.openBreaker_live_isolator {a : Act} (h : BreakerState.isLive a.breaker.state = true) (e : Env)
    (who : List Requester) (i : Slot) : (a.openBreaker e who).isolators.get i =
      if e.pins.breakerClosed then a.isolators.get i
      else (a.isolators.get i).uponOpening (e.pins.isolators.get i) := by
  rw [Act.openBreaker_live h]
  dsimp only
  split
  · simp
  · simp [Act.breakerReachesOpen_isolator]

/-- R30: requesters of the close are answered FAILED; those of the opening DONE where the contact shows OPEN already. -/
theorem Act.openBreaker_live_tells {a : Act} (h : BreakerState.isLive a.breaker.state = true) (e : Env)
    (who : List Requester) :
    (∀ w ∈ a.breaker.closeWaiters, (a.openBreaker e who).Tells (.answered w .closeBreaker .failed))
    ∧ (e.pins.breakerClosed = false →
      ∀ w ∈ a.breaker.openWaiters ++ who, (a.openBreaker e who).Tells (.answered w .openBreaker .done)) := by
  rw [Act.openBreaker_live h]
  dsimp only
  refine ⟨fun w m => ?_, fun c w m => ?_⟩
  · have told := ({ a with breaker := a.breaker.opens true who }).answerAll_tells .closeBreaker .failed m
    split
    · exact told
    · exact ((Act.Opens.refl _).breakerReachesOpen).tells _ told
  · rw [if_neg (by simp [c])]
    refine (Act.breakerReachesOpen_tells e _).2 w ?_
    simpa [Breaker.opens] using m

theorem Breaker.opens_dead (closed : Bool) (who : List Requester) (k : Breaker) :
    BreakerState.isLive (k.opens closed who).state = false := by cases closed <;> rfl

/-! ### Forced openings and faults (R22, R23, R27, R31) -/

/-- What the Switchgear Interlock may write at a fault: its devices, the transmit lane (the alert), reports and records. -/
structure Act.Switches (a b : Act) : Prop where
  frame : b = { a with
    selector := b.selector, breaker := b.breaker, isolators := b.isolators, link := b.link, inbox := b.inbox
    logs := b.logs }
  tells : ∀ r, a.Tells r → b.Tells r
  logs : ∃ l, b.logs = a.logs ++ l

/-- R59, R71: an ALERT that is offered joins the queue, is recorded as one too many, or meets a closed gate. -/
theorem Act.alert_eq (k : AlertCode) (i : Option Slot) (a : Act) : a.alert k i =
    let x : Alert := { code := k, slot := i }
    if a.link.gateOpen ∧ a.link.length < 8 then
      { a with
        link :=
          { a.link.enqueue { frame := .alert x, requesters := [.other] } with lastAlert := some x } }
    else if a.link.gateOpen then a.log .txFull 255 (n16 (Frame.alert x).kind) (n32 a.link.length)
    else a := by
  unfold Act.alert Act.offerTail
  by_cases g : a.link.gateOpen = true
  · by_cases n : a.link.length < 8 <;> simp [g, n]
  · simp [g]

namespace Act.Switches

variable {a b c : Act} {e : Env}

theorem refl (a : Act) : Act.Switches a a := ⟨rfl, fun _ => id, [], by simp⟩

theorem trans (h : Act.Switches a b) (k : Act.Switches b c) : Act.Switches a c where
  frame := by rw [k.frame, h.frame]
  tells := fun r x => k.tells r (h.tells r x)
  logs := by
    obtain ⟨l, hl⟩ := h.logs
    obtain ⟨m, hm⟩ := k.logs
    exact ⟨l ++ m, by rw [hm, hl, List.append_assoc]⟩

theorem opens (k : Act.Opens b c) (h : Act.Switches a b) : Act.Switches a c :=
  h.trans ⟨by rw [k.frame], k.tells, [], by rw [k.logs, List.append_nil]⟩

theorem push {r : Report} (h : Act.Switches a b) : Act.Switches a (b.push r) := h.opens (Act.Opens.refl b).push

theorem answerAll {w : List Requester} {q : Request} {ans : Answer} (h : Act.Switches a b) :
    Act.Switches a (b.answerAll w q ans) := h.opens (Act.Opens.refl b).answerAll

theorem log {k : EventCode} {x : Nat} {d : Half} {y : Word} (h : Act.Switches a b) :
    Act.Switches a (b.log k x d y) := h.trans ⟨rfl, fun _ => id, _, rfl⟩

theorem selectorTo {x : Selector} (h : Act.Switches a b) : Act.Switches a { b with selector := x } :=
  h.trans ⟨rfl, fun _ => id, [], by simp⟩

theorem alert {k : AlertCode} {i : Option Slot} (h : Act.Switches a b) : Act.Switches a (b.alert k i) := by
  rw [Act.alert_eq]
  split
  · exact h.trans ⟨rfl, fun _ => id, [], by simp⟩
  · split
    · exact h.log
    · exact h

theorem switchgearFault {i : Option Slot} {n : Nat} {k : FaultKind} {m : Nat} (h : Act.Switches a b) :
    Act.Switches a (b.switchgearFault i n k m) := h.log.alert

theorem forceOpen {n : Nat} (h : Act.Switches a b) : Act.Switches a (b.forceOpen e n) := by
  unfold Act.forceOpen
  split
  · exact h.log.push.opens (Act.Opens.refl _).openBreaker
  · exact h

/-- A record is the same before and after. -/
theorem entry (h : Act.Switches a b) (k : EventCode) (x : Nat) (d : Half) (y : Word) :
    b.entry k x d y = a.entry k x d y := by rw [h.frame]; rfl

end Act.Switches

theorem Act.forceOpen_dead {a : Act} (h : BreakerState.isLive a.breaker.state = false) (e : Env) (n : Nat) :
    a.forceOpen e n = a := if_neg (by simp [h])

/-- R31: the opening, once the record and the report are made. -/
theorem Act.forceOpen_live {a : Act} (h : BreakerState.isLive a.breaker.state = true) (e : Env) (n : Nat) :
    a.forceOpen e n =
      ((a.log .breakerForcedOpen 255 (n16 n) (n32 e.cls.confirmed.code)).push (.breakerForced n)).openBreaker e [] :=
  if_pos h

/-- R31: record, report, and the answers to requesters of the close. -/
theorem Act.forceOpen_live_spec {a : Act} (h : BreakerState.isLive a.breaker.state = true) (e : Env) (n : Nat) :
    (a.forceOpen e n).logs = a.logs ++ [a.entry .breakerForcedOpen 255 (n16 n) (n32 e.cls.confirmed.code)]
    ∧ (a.forceOpen e n).Tells (.breakerForced n)
    ∧ (∀ w ∈ a.breaker.closeWaiters, (a.forceOpen e n).Tells (.answered w .closeBreaker .failed))
    ∧ (a.forceOpen e n).breaker = a.breaker.opens e.pins.breakerClosed [] := by
  rw [Act.forceOpen_live h]
  generalize hb : (a.log .breakerForcedOpen 255 (n16 n) (n32 e.cls.confirmed.code)).push (.breakerForced n) = b
  have same : b.breaker = a.breaker := by simp [← hb]
  have opens : Act.Opens b (b.openBreaker e []) := (Act.Opens.refl b).openBreaker
  rw [← same] at h ⊢
  refine ⟨?_, opens.tells _ (hb ▸ Act.push_tells ..), (Act.openBreaker_live_tells h e []).1,
    Act.openBreaker_live_breaker h e []⟩
  rw [opens.logs, ← hb, Act.push_logs]
  rfl

/-- R31: the breaker is not CLOSING or CLOSED after it. -/
theorem Act.forceOpen_opened (e : Env) (n : Nat) (a : Act) :
    BreakerState.isLive (a.forceOpen e n).breaker.state = false := by
  cases h : BreakerState.isLive a.breaker.state
  · rw [Act.forceOpen_dead h, h]
  · obtain ⟨-, -, -, left⟩ := Act.forceOpen_live_spec h e n
    rw [left, Breaker.opens_dead]

theorem Act.forceOpen_selector (e : Env) (n : Nat) (a : Act) : (a.forceOpen e n).selector = a.selector := by
  unfold Act.forceOpen
  split
  · rw [(Act.Opens.refl _).openBreaker.selector]
    simp
  · rfl

theorem Act.forceOpen_link (e : Env) (n : Nat) (a : Act) : (a.forceOpen e n).link = a.link := by
  unfold Act.forceOpen
  split
  · rw [(Act.Opens.refl _).openBreaker.link]
    simp
  · rfl

section
variable (i : Option Slot) (n : Nat) (k : FaultKind) (m : Nat) (a : Act)

theorem Act.switchgearFault_frame : a.switchgearFault i n k m =
    { a with link := (a.switchgearFault i n k m).link, logs := (a.switchgearFault i n k m).logs } := by
  unfold Act.switchgearFault
  rw [Act.alert_eq]
  split
  · rfl
  · split <;> rfl

@[simp] theorem Act.switchgearFault_selector : (a.switchgearFault i n k m).selector = a.selector := by
  rw [Act.switchgearFault_frame]
@[simp] theorem Act.switchgearFault_breaker : (a.switchgearFault i n k m).breaker = a.breaker := by
  rw [Act.switchgearFault_frame]
@[simp] theorem Act.switchgearFault_isolators : (a.switchgearFault i n k m).isolators = a.isolators := by
  rw [Act.switchgearFault_frame]

/-- R22, R23, R27, R29, R30: SWITCHGEAR_FAULT is the first record; one of a full transmit queue may follow. -/
theorem Act.switchgearFault_record : ∃ l, (a.switchgearFault i n k m).logs =
    a.logs ++ a.entry .switchgearFault (optSlotCode i) (n16 (n + 256 * k.code)) (n32 m) :: l := by
  obtain ⟨l, hl⟩ := (Act.Switches.refl (a.log .switchgearFault (optSlotCode i) (n16 (bytes2 n k.code)) (n32 m))).alert
    (k := .switchgearFault) (i := i) |>.logs
  exact ⟨l, hl.trans (List.append_assoc ..)⟩

theorem Act.switchgearFault_alerted :
    Link.Alerted { code := .switchgearFault, slot := i } a.link (a.switchgearFault i n k m).link :=
  Act.alert_alerted .switchgearFault i (a.log .switchgearFault (optSlotCode i) (n16 (bytes2 n k.code)) (n32 m))

end

/-- A first record stays the first one. -/
theorem Act.Switches.record {a b : Act} {base : List LogEntry} {x : LogEntry} (h : Act.Switches a b)
    (k : ∃ l, a.logs = base ++ x :: l) : ∃ l, b.logs = base ++ x :: l := by
  obtain ⟨l, hl⟩ := h.logs
  obtain ⟨m, hm⟩ := k
  exact ⟨m ++ l, by rw [hl, hm, List.append_assoc, List.cons_append]⟩

/-- R22, R23: what the selector's entry to FAULT makes of `a`. -/
structure Act.SelectorFaulted (e : Env) (k : FaultKind) (a b : Act) : Prop where
  switches : Act.Switches a b
  selector : b.selector = { state := .fault, timer := none, waiters := [] }
  record : ∃ l, b.logs =
    a.logs ++ a.entry .switchgearFault 255 (n16 (256 * k.code)) (n32 a.selector.state.toCode.code) :: l
  alert : Link.Alerted { code := .switchgearFault, slot := none } a.link b.link
  told : b.Tells .selectorFault
  failed : ∀ y, a.selector.state = .moving y → ∀ w ∈ a.selector.waiters, b.Tells (.answered w (.moveSelector y) .failed)
  opened : BreakerState.isLive b.breaker.state = false
  dead : BreakerState.isLive a.breaker.state = false → b.breaker = a.breaker ∧ b.isolators = a.isolators
  forced : BreakerState.isLive a.breaker.state = true → b.Tells (.breakerForced 2)
    ∧ a.entry .breakerForcedOpen 255 2 (n32 e.cls.confirmed.code) ∈ b.logs

theorem Act.selectorFaults_faulted (e : Env) (k : FaultKind) (a : Act) :
    Act.SelectorFaulted e k a (a.selectorFaults e k) := by
  let x : Act := { a with selector := { state := .fault, timer := none, waiters := [] } }
  let c := (x.switchgearFault none 0 k a.selector.state.toCode.code).push .selectorFault
  obtain ⟨d, reports, failed, hd⟩ : ∃ d, Act.Reports c d
      ∧ (∀ y, a.selector.state = .moving y → ∀ w ∈ a.selector.waiters, d.Tells (.answered w (.moveSelector y) .failed))
      ∧ a.selectorFaults e k = d.forceOpen e 2 := by
    unfold Act.selectorFaults
    cases hs : a.selector.state with
    | moving y =>
      refine ⟨c.answerAll a.selector.waiters (.moveSelector y) .failed, Act.answerAll_reports .., ?_, by simp only [c, x, hs]⟩
      rintro _ ⟨⟩ w m
      exact Act.answerAll_tells _ _ _ m
    | rest p => exact ⟨c, .refl c, nofun, by simp only [c, x, hs]⟩
    | unknown => exact ⟨c, .refl c, nofun, by simp only [c, x, hs]⟩
    | fault => exact ⟨c, .refl c, nofun, by simp only [c, x, hs]⟩
  have first : Act.Switches a c := (Act.Switches.refl a).selectorTo.switchgearFault.push
  have answered : Act.Opens c d := (Act.Opens.refl c).reports reports
  have last : Act.Switches d (d.forceOpen e 2) := (Act.Switches.refl d).forceOpen
  have whole : Act.Switches c (d.forceOpen e 2) := (Act.Switches.refl c).opens answered |>.trans last
  have breaker : d.breaker = a.breaker := by rw [reports.frame]; simp [c, x]
  have isolators : d.isolators = a.isolators := by rw [reports.frame]; simp [c, x]
  rw [hd]
  refine ⟨first.trans whole, ?_, ?_, ?_, whole.tells _ (Act.push_tells ..), fun y hy w m => last.tells _ (failed y hy w m),
    Act.forceOpen_opened e 2 d, fun dead => ?_, fun live => ?_⟩
  · rw [Act.forceOpen_selector, answered.selector]
    simp [c, x]
  · refine whole.record ?_
    obtain ⟨l, hl⟩ := x.switchgearFault_record none 0 k a.selector.state.toCode.code
    rw [Nat.zero_add] at hl
    exact ⟨l, (Act.push_logs ..).trans hl⟩
  · rw [Act.forceOpen_link, answered.link, Act.push_link]
    exact x.switchgearFault_alerted none 0 k a.selector.state.toCode.code
  · rw [Act.forceOpen_dead (by rw [breaker, dead])]
    exact ⟨breaker, isolators⟩
  · rw [← breaker] at live
    obtain ⟨logs, told, -, -⟩ := Act.forceOpen_live_spec live e 2
    refine ⟨told, ?_⟩
    rw [logs, (first.opens answered).entry]
    exact List.mem_append_right _ (List.mem_singleton.mpr rfl)

theorem Act.selectorDisturbed_moving {a : Act} {y : Supply} (h : a.selector.state = .moving y) (e : Env) :
    a.selectorDisturbed e = a.selectorFaults e .contactConflict := by
  unfold Act.selectorDisturbed
  rw [h]

theorem Act.selectorDisturbed_switches (e : Env) (a : Act) : Act.Switches a (a.selectorDisturbed e) := by
  unfold Act.selectorDisturbed
  split
  · exact (Act.selectorFaults_faulted ..).switches
  · exact .refl a

/-- R23, R31: of a breaker that is not CLOSING or CLOSED, and of isolators, a disturbed selector makes nothing. -/
theorem Act.selectorDisturbed_dead {a : Act} (h : BreakerState.isLive a.breaker.state = false) (e : Env) :
    (a.selectorDisturbed e).breaker = a.breaker ∧ (a.selectorDisturbed e).isolators = a.isolators := by
  unfold Act.selectorDisturbed
  split
  · exact (Act.selectorFaults_faulted ..).dead h
  · exact ⟨rfl, rfl⟩

end Sys2Proof.Machine

namespace Sys2Proof.Machine

/-! ### The Roof Test Unit (R36 to R38) -/

/-- R38: result record, ROOF_TEST, and the answers. -/
theorem Act.finishTest_spec (r : TestResult) (n d : Nat) (who : List Requester) (a : Act) :
    let b := a.finishTest r n d who
    b =
      { a with
        test := { running := false, waiters := [], result := r, count := n, distance := d }
        logs := a.logs ++ [a.entry .roofTest 255 (n16 r.code) (n32 (d + 65536 * n))], inbox := b.inbox }
    ∧ ∀ w ∈ who, b.Tells (.answered w .roofTest (.tested r)) :=
  ⟨(Act.answerAll_reports ..).frame, fun _ m => Act.answerAll_tells _ _ _ m⟩

/-- R37: Lroof, 0 while no configuration is loaded (log 41). -/
def Env.lroof (e : Env) : Nat := match e.cfg with | some c => c.lroof | none => 0

/-- R37: the completion of a test that was taken, once the result is known. -/
theorem Act.completeTest_running {e : Env} {x : Option Reflection} {a : Act} {r : TestResult} {n d : Nat}
    (running : a.test.running = true) (decided : decideTest e.cls.latest e.lroof x = (r, n, d)) :
    a.completeTest e x = a.finishTest r n d a.test.waiters := by
  have finished : a.completeTest e x =
      a.finishTest (decideTest e.cls.latest e.lroof x).1 (decideTest e.cls.latest e.lroof x).2.1
        (decideTest e.cls.latest e.lroof x).2.2 a.test.waiters := if_pos running
  rw [finished, decided]

/-- Settles O20: a completion ends a running test with the result of R37's order, and does nothing otherwise. -/
theorem roofTestCompletion : Obligations.RoofTestCompletion := by
  intro s x lroof count result
  have completed {r : TestResult} {n : Nat} (running : s.act.test.running = true)
      (decided : decideTest s.env.cls.latest s.env.lroof x = (r, n, n * 125)) : result r n := by
    obtain ⟨written, told⟩ := Act.finishTest_spec r n (n * 125) s.act.test.waiters s.act
    refine ⟨{ s with act := s.act.finishTest r n (n * 125) s.act.test.waiters }, ?_, by rw [written], ?_, told⟩
    · rw [← Act.completeTest_running running decided]
      rfl
    · rw [written]
      rfl
  refine ⟨Iff.rfl, fun idle => ?_, fun running => ⟨fun alive => completed running ?_, fun dead => ⟨?_, ?_⟩⟩⟩
  · have kept : s.act.completeTest s.env x = s.act := if_neg (by simp [idle])
    exact congrArg (fun a => Host.Outcome.next (State.finish { s with act := a })) kept
  · exact if_pos alive
  · rintro rfl
    exact completed running (by simp [decideTest, dead])
  · rintro r rfl
    have reflected : decideTest s.env.cls.latest s.env.lroof (some r) =
        if !r.positive then (.earth, count, count * 125)
        else if lroof ≤ count * 125 + 300 ∧ count * 125 ≤ lroof + 300 then (.normal, count, count * 125)
        else (.broken, count, count * 125) := if_neg (not_not_intro dead)
    refine ⟨fun negative => completed running ?_, fun positive low high => completed running ?_,
      fun positive outside => completed running ?_⟩
    · rw [reflected, if_pos (by simp [negative])]
    · rw [reflected, if_neg (by simp [positive]), if_pos ⟨low, high⟩]
    · rw [reflected, if_neg (by simp [positive]), if_neg outside]

/-! ### Breaker events (R28 to R33) -/

/-- R33: milliseconds since the trip in the history, 0 where it is empty. -/
def Breaker.sinceTrip (now : Nat) (k : Breaker) : Nat := match k.lastTrip with | some t => now - t | none => 0

/-- R32: the record of a trip. -/
def Act.tripEntry (e : Env) (a : Act) : LogEntry :=
  a.entry .breakerTrip 255 (n16 e.cls.confirmed.code) (tripAge (a.breaker.sinceTrip e.now))

/-- R33: a trip less than 60,000 ms behind the one in the history ends in LOCKOUT. -/
theorem Act.breakerTrips_lockout {e : Env} {a : Act}
    (h : a.breaker.lastTrip.isSome ∧ a.breaker.sinceTrip e.now < 60000) :
    let b := a.breakerTrips e
    b.breaker =
      { a.breaker with
        state := .lockout, timer := none, openWaiters := [], lastTrip := none, closeTimeout := none }
    ∧ b.logs = a.logs ++ [a.tripEntry e, a.entry .breakerLockout 255 0 (n32 (a.breaker.sinceTrip e.now))]
    ∧ b.Tells .lockout ∧ ∀ w ∈ a.breaker.openWaiters, b.Tells (.answered w .openBreaker .done) := by
  let c := (a.breakerReachesOpen e).log .breakerTrip 255 (n16 e.cls.confirmed.code) (tripAge (a.breaker.sinceTrip e.now))
  let d : Act := { c with breaker := { c.breaker with state := .lockout, lastTrip := none, closeTimeout := none } }
  have trips : a.breakerTrips e =
      (d.log .breakerLockout 255 0 (n32 (a.breaker.sinceTrip e.now))).push .lockout := if_pos h
  have opens : Act.Opens a (a.breakerReachesOpen e) := (Act.Opens.refl a).breakerReachesOpen
  intro b
  have hb : b = _ := trips
  refine ⟨?_, ?_, hb ▸ Act.push_tells .., fun w m => ?_⟩
  · simp [hb, d, c, Act.breakerReachesOpen_breaker]
  · have written : d.logs = a.logs ++ [a.tripEntry e] := by
      rw [← opens.logs, show a.tripEntry e = _ from (opens.entry ..).symm]
      rfl
    rw [hb, Act.push_logs, Act.log_entry, written, List.append_assoc]
    exact congrArg (fun x => a.logs ++ [a.tripEntry e, x]) (opens.entry ..)
  · rw [hb]
    exact (Act.push_reports ..).tells _ ((a.breakerReachesOpen_tells e).2 w m)

/-- R32: any other trip leaves the breaker OPEN, with its time in the history. -/
theorem Act.breakerTrips_trip {e : Env} {a : Act}
    (h : ¬ (a.breaker.lastTrip.isSome ∧ a.breaker.sinceTrip e.now < 60000)) :
    let b := a.breakerTrips e
    b.breaker =
      { a.breaker with
        state := .opened, timer := none, openWaiters := [], lastTrip := some e.now, closeTimeout := none }
    ∧ b.logs = a.logs ++ [a.tripEntry e] ∧ b.Tells .trip
    ∧ ∀ w ∈ a.breaker.openWaiters, b.Tells (.answered w .openBreaker .done) := by
  let c := (a.breakerReachesOpen e).log .breakerTrip 255 (n16 e.cls.confirmed.code) (tripAge (a.breaker.sinceTrip e.now))
  have trips : a.breakerTrips e =
      ({ c with breaker := { c.breaker with lastTrip := some e.now, closeTimeout := none } } : Act).push .trip := if_neg h
  have opens : Act.Opens a (a.breakerReachesOpen e) := (Act.Opens.refl a).breakerReachesOpen
  intro b
  have hb : b = _ := trips
  refine ⟨?_, ?_, hb ▸ Act.push_tells .., fun w m => ?_⟩
  · simp [hb, c, Act.breakerReachesOpen_breaker]
  · rw [hb, Act.push_logs, ← opens.logs, show a.tripEntry e = _ from (opens.entry ..).symm]
    rfl
  · rw [hb]
    exact (Act.push_reports ..).tells _ ((a.breakerReachesOpen_tells e).2 w m)

/-- R29: an expiry in CLOSING. -/
theorem Act.breakerCloseTimeout_spec {a : Act} (h : a.breaker.state = .closing) (e : Env) :
    let b := a.breakerCloseTimeout e
    (e.pins.breakerClosed = true → b.breaker.state = .opening ∧ b.breaker.timer = some 100)
    ∧ (e.pins.breakerClosed = false →
      b.breaker.state = .opened ∧ b.breaker.timer = none ∧ b.breaker.closeTimeout = some e.now)
    ∧ (∃ l, b.logs = a.logs ++ a.entry .switchgearFault 255 (n16 (2 + 256 * 3)) (n32 1) :: l) ∧ b.Tells .breakerFault
    ∧ ∀ w ∈ a.breaker.closeWaiters, b.Tells (.answered w .closeBreaker .failed) := by
  let x : Act := { a with breaker := { a.breaker with state := .opening, timer := some 100, closeWaiters := [] } }
  let c := (x.switchgearFault none 2 .closeTimeout 1).push .breakerFault
  let d := c.answerAll a.breaker.closeWaiters .closeBreaker .failed
  have timeout : a.breakerCloseTimeout e = if e.pins.breakerClosed then d
      else { d.breakerReachesOpen e with
        breaker := { (d.breakerReachesOpen e).breaker with closeTimeout := some e.now } } := by
    unfold Act.breakerCloseTimeout
    dsimp only
    rw [h]
    rfl
  have reached : Act.Opens d { d.breakerReachesOpen e with
      breaker := { (d.breakerReachesOpen e).breaker with closeTimeout := some e.now } } :=
    (Act.Opens.refl d).breakerReachesOpen.breakerTo
  have answered : Act.Opens c d := (Act.Opens.refl c).answerAll
  have last : Act.Opens d (a.breakerCloseTimeout e) := by
    rw [timeout]
    split
    · exact .refl d
    · exact reached
  have breaker : d.breaker = x.breaker := by simp [d, c]
  refine ⟨fun closed => ?_, fun opened => ?_, ?_, last.tells _ (answered.tells _ (Act.push_tells ..)),
    fun w m => last.tells _ (Act.answerAll_tells _ _ _ m)⟩
  · rw [timeout, if_pos closed, breaker]
    exact ⟨rfl, rfl⟩
  · rw [timeout, if_neg (by simp [opened])]
    simp [Act.breakerReachesOpen_breaker]
  · obtain ⟨l, hl⟩ := x.switchgearFault_record none 2 .closeTimeout 1
    exact ⟨l, ((answered.trans last).logs.trans (Act.push_logs ..)).trans hl⟩

/-- R30: an expiry in OPENING. -/
theorem Act.breakerOpenTimeout_spec {a : Act} (h : a.breaker.state = .opening) :
    let b := a.breakerOpenTimeout
    b.breaker = { a.breaker with timer := none, openWaiters := [] } ∧ b.isolators = a.isolators
    ∧ (∃ l, b.logs = a.logs ++ a.entry .switchgearFault 255 (n16 (2 + 256 * 4)) (n32 3) :: l) ∧ b.Tells .breakerFault
    ∧ ∀ w ∈ a.breaker.openWaiters, b.Tells (.answered w .openBreaker .failed) := by
  let x : Act := { a with breaker := { a.breaker with timer := none, openWaiters := [] } }
  let c := (x.switchgearFault none 2 .openTimeout a.breaker.state.code).push .breakerFault
  have timeout : a.breakerOpenTimeout = c.answerAll a.breaker.openWaiters .openBreaker .failed := by
    unfold Act.breakerOpenTimeout
    dsimp only
    split
    · rfl
    · rename_i other
      exact absurd h other
  have answered : Act.Opens c a.breakerOpenTimeout := timeout ▸ (Act.Opens.refl c).answerAll
  refine ⟨by simp [timeout, c, x], by simp [timeout, c, x], ?_, answered.tells _ (Act.push_tells ..),
    fun w m => timeout ▸ Act.answerAll_tells _ _ _ m⟩
  obtain ⟨l, hl⟩ := x.switchgearFault_record none 2 .openTimeout a.breaker.state.code
  refine ⟨l, (answered.logs.trans (Act.push_logs ..)).trans (hl.trans ?_)⟩
  rw [h]
  rfl

/-- R30: a breaker that its contact contradicts, once it stands as the change leaves it: record, report, and the selector's fault
where it is MOVING. -/
theorem Act.breakerConflict_spec {x : Act} (h : BreakerState.isLive x.breaker.state = false) (e : Env) (before : Nat) :
    let b := ((x.switchgearFault none 2 .contactConflict before).push .breakerFault).selectorDisturbed e
    b.breaker = x.breaker
    ∧ (∃ l, b.logs = x.logs ++ x.entry .switchgearFault 255 (n16 (2 + 256 * 2)) (n32 before) :: l)
    ∧ b.Tells .breakerFault ∧ ∀ y, x.selector.state = .moving y → b.selector.state = .fault := by
  let c := (x.switchgearFault none 2 .contactConflict before).push .breakerFault
  have disturbed : Act.Switches c (c.selectorDisturbed e) := Act.selectorDisturbed_switches e c
  have breaker : c.breaker = x.breaker := by simp [c]
  refine ⟨?_, disturbed.record ?_, disturbed.tells _ (Act.push_tells ..), fun y hy => ?_⟩
  · exact (Act.selectorDisturbed_dead (by rw [breaker, h]) e).1.trans breaker
  · obtain ⟨l, hl⟩ := x.switchgearFault_record none 2 .contactConflict before
    exact ⟨l, (Act.push_logs ..).trans hl⟩
  · have moving : c.selector.state = .moving y := by simp [c, hy]
    change (c.selectorDisturbed e).selector.state = .fault
    rw [Act.selectorDisturbed_moving moving, (Act.selectorFaults_faulted ..).selector]

/-- R29: but for the race of log 43 the contact's closing is read as any change of it. -/
theorem Act.breakerCloses_contact {e : Env} {a : Act}
    (h : ¬ (a.breaker.state = .opened ∧ a.breaker.closeTimeout = some e.now)) :
    a.breakerCloses e = a.breakerContact e true := if_neg h

/-- R29, R30: a change of the contact that the breaker's state expects already. -/
theorem Act.breakerContact_expected {a : Act} {closed : Bool}
    (h : a.breaker.state = .closing ∧ closed = false ∨ a.breaker.state = .opening ∧ closed = true
      ∨ a.breaker.state = .closed ∧ closed = true ∨ a.breaker.state = .opened ∧ closed = false
      ∨ a.breaker.state = .lockout ∧ closed = false) (e : Env) : a.breakerContact e closed = a := by
  unfold Act.breakerContact
  dsimp only
  rcases h with ⟨k, rfl⟩ | ⟨k, rfl⟩ | ⟨k, rfl⟩ | ⟨k, rfl⟩ | ⟨k, rfl⟩ <;> rw [k]

section
variable {a : Act} (e : Env)

theorem Act.breakerContact_closing (h : a.breaker.state = .closing) : a.breakerContact e true =
    ({ a with breaker := { a.breaker with state := .closed, timer := none, closeWaiters := [] } }).answerAll
      a.breaker.closeWaiters .closeBreaker .done := by
  unfold Act.breakerContact
  dsimp only
  rw [h]

theorem Act.breakerContact_opening (h : a.breaker.state = .opening) :
    a.breakerContact e false = a.breakerReachesOpen e := by
  unfold Act.breakerContact
  dsimp only
  rw [h]

theorem Act.breakerContact_opened (h : a.breaker.state = .opened) : a.breakerContact e true =
    ((({ a with breaker := { a.breaker with state := .opening, timer := some 100 } }).switchgearFault none 2
      .contactConflict 0).push .breakerFault).selectorDisturbed e := by
  unfold Act.breakerContact
  dsimp only
  rw [h]
  rfl

theorem Act.breakerContact_lockout (h : a.breaker.state = .lockout) : a.breakerContact e true =
    ((a.switchgearFault none 2 .contactConflict 4).push .breakerFault).selectorDisturbed e := by
  unfold Act.breakerContact
  dsimp only
  rw [h]
  rfl

theorem Act.breakerContact_closed (h : a.breaker.state = .closed) : a.breakerContact e false = a.breakerTrips e := by
  unfold Act.breakerContact
  dsimp only
  rw [h]

end

theorem Act.holdOutput_iff (a : Act) : a.holdOutput = true ↔ a.breaker.state = .closing ∨ a.breaker.state = .closed :=
  BreakerState.isLive_iff _

/-- Settles O17. -/
theorem breakerEvents : Obligations.BreakerEvents := by
  refine ⟨fun s => ?_, fun s closed => ?_, fun e a reason => ?_⟩
  · intro r shown records
    have closes : exec .breakerClosed s = .next (State.finish
        { s with env := shown true, act := s.act.breakerCloses (shown true) }) := rfl
    have opens : exec .breakerOpened s = .next (State.finish
        { s with env := shown false, act := s.act.breakerContact (shown false) false }) := rfl
    have conflict : exec .breakerContactConflict s = .next (State.finish
        { s with env := shown true, act := s.act.breakerContact (shown true) true }) := rfl
    have expires {n : Nat} (running : r.timer = some n) : exec .breakerCloseTimeout s = .next (State.finish
          { s.elapse n with act := (s.act.elapse n).breakerCloseTimeout (s.env.elapse n) })
        ∧ exec .breakerOpenTimeout s = .next (State.finish
          { s.elapse n with act := (s.act.elapse n).breakerOpenTimeout }) := by
      constructor
      · exact congrArg (fun timer => Host.Outcome.next (State.finish
          (s.onExpiry timer fun s => s.onAct fun e a => a.breakerCloseTimeout e))) running
      · exact congrArg (fun timer => Host.Outcome.next (State.finish
          (s.onExpiry timer fun s => s.onAct fun _ a => a.breakerOpenTimeout))) running
    refine ⟨decide_eq_true_iff, s.act.holdOutput_iff, fun closing => ?_, fun opening => ?_, fun n closing running => ?_,
      fun n opening running => ?_, fun opened => ⟨fun race => ?_, fun calm => ?_⟩, fun opened => ?_, fun lockout => ?_,
      fun closed expected => ?_⟩
    · rw [closes, Act.breakerCloses_contact (fun race => by rw [race.1] at closing; cases closing),
        Act.breakerContact_closing _ closing]
      exact ⟨_, rfl, by rw [(Act.answerAll_reports ..).frame], fun w m => Act.answerAll_tells _ _ _ m⟩
    · rw [opens, Act.breakerContact_opening _ opening]
      have reached : Act.Opens s.act (s.act.breakerReachesOpen (shown false)) := (Act.Opens.refl _).breakerReachesOpen
      obtain ⟨told, answered⟩ := s.act.breakerReachesOpen_tells (shown false)
      refine ⟨_, rfl, ?_, told, answered, fun i awaiting => ?_⟩
      · rw [reached.frame, Act.breakerReachesOpen_breaker]
      · rw [Act.breakerReachesOpen_isolator, Isolator.uponOpening_awaiting awaiting]
        split
        · rename_i shows
          rw [Isolator.driven_shown shows]
        · rename_i travels
          rw [Isolator.driven_travels travels]
          exact ⟨rfl, rfl⟩
    · rw [(expires running).1]
      obtain ⟨waits, ends, rest⟩ := Act.breakerCloseTimeout_spec (a := s.act.elapse n) closing (s.env.elapse n)
      exact ⟨_, rfl, rfl, waits, ends, rest⟩
    · rw [(expires running).2]
      obtain ⟨breaker, isolators, rest⟩ := Act.breakerOpenTimeout_spec (a := s.act.elapse n) opening
      exact ⟨_, rfl, rfl, breaker, isolators, rest⟩
    · rw [closes, show s.act.breakerCloses (shown true) = _ from if_pos ⟨opened, race⟩]
    · rw [closes, conflict, Act.breakerCloses_contact (e := shown true) (fun race => calm race.2)]
    · rw [conflict, Act.breakerContact_opened _ opened]
      exact ⟨_, rfl, rfl, Act.breakerConflict_spec (x := { s.act with
        breaker := { s.act.breaker with state := .opening, timer := some 100 } }) rfl (shown true) 0⟩
    · rw [conflict, Act.breakerContact_lockout _ lockout]
      obtain ⟨breaker, record, told, selector⟩ := Act.breakerConflict_spec (x := s.act) (by rw [lockout]; rfl) (shown true) 4
      refine ⟨_, rfl, rfl, breaker, record, told, selector, rfl, ?_⟩
      obtain ⟨b, settled, finished⟩ := State.finish_settles { s with env := shown true, act := _ }
      rw [finished]
      exact settled.lockout.mpr ((congrArg Breaker.state breaker).trans lockout)
    · cases closed with
      | false =>
        rw [if_neg Bool.false_ne_true, opens, Act.breakerContact_expected expected]
      | true =>
        have calm : ¬ (s.act.breaker.state = .opened ∧ s.act.breaker.closeTimeout = some (shown true).now) := by
          rintro ⟨opened, -⟩
          simp [r, opened] at expected
        rw [if_pos rfl, closes, Act.breakerCloses_contact calm, Act.breakerContact_expected expected]
  · intro r since age trip left
    let e : Env := { s.env with pins := { s.env.pins with breakerClosed := false } }
    let b : State := { s with env := e, act := s.act.breakerTrips e }
    have trips : exec .breakerTrip s = .next b.finish := by
      simp only [b]
      rw [← Act.breakerContact_closed _ closed]
      rfl
    obtain ⟨u, settled, finished⟩ := State.finish_settles b
    have lockout : b.finish.act.breaker.state = .lockout ↔ b.act.breaker.state = .lockout := finished ▸ settled.lockout
    have history : b.finish.act.breaker.lastTrip = b.act.breaker.lastTrip := finished ▸ settled.lastTrip
    refine ⟨b, b.finish, trips, rfl, rfl, rfl, ?_⟩
    have hold : b.act.holdOutput = BreakerState.isLive b.act.breaker.state := rfl
    by_cases short : r.lastTrip.isSome ∧ r.sinceTrip e.now < 60000
    · obtain ⟨breaker, logs, told, answered⟩ := Act.breakerTrips_lockout short
      replace breaker : b.act.breaker = _ := breaker
      refine ⟨by rw [hold, breaker]; rfl, answered, fun _ _ _ => ⟨breaker, logs, told, lockout.mpr ?_, ?_⟩, fun long => ?_⟩
      · rw [breaker]
      · rw [history, breaker]
      · obtain ⟨last, held⟩ := Option.isSome_iff_exists.mp short.1
        have late := long last held
        have soon := short.2
        simp only [Breaker.sinceTrip, held, e] at soon
        omega
    · obtain ⟨breaker, logs, told, answered⟩ := Act.breakerTrips_trip short
      replace breaker : b.act.breaker = _ := breaker
      have long (last : Nat) (held : r.lastTrip = some last) : ¬ s.env.now - last < 60000 := fun soon =>
        short ⟨by rw [held]; rfl, by simpa [Breaker.sinceTrip, held, e] using soon⟩
      refine ⟨by rw [hold, breaker]; rfl, answered, fun last held soon => absurd soon (long last held),
        fun _ => ⟨breaker, logs, told, mt lockout.mp ?_, ?_⟩⟩
      · rw [breaker]
        nofun
      · rw [history, breaker]
  · refine ⟨fun dead => Act.forceOpen_dead dead e reason, fun live => ?_⟩
    obtain ⟨logs, told, failed, breaker⟩ := Act.forceOpen_live_spec live e reason
    refine ⟨logs, told, fun c => ?_, fun c => ?_, failed⟩
    · rw [breaker, c]
      exact ⟨rfl, rfl⟩
    · rw [breaker, c]
      exact ⟨rfl, rfl⟩

end Sys2Proof.Machine

namespace Sys2Proof.Machine

/-! ### Where a command reads its contact or its timer (log 2, log 4) -/

/-- `base` is `s` but for inputs, time and timers: there a contact has changed, or what its timer had left has passed. -/
structure State.ReadAt (s base : State) : Prop where
  selector : base.act.selector.state = s.act.selector.state ∧ base.act.selector.waiters = s.act.selector.waiters
  isolators : ∀ i, (base.act.isolators.get i).state = (s.act.isolators.get i).state
    ∧ (base.act.isolators.get i).closeWaiters = (s.act.isolators.get i).closeWaiters
    ∧ (base.act.isolators.get i).openWaiters = (s.act.isolators.get i).openWaiters
  breaker : base.act.breaker.state = s.act.breaker.state
  logs : base.act.logs = s.act.logs
  entry : ∀ k x d y, base.act.entry k x d y = s.act.entry k x d y
  confirmed : base.env.cls.confirmed = s.env.cls.confirmed

theorem State.readAt_pins (p : Pins) (s : State) : State.ReadAt s (s.setPins p) :=
  ⟨⟨rfl, rfl⟩, fun _ => ⟨rfl, rfl, rfl⟩, rfl, rfl, fun _ _ _ _ => rfl, rfl⟩

theorem State.readAt_elapse (n : Nat) (s : State) : State.ReadAt s (s.elapse n) :=
  ⟨⟨rfl, rfl⟩, fun i => by cases i <;> exact ⟨rfl, rfl, rfl⟩, rfl, rfl, fun _ _ _ _ => rfl, rfl⟩

/-! ### An isolator's faults (R27) -/

/-- R27: an isolator's entry to FAULT, up to what it means for a selector that is MOVING. -/
def Act.isolatorToFault (e : Env) (i : Slot) (k : FaultKind) (a : Act) : Act :=
  let r := a.isolators.get i
  let b := a.setIsolator i { r with state := .fault, timer := none, closeWaiters := [] }
  let c := (b.switchgearFault (some i) 1 k r.state.toCode.code).push .isolatorFault
  let d := c.answerAll r.closeWaiters (.closeIsolator i) .failed
  if d.breakerOpen then d.isolatorBreakerOpened e i else d.forceOpen e 3

theorem Act.isolatorFaults_eq (e : Env) (i : Slot) (k : FaultKind) (a : Act) :
    a.isolatorFaults e i k = (a.isolatorToFault e i k).selectorDisturbed e := rfl

/-- R27: what an isolator's entry to FAULT makes of `a`. -/
structure Act.IsolatorFaulted (i : Slot) (k : FaultKind) (a b : Act) : Prop where
  switches : Act.Switches a b
  state : (b.isolators.get i).state = .fault
  timer : (b.isolators.get i).timer = none
  record : ∃ l, b.logs = a.logs
    ++ a.entry .switchgearFault i.code (n16 (1 + 256 * k.code)) (n32 (a.isolators.get i).state.toCode.code) :: l
  told : b.Tells .isolatorFault
  failed : ∀ w ∈ (a.isolators.get i).closeWaiters, b.Tells (.answered w (.closeIsolator i) .failed)
  done : a.breakerOpen = true → ∀ w ∈ (a.isolators.get i).openWaiters, b.Tells (.answered w (.openIsolator i) .done)
  opened : BreakerState.isLive b.breaker.state = false

/-- R31: an isolator that stands in FAULT still does so when the breaker has been opened. -/
theorem Act.forceOpen_fault {a : Act} {i : Slot} (h : (a.isolators.get i).state = .fault) (e : Env) (n : Nat) :
    ((a.forceOpen e n).isolators.get i).state = .fault
    ∧ ((a.forceOpen e n).isolators.get i).timer = (a.isolators.get i).timer := by
  cases live : BreakerState.isLive a.breaker.state
  · rw [Act.forceOpen_dead live]
    exact ⟨h, rfl⟩
  · rw [Act.forceOpen_live live, Act.openBreaker_live_isolator (by simpa using live)]
    simp only [Act.push_isolators, Act.log_isolators]
    split
    · exact ⟨h, rfl⟩
    · rw [Isolator.uponOpening_fault h]
      exact ⟨h, rfl⟩

/-- R27: requests that wait on an isolator in FAULT are answered as the breaker opens. -/
theorem Act.isolatorBreakerOpened_tells {a : Act} {i : Slot} (h : (a.isolators.get i).state = .fault) (e : Env)
    {w : Requester} (m : w ∈ (a.isolators.get i).openWaiters) :
    (a.isolatorBreakerOpened e i).Tells (.answered w (.openIsolator i) .done) := by
  unfold Act.isolatorBreakerOpened
  dsimp only
  rw [h]
  exact Act.answerAll_tells _ _ _ m

theorem Act.isolatorToFault_faulted (e : Env) (i : Slot) (k : FaultKind) (a : Act) :
    Act.IsolatorFaulted i k a (a.isolatorToFault e i k) := by
  let r := a.isolators.get i
  let b := a.setIsolator i { r with state := .fault, timer := none, closeWaiters := [] }
  let c := (b.switchgearFault (some i) 1 k r.state.toCode.code).push .isolatorFault
  let d := c.answerAll r.closeWaiters (.closeIsolator i) .failed
  have hd : a.isolatorToFault e i k = if d.breakerOpen then d.isolatorBreakerOpened e i else d.forceOpen e 3 := rfl
  have first : Act.Switches a c := ((Act.Switches.refl a).opens (Act.Opens.refl a).setIsolator).switchgearFault.push
  have answered : Act.Switches c d := (Act.Switches.refl c).answerAll
  have last : Act.Switches d (a.isolatorToFault e i k) := by
    rw [hd]
    split
    · exact (Act.Switches.refl d).opens (Act.Opens.refl d).isolatorBreakerOpened
    · exact (Act.Switches.refl d).forceOpen
  have isolator : d.isolators.get i = { r with state := .fault, timer := none, closeWaiters := [] } := by
    simp [d, c, b]
  have fault : (d.isolators.get i).state = .fault := by rw [isolator]
  have breaker : d.breakerOpen = a.breakerOpen := by simp [Act.breakerOpen, d, c, b]
  have stands : ((a.isolatorToFault e i k).isolators.get i).state = .fault
      ∧ ((a.isolatorToFault e i k).isolators.get i).timer = none := by
    rw [hd]
    split
    · rw [Act.isolatorBreakerOpened_isolators, Pair.get_set, if_pos rfl, Isolator.uponOpening_fault fault, isolator]
      exact ⟨rfl, rfl⟩
    · obtain ⟨state, timer⟩ := Act.forceOpen_fault fault e 3
      exact ⟨state, timer.trans (by rw [isolator])⟩
  refine ⟨first.trans (answered.trans last), stands.1, stands.2, (answered.trans last).record ?_,
    (answered.trans last).tells _ (Act.push_tells ..), fun w m => last.tells _ (Act.answerAll_tells _ _ _ m),
    fun opened w m => ?_, ?_⟩
  · obtain ⟨l, hl⟩ := b.switchgearFault_record (some i) 1 k r.state.toCode.code
    exact ⟨l, (Act.push_logs ..).trans hl⟩
  · rw [hd, if_pos (by rw [breaker, opened])]
    exact Act.isolatorBreakerOpened_tells fault e (by rw [isolator]; exact m)
  · rw [hd]
    split
    · rename_i opened
      rw [Act.isolatorBreakerOpened_breaker]
      exact Act.Settles.live_of_breakerOpen opened
    · exact Act.forceOpen_opened e 3 d

theorem Act.isolatorToFault_selector (e : Env) (i : Slot) (k : FaultKind) (a : Act) :
    (a.isolatorToFault e i k).selector = a.selector := by
  unfold Act.isolatorToFault
  dsimp only
  split
  · rw [(Act.Opens.refl _).isolatorBreakerOpened.selector, (Act.Opens.refl _).answerAll.selector]
    simp
  · rw [Act.forceOpen_selector, (Act.Opens.refl _).answerAll.selector]
    simp

/-- R27: the fault of a MOVING selector beside it leaves the isolator's. -/
theorem Act.isolatorFaults_faulted (e : Env) (i : Slot) (k : FaultKind) (a : Act) :
    Act.IsolatorFaulted i k a (a.isolatorFaults e i k) := by
  have f := a.isolatorToFault_faulted e i k
  rw [Act.isolatorFaults_eq]
  have disturbed := Act.selectorDisturbed_switches e (a.isolatorToFault e i k)
  obtain ⟨breaker, isolators⟩ := Act.selectorDisturbed_dead f.opened e
  exact ⟨f.switches.trans disturbed, isolators ▸ f.state, isolators ▸ f.timer, disturbed.record f.record,
    disturbed.tells _ f.told, fun w m => disturbed.tells _ (f.failed w m),
    fun opened w m => disturbed.tells _ (f.done opened w m), breaker ▸ f.opened⟩

/-! ### Isolator events (R24 to R27) -/

section
variable {a : Act} {i : Slot} (e : Env)

theorem Act.isolatorContact_closing (h : (a.isolators.get i).state = .closing) : a.isolatorContact e i .closed =
    (a.setIsolator i { a.isolators.get i with state := .closed, timer := none, closeWaiters := [] }).answerAll
      (a.isolators.get i).closeWaiters (.closeIsolator i) .done := by
  unfold Act.isolatorContact
  dsimp only
  rw [h]

theorem Act.isolatorContact_driven (h : (a.isolators.get i).state = .opening true) :
    a.isolatorContact e i .opened = a.isolatorIsOpen i := by
  unfold Act.isolatorContact
  dsimp only
  rw [h]

/-- R27: a contact that changes without a command. -/
theorem Act.isolatorContact_conflict {c : Contact}
    (h : (a.isolators.get i).state = .opened ∧ c = .closed ∨ (a.isolators.get i).state = .closed ∧ c = .opened) :
    a.isolatorContact e i c = a.isolatorFaults e i .contactConflict := by
  unfold Act.isolatorContact
  dsimp only
  rcases h with ⟨k, rfl⟩ | ⟨k, rfl⟩ <;> rw [k]

/-- R27: in FAULT the contact is ignored. -/
theorem Act.isolatorContact_fault (h : (a.isolators.get i).state = .fault) (c : Contact) :
    a.isolatorContact e i c = a := by
  unfold Act.isolatorContact
  dsimp only
  rw [h]

theorem Act.isolatorTimeout_travels
    (h : (a.isolators.get i).state = .closing ∨ (a.isolators.get i).state = .opening true) :
    a.isolatorTimeout e i = a.isolatorFaults e i .travelTimeout := by
  unfold Act.isolatorTimeout
  rcases h with k | k <;> rw [k]

end

/-- R26, R27. -/
theorem Act.openCoil_iff (i : Slot) (a : Act) : a.openCoil i = true ↔
    (a.isolators.get i).state = .opening true ∨ (a.isolators.get i).state = .fault := by
  unfold Act.openCoil
  cases (a.isolators.get i).state <;> simp

/-- R28: with an isolator in FAULT and the breaker opened, no reaction of the event closes the breaker again. -/
theorem State.finish_faulted {b : State} {i : Slot} (fault : (b.act.isolators.get i).state = .fault)
    (opened : BreakerState.isLive b.act.breaker.state = false) :
    (b.finish.act.isolators.get i).state = .fault ∧ BreakerState.isLive b.finish.act.breaker.state = false := by
  obtain ⟨c, settled, finished⟩ := State.finish_settles b
  rw [finished]
  have stays : (c.isolators.get i).state = .fault := (settled.isolatorFault i).mpr fault
  have apart : b.act.Interlocked b.env.cls.confirmed := by
    refine ⟨fun zero one => ?_, fun live => absurd (opened ▸ live) Bool.false_ne_true⟩
    cases i with
    | zero => exact Bool.false_ne_true ((congrArg IsolatorState.isLive fault).symm.trans zero)
    | one => exact Bool.false_ne_true ((congrArg IsolatorState.isLive fault).symm.trans one)
  refine ⟨stays, Bool.eq_false_iff.mpr fun live => ?_⟩
  rcases Act.Settles.live_isolator (settled.interlock apart) live i with closed | shut
  · exact nomatch stays.symm.trans closed
  · exact nomatch stays.symm.trans shut

/-- Settles O16. -/
theorem isolatorEvents : Obligations.IsolatorEvents := by
  intro s i r shown faults
  have shows (c : Contact) : exec (.isolatorContactConflict i c) s =
      .next (State.finish { s with env := shown c, act := s.act.isolatorContact (shown c) i c }) := rfl
  have faulted {c : Instr} {k : FaultKind} {base : State} (read : State.ReadAt s base)
      (run : exec c s = .next (State.finish { base with act := base.act.isolatorFaults base.env i k })) :
      faults c k.code base.env := by
    have f := base.act.isolatorFaults_faulted base.env i k
    obtain ⟨stays, opened⟩ := State.finish_faulted (b := { base with act := base.act.isolatorFaults base.env i k })
      f.state f.opened
    obtain ⟨state, close, opening⟩ := read.isolators i
    have code : r.state.toCode.code = match r.state with
      | .opened => 0 | .closing => 1 | .closed => 2 | .opening _ => 3 | .fault => 4 := by cases r.state <;> rfl
    refine ⟨_, run, rfl, f.state, f.timer, ?_, f.told, close ▸ f.failed, fun opened => opening ▸ f.done ?_, f.opened,
      stays, (Act.openCoil_iff ..).mpr (.inr stays), ?_, opened⟩
    · have record := f.record
      rw [read.logs, read.entry, state, code] at record
      exact record
    · exact (Act.breakerOpen_iff _).mpr (by rw [read.breaker]; exact opened)
    · exact decide_eq_false (by rw [stays]; nofun)
  refine ⟨decide_eq_true_iff, Act.openCoil_iff i _, fun closing => ?_, fun driven => ?_, fun c conflict => ?_,
    fun n travels running => ?_, fun fault c => ?_⟩
  · have run : exec (.isolatorClosed i) s = _ := shows .closed
    rw [run, Act.isolatorContact_closing _ closing]
    exact ⟨_, rfl, by rw [(Act.answerAll_reports ..).frame]; rfl, fun w m => Act.answerAll_tells _ _ _ m⟩
  · have run : exec (.isolatorOpened i) s = _ := shows .opened
    rw [run, Act.isolatorContact_driven _ driven]
    exact ⟨_, rfl, by unfold Act.isolatorIsOpen; rw [(Act.answerAll_reports ..).frame]; rfl,
      fun w m => Act.answerAll_tells _ _ _ m⟩
  · refine faulted (k := .contactConflict) (s.readAt_pins _) ?_
    rw [shows, Act.isolatorContact_conflict _ conflict]
    rfl
  · refine faulted (k := .travelTimeout) (s.readAt_elapse n) ?_
    rw [← Act.isolatorTimeout_travels _ (by rw [((s.readAt_elapse n).isolators i).1]; exact travels)]
    exact congrArg (fun timer => Host.Outcome.next (State.finish
      (s.onExpiry timer fun s => s.onAct fun e a => a.isolatorTimeout e i))) running
  · rw [shows, Act.isolatorContact_fault _ fault]

end Sys2Proof.Machine

namespace Sys2Proof.Machine

/-! ### Selector events (R20 to R23) -/

theorem Switches.get_set (w : Switches) (p q : Position) (b : Bool) :
    Switches.get (Switches.set w p b) q = if q = p then b else Switches.get w q := by
  rcases p with _ | _ | _ | _ | _ <;> rcases q with _ | _ | _ | _ | _ <;> rfl

theorem mem_positions (p : Position) : p ∈ positions := by
  rcases p with _ | _ | _ | _ | _ <;> decide

/-- R23: `p`'s switch comes to show closed as the only one. -/
theorem Switches.closedAt_set_iff (w : Switches) (p : Position) :
    Switches.closedAt (Switches.set w p true) = [p] ↔ ∀ q, q ≠ p → Switches.get w q = false := by
  constructor
  · intro only q other
    by_contra shows
    have member : q ∈ Switches.closedAt (Switches.set w p true) := by
      refine List.mem_filter.mpr ⟨mem_positions q, ?_⟩
      rw [Switches.get_set, if_neg other]
      simpa using shows
    rw [only] at member
    exact other (List.mem_singleton.mp member)
  · intro others
    have single : Switches.closedAt (Switches.set w p true) = positions.filter (fun q => decide (q = p)) := by
      refine List.filter_congr fun q _ => ?_
      rw [Switches.get_set]
      by_cases h : q = p
      · simp [h]
      · simp [h, others q h]
    rw [single]
    rcases p with _ | _ | _ | _ | _ <;> rfl

/-- R20: a move command is driven exactly while MOVING. -/
theorem Act.moveCommand_iff (a : Act) (y : Supply) : a.moveCommand = some y ↔ a.selector.state = .moving y := by
  unfold Act.moveCommand
  cases a.selector.state <;> simp

theorem Act.moveCommand_fault {a : Act} (h : a.selector.state = .fault) : a.moveCommand = none := by
  unfold Act.moveCommand
  rw [h]

section
variable {a : Act} (e : Env) {p q : Position} {closed : Bool} {y : Supply}

theorem Act.endSwitch_moving (h : a.selector.state = .moving y) : a.endSwitch e p closed =
    if p = .system y ∧ closed then a.travelEnds y else a := by
  unfold Act.endSwitch
  rw [h]

/-- R23: a switch that contradicts a selector at rest. -/
theorem Act.endSwitch_rest_conflict (h : a.selector.state = .rest q)
    (c : p = q ∧ closed = false ∨ p ≠ q ∧ closed = true) :
    a.endSwitch e p closed = a.selectorFaults e .contactConflict := by
  unfold Act.endSwitch
  rw [h]
  rcases c with ⟨same, rfl⟩ | ⟨other, rfl⟩
  · exact (if_pos same).trans (if_neg Bool.false_ne_true)
  · exact (if_neg other).trans (if_pos rfl)

theorem Act.endSwitch_rest_agrees (h : a.selector.state = .rest q)
    (c : p = q ∧ closed = true ∨ p ≠ q ∧ closed = false) : a.endSwitch e p closed = a := by
  unfold Act.endSwitch
  rw [h]
  rcases c with ⟨same, rfl⟩ | ⟨other, rfl⟩
  · exact (if_pos same).trans (if_pos rfl)
  · exact (if_neg other).trans (if_neg Bool.false_ne_true)

theorem Act.endSwitch_unknown_closes (h : a.selector.state = .unknown) : a.endSwitch e p true =
    if Switches.closedAt e.pins.selector = [p] then { a with selector := { a.selector with state := .rest p } }
    else a.selectorFaults e .contactConflict := by
  unfold Act.endSwitch
  rw [h]
  exact if_pos rfl

theorem Act.endSwitch_unknown_opens (h : a.selector.state = .unknown) : a.endSwitch e p false = a := by
  unfold Act.endSwitch
  rw [h]
  exact if_neg Bool.false_ne_true

theorem Act.endSwitch_fault (h : a.selector.state = .fault) : a.endSwitch e p closed = a := by
  unfold Act.endSwitch
  rw [h]

theorem Act.travelTimeout_moving (h : a.selector.state = .moving y) :
    a.travelTimeout e = a.selectorFaults e .travelTimeout := by
  unfold Act.travelTimeout
  rw [h]

/-- R22: the requesters of the travel are answered. -/
theorem Act.travelEnds_spec (y : Supply) (a : Act) :
    a.travelEnds y =
      { a with selector := { state := .rest (.system y), timer := none, waiters := [] }, inbox := (a.travelEnds y).inbox }
    ∧ ∀ w ∈ a.selector.waiters, (a.travelEnds y).Tells (.answered w (.moveSelector y) .done) :=
  ⟨(Act.answerAll_reports ..).frame, fun _ m => Act.answerAll_tells _ _ _ m⟩

end

theorem State.finish_selectorFault {b : State} (h : b.act.selector.state = .fault) :
    b.finish.act.selector.state = .fault := by
  obtain ⟨c, settled, finished⟩ := State.finish_settles b
  rw [finished]
  exact settled.selectorFault.mpr h

/-- Settles O15. -/
theorem selectorEvents : Obligations.SelectorEvents := by
  intro s pins x live shown record failed faults disturbs
  have shows (p : Position) (closed : Bool) : exec (.selectorEndSwitchChange p closed) s =
      .next (State.finish { shown p closed with act := s.act.endSwitch (shown p closed).env p closed }) := rfl
  have code (k : FaultKind) : s.act.entry .switchgearFault 255 (n16 (256 * k.code)) (n32 x.state.toCode.code) =
      record k.code := by
    refine congrArg (fun n => s.act.entry .switchgearFault 255 (n16 (256 * k.code)) (n32 n)) ?_
    rcases x.state with (_ | _ | _ | _ | _) | _ | _ | _ <;> rfl
  have recorded {k : FaultKind} {e : Env} {a : Act} {b : State} (f : Act.SelectorFaulted e k a b.act)
      (state : a.selector.state = x.state) (waiters : a.selector.waiters = x.waiters) : failed b := by
    have stays : b.finish.act.selector.state = .fault :=
      State.finish_selectorFault (congrArg Selector.state f.selector)
    refine ⟨f.selector, Act.moveCommand_fault (congrArg Selector.state f.selector), f.told, ?_, f.opened, stays,
      Act.moveCommand_fault stays⟩
    rw [← state, ← waiters]
    exact f.failed
  have faulted {c : Instr} {k : FaultKind} {base : State} (read : State.ReadAt s base)
      (run : exec c s = .next (State.finish { base with act := base.act.selectorFaults base.env k })) :
      faults c k.code base := by
    have f := base.act.selectorFaults_faulted base.env k
    obtain ⟨state, waiters⟩ := read.selector
    refine ⟨{ base with act := base.act.selectorFaults base.env k }, run, recorded f state waiters, ?_, ?_, f.alert,
      fun dead => f.dead (by rw [read.breaker]; exact dead), fun alive => ?_⟩
    · rw [f.switches.frame]
    · have first := f.record
      rw [read.logs, read.entry, state, code] at first
      exact first
    · have forced := f.forced (by rw [read.breaker]; exact alive)
      rw [read.entry, read.confirmed] at forced
      exact forced
  have travelEnd {y : Supply} (moving : x.state = .moving y) :
      exec (.selectorEndSwitchChange (.system y) true) s = exec .selectorTravelEnd s := by
    have ended : s.travelEnded = s.endSwitchShows (.system y) true := by
      unfold State.travelEnded
      rw [moving]
    exact (congrArg (fun t => Host.Outcome.next (State.finish t)) ended).symm
  have disturbed {c : Instr} {e : Env} {a : Act} {y : Supply} (moving : x.state = .moving y)
      (switched : Act.Switches s.act a) (same : a.selector = x)
      (run : exec c s = .next (State.finish { s with env := e, act := a.selectorDisturbed e })) : disturbs c := by
    have f := a.selectorFaults_faulted e .contactConflict
    rw [Act.selectorDisturbed_moving (by rw [same]; exact moving)] at run
    refine ⟨_, run, recorded f (by rw [same]) (by rw [same]), ?_⟩
    have written := f.record
    rw [same, switched.entry, code] at written
    obtain ⟨l, hl⟩ := written
    exact hl ▸ List.mem_append_right _ List.mem_cons_self
  refine ⟨s.act.moveCommand_iff, fun y moving => ⟨?_, ?_, fun n running => ?_, fun p closed other => ?_,
    fun i opened => ?_, fun opened => ?_⟩, fun still => ?_, fun p q closed rest => ⟨fun conflict => ?_, fun agrees => ?_⟩,
    fun p unknown => ⟨fun others => ?_, fun second => ?_, ?_⟩, fun p closed fault => ?_⟩
  · obtain ⟨written, told⟩ := Act.travelEnds_spec y s.act
    refine ⟨{ shown (.system y) true with act := s.act.travelEnds y }, ?_, by rw [written], ?_, told⟩
    · rw [← travelEnd moving, shows, Act.endSwitch_moving _ moving, if_pos ⟨rfl, rfl⟩]
    · rw [written]
      rfl
  · exact travelEnd moving
  · refine faulted (k := .travelTimeout) (s.readAt_elapse n) ?_
    rw [← Act.travelTimeout_moving (a := (s.elapse n).act) _ moving]
    exact congrArg (fun timer => Host.Outcome.next (State.finish
      (s.onExpiry timer fun s => s.onAct fun e a => a.travelTimeout e))) running
  · rw [shows, Act.endSwitch_moving _ moving, if_neg (by rintro ⟨rfl, rfl⟩; simp at other)]
  · let e : Env := { s.env with pins := { pins with isolators := pins.isolators.set i .closed } }
    refine disturbed (e := e) moving (s.act.isolatorToFault_faulted e i .contactConflict).switches
      (Act.isolatorToFault_selector ..) ?_
    rw [← Act.isolatorFaults_eq, ← Act.isolatorContact_conflict _ (.inl ⟨opened, rfl⟩)]
    rfl
  · let e : Env := { s.env with pins := { pins with breakerClosed := true } }
    have conflict : exec .breakerContactConflict s =
        .next (State.finish { s with env := e, act := s.act.breakerContact e true }) := rfl
    rcases opened with opened | lockout
    · rw [Act.breakerContact_opened _ opened] at conflict
      exact disturbed moving (((Act.Switches.refl s.act).opens
        (Act.Opens.refl s.act).breakerTo).switchgearFault.push) (by simp [x]) conflict
    · rw [Act.breakerContact_lockout _ lockout] at conflict
      exact disturbed moving ((Act.Switches.refl s.act).switchgearFault.push) (by simp [x]) conflict
  · have stays : s.travelEnded = s := by
      unfold State.travelEnded
      split
      · rename_i y moving
        exact absurd moving (still y)
      all_goals rfl
    exact congrArg (fun t => Host.Outcome.next (State.finish t)) stays
  · refine faulted (k := .contactConflict) (s.readAt_pins _) ?_
    rw [shows, Act.endSwitch_rest_conflict _ rest conflict]
  · rw [shows, Act.endSwitch_rest_agrees _ rest agrees]
  · rw [shows, Act.endSwitch_unknown_closes _ unknown,
      if_pos ((Switches.closedAt_set_iff pins.selector p).mpr others)]
  · refine faulted (k := .contactConflict) (s.readAt_pins _) ?_
    have several : Switches.closedAt (shown p true).env.pins.selector ≠ [p] := fun only => by
      obtain ⟨q, other, closed⟩ := second
      exact absurd ((Switches.closedAt_set_iff pins.selector p).mp only q other) (by simp [closed])
    rw [shows, Act.endSwitch_unknown_closes _ unknown, if_neg several]
  · rw [shows, Act.endSwitch_unknown_opens _ unknown]
  · rw [shows, Act.endSwitch_fault _ fault]

end Sys2Proof.Machine

namespace Sys2Proof.Machine

/-! ## Orders: CLEAR_FAULT (R34, R49) -/

/-! ### An admitted order (R72, R84, R169) -/

/-- R169: of a frame's report for arming there may remain a record; mode, address and devices stay. -/
theorem Act.armingFrame_frame (dst src : Nat) (a : Act) : ∃ x es,
    a.armingFrame dst src = { a with startup := x, logs := a.logs ++ es } ∧ x.mode = a.startup.mode
    ∧ (a.startup.armedBy = none → x = a.startup ∧ es = []) := by
  have same : a = { a with startup := a.startup, logs := a.logs ++ [] } := by rw [List.append_nil]
  unfold Act.armingFrame
  split
  · rename_i armed
    refine ⟨{ a.startup with armedBy := none, armingTimer := none }, [a.entry .resetDisarmed src (n16 1) 0], ?_, rfl,
      fun none => ?_⟩
    · unfold Act.disarm
      rw [armed.1]
      rfl
    · rw [armed.1] at none
      cases none
  · exact ⟨a.startup, [], same, rfl, fun _ => ⟨rfl, rfl⟩⟩

/-- R84: an admitted order that arms or resets nothing is reported for arming and obeyed. -/
theorem State.receive_order {s : State} {own : Nat} {v : Verb} {dst src : Byte} (h : s.Admits own v dst src)
    (plain : v ≠ .resetArm ∧ v ≠ .reset) (mask : Byte) (arg : Half) (t : Int) :
    s.receive dst src (.order v mask arg) t =
      (s.reportArming dst.toNat src.toNat).obey dst.toNat src.toNat v mask := by
  obtain ⟨⟨listening, address, ⟨low, high⟩, destination, other⟩, addressed, source⟩ := h
  have heard : s.receive dst src (.order v mask arg) t =
      s.acceptOrder dst.toNat src.toNat v mask t := by
    unfold State.receive State.hear State.checkFrame
    rw [if_neg (by simp [listening])]
    dsimp only
    rw [address]
    dsimp only
    rw [if_neg (by omega), if_neg other]
    rfl
  have allowed : s.orderSource v src.toNat = true := by
    cases v <;> simp_all [State.orderSource, State.fromAuthority]
  obtain ⟨x, es, framed, -, -⟩ := s.act.armingFrame_frame dst.toNat src.toNat
  have station : (s.reportArming dst.toNat src.toNat).addressed dst.toNat = true := by
    have linked : (s.reportArming dst.toNat src.toNat).act.station = own := by
      unfold Act.station State.reportArming State.onAct
      dsimp only
      rw [framed]
      simp [address]
    unfold State.addressed
    rw [linked]
    simpa using addressed
  rw [heard]
  unfold State.acceptOrder State.whenAdmitted
  dsimp only
  rw [if_neg (fun k => k.1.elim plain.1 plain.2), station, allowed]
  rfl

/-- An order finds the part as it was but for the arming record. -/
theorem State.receive_clearFault {s : State} {own : Nat} {dst src : Byte} (h : s.Admits own .clearFault dst src)
    (mask : Byte) (arg : Half) (t : Int) : ∃ x es,
      s.receive dst src (.order .clearFault mask arg) t =
        { s with act := Act.clearFaultOrder s.env mask { s.act with startup := x, logs := s.act.logs ++ es } }
      ∧ x.mode = s.act.startup.mode ∧ (s.Unarmed → x = s.act.startup ∧ es = []) := by
  obtain ⟨x, es, framed, mode, calm⟩ := s.act.armingFrame_frame dst.toNat src.toNat
  refine ⟨x, es, ?_, mode, calm⟩
  rw [State.receive_order h ⟨nofun, nofun⟩, ← framed]
  rfl

/-! ### CLEAR_FAULT naming no slot (R34) -/

/-- R34: an isolator that the order brings to OPEN, where its contact shows `c`. -/
def Isolator.clears (c : Contact) (r : Isolator) : Bool := decide (r.state = .fault ∧ c = .opened)

/-- R34: an isolator after the order. -/
def Isolator.cleared (c : Contact) (r : Isolator) : Isolator :=
  if r.clears c then { r with state := .opened, timer := none, openWaiters := [] } else r

/-- R34: a breaker that the order brings to OPEN. -/
def Act.clearsBreaker (e : Env) (a : Act) : Bool := decide (a.breaker.state = .lockout) && !e.pins.breakerClosed

/-- R34: what the record says was changed. -/
def Act.clearedDevices (e : Env) (a : Act) : Nat :=
  flag (decide (a.selector.state = .fault)) + 2 * flag ((a.isolators.get .zero).clears (e.pins.isolators.get .zero))
    + 4 * flag ((a.isolators.get .one).clears (e.pins.isolators.get .one)) + 8 * flag (a.clearsBreaker e)

theorem Act.clearIsolator_fst (e : Env) (i : Slot) (a : Act) :
    (a.clearIsolator e i).1 = (a.isolators.get i).clears (e.pins.isolators.get i) := by
  unfold Act.clearIsolator Isolator.clears
  split
  · rename_i cleared
    exact (decide_eq_true cleared).symm
  · rename_i kept
    exact (decide_eq_false kept).symm

theorem Act.clearIsolator_opens (e : Env) (i : Slot) (a : Act) : Act.Opens a (a.clearIsolator e i).2 := by
  unfold Act.clearIsolator
  split
  · exact (Act.Opens.refl a).isolatorIsOpen
  · exact .refl a

theorem Act.clearIsolator_breaker (e : Env) (i : Slot) (a : Act) : (a.clearIsolator e i).2.breaker = a.breaker := by
  unfold Act.clearIsolator Act.isolatorIsOpen
  split <;> simp

theorem Act.clearIsolator_isolators (e : Env) (i : Slot) (a : Act) : (a.clearIsolator e i).2.isolators =
    a.isolators.set i ((a.isolators.get i).cleared (e.pins.isolators.get i)) := by
  unfold Act.clearIsolator Isolator.cleared Isolator.clears
  split
  · rename_i cleared
    rw [if_pos (decide_eq_true cleared), Act.isolatorIsOpen_isolators]
  · rename_i kept
    rw [if_neg (by simpa using kept), Pair.set_get_self]

/-- R34: a selector in FAULT becomes UNKNOWN. -/
def Act.clearSelector (a : Act) : Act :=
  if decide (a.selector.state = .fault) then { a with selector := { a.selector with state := .unknown } } else a

/-- R34: both isolators, after the selector. -/
def Act.clearIsolators (e : Env) (a : Act) : Act := ((a.clearSelector.clearIsolator e .zero).2.clearIsolator e .one).2

/-- R34: a breaker in LOCKOUT becomes OPEN with its history emptied. -/
def Act.clearBreaker (e : Env) (a : Act) : Act :=
  if a.clearsBreaker e then
    ({ a with breaker := { a.breaker with state := .opened, lastTrip := none } }).push .breakerOpened
  else a

theorem Act.clearSelector_frame (a : Act) : a.clearSelector =
    { a with
      selector := { a.selector with
        state := if a.selector.state = .fault then .unknown else a.selector.state } } := by
  unfold Act.clearSelector
  by_cases h : a.selector.state = .fault <;> simp [h]

theorem Act.clearIsolators_opens (e : Env) (a : Act) : Act.Opens a.clearSelector (a.clearIsolators e) :=
  (Act.clearIsolator_opens ..).trans (Act.clearIsolator_opens ..)

theorem Act.clearIsolators_breaker (e : Env) (a : Act) : (a.clearIsolators e).breaker = a.breaker := by
  unfold Act.clearIsolators
  rw [Act.clearIsolator_breaker, Act.clearIsolator_breaker, Act.clearSelector_frame]

theorem Act.clearIsolators_isolators (e : Env) (i : Slot) (a : Act) : (a.clearIsolators e).isolators.get i =
    (a.isolators.get i).cleared (e.pins.isolators.get i) := by
  unfold Act.clearIsolators
  rw [Act.clearIsolator_isolators, Act.clearIsolator_isolators, Act.clearSelector_frame]
  cases i <;> simp

theorem Act.clearSwitchgear_eq (e : Env) (a : Act) : a.clearSwitchgear e =
    let b := (a.clearIsolators e).clearBreaker e
    if a.clearedDevices e = 0 then b else b.log .switchgearCleared 255 (n16 (a.clearedDevices e)) 0 := by
  have zero : (a.clearSelector.clearIsolator e .zero).1 =
      (a.isolators.get .zero).clears (e.pins.isolators.get .zero) := by
    rw [Act.clearIsolator_fst, Act.clearSelector_frame]
  have one : ((a.clearSelector.clearIsolator e .zero).2.clearIsolator e .one).1 =
      (a.isolators.get .one).clears (e.pins.isolators.get .one) := by
    rw [Act.clearIsolator_fst, Act.clearIsolator_isolators, Act.clearSelector_frame]
    simp
  have breaker : (a.clearIsolators e).clearsBreaker e = a.clearsBreaker e := by
    unfold Act.clearsBreaker
    rw [Act.clearIsolators_breaker]
  unfold Act.clearedDevices
  rw [← zero, ← one, ← breaker]
  rfl

theorem Act.clearedDevices_eq (e : Env) (a : Act) : a.clearedDevices e =
    (if a.selector.state = .fault then 1 else 0)
    + (if (a.isolators.get .zero).state = .fault ∧ e.pins.isolators.get .zero = .opened then 2 else 0)
    + (if (a.isolators.get .one).state = .fault ∧ e.pins.isolators.get .one = .opened then 4 else 0)
    + if a.breaker.state = .lockout ∧ e.pins.breakerClosed = false then 8 else 0 := by
  simp [Act.clearedDevices, Isolator.clears, Act.clearsBreaker, flag]

/-- What R34 makes of the part. -/
structure Act.SwitchgearCleared (e : Env) (a b : Act) : Prop where
  slots : b.slots = a.slots
  link : b.link = a.link
  selector : b.selector.state = if a.selector.state = .fault then .unknown else a.selector.state
  isolators : ∀ i, b.isolators.get i = (a.isolators.get i).cleared (e.pins.isolators.get i)
  breaker : b.breaker = if a.clearsBreaker e then { a.breaker with state := .opened, lastTrip := none } else a.breaker
  told : a.clearsBreaker e = true → b.Tells .breakerOpened
  logs : b.logs = a.logs ++ if a.clearedDevices e = 0 then [] else
    [a.entry .switchgearCleared 255 (n16 (a.clearedDevices e)) 0]

theorem Act.clearSwitchgear_cleared (e : Env) (a : Act) : Act.SwitchgearCleared e a (a.clearSwitchgear e) := by
  have opens : Act.Opens a.clearSelector ((a.clearIsolators e).clearBreaker e) := by
    unfold Act.clearBreaker
    split
    · exact (Act.clearIsolators_opens e a).breakerTo.push
    · exact Act.clearIsolators_opens e a
  have left : ((a.clearIsolators e).clearBreaker e).isolators = (a.clearIsolators e).isolators
      ∧ ((a.clearIsolators e).clearBreaker e).breaker =
        if a.clearsBreaker e then { a.breaker with state := .opened, lastTrip := none } else a.breaker := by
    have breaker := Act.clearIsolators_breaker e a
    unfold Act.clearBreaker Act.clearsBreaker
    rw [breaker]
    split
    · simp
    · exact ⟨rfl, breaker⟩
  have told : a.clearsBreaker e = true → ((a.clearIsolators e).clearBreaker e).Tells .breakerOpened := fun clears => by
    have lockout : (a.clearIsolators e).clearsBreaker e = true := by
      rw [← clears]
      unfold Act.clearsBreaker
      rw [Act.clearIsolators_breaker]
    unfold Act.clearBreaker
    rw [if_pos lockout]
    exact Act.push_tells ..
  rw [Act.clearSwitchgear_eq]
  generalize (a.clearIsolators e).clearBreaker e = b at opens left told
  rw [Act.clearSelector_frame] at opens
  obtain ⟨isolators, breaker⟩ := left
  have written : Act.SwitchgearCleared e a { b with logs := a.logs ++ if a.clearedDevices e = 0 then [] else
      [a.entry .switchgearCleared 255 (n16 (a.clearedDevices e)) 0] } :=
    { slots := by rw [opens.frame]
      link := opens.link
      selector := congrArg Selector.state opens.selector
      isolators := fun i => isolators ▸ Act.clearIsolators_isolators e i a
      breaker := breaker
      told := told
      logs := rfl }
  dsimp only
  split
  · rename_i none
    rw [if_pos none, List.append_nil, ← show b.logs = a.logs from opens.logs] at written
    exact written
  · rename_i some
    rw [if_neg some, ← show b.logs = a.logs from opens.logs,
      
      ← show b.entry .switchgearCleared 255 (n16 (a.clearedDevices e)) 0 =
        a.entry .switchgearCleared 255 (n16 (a.clearedDevices e)) 0 from opens.entry ..] at written
    exact written

/-! ### CLEAR_FAULT naming slots (R49) -/

/-- R46: a change's reports. -/
theorem Act.slotChanged_reports (i : Slot) (a : Act) : Act.Reports a (a.slotChanged i) :=
  (Act.push_reports ..).trans ⟨rfl, fun _ => id⟩

theorem Act.slotChanged_tells (i : Slot) (a : Act) : (a.slotChanged i).Tells (.slotChanged i) := Act.push_tells ..

/-- R49: a dropped slot that the order brings back, its down switch showing `down`. -/
def SlotRec.back (named down : Bool) (r : SlotRec) : Bool := named && decide (r.lift = .dropped) && down

/-- R49: a latched slot that the order frees. -/
def SlotRec.freed (named : Bool) (r : SlotRec) : Bool := named && decide (r.lift = .down) && r.latch

/-- R49: a slot after the order. -/
def SlotRec.cleared (named down : Bool) (r : SlotRec) : SlotRec :=
  { r with
    lift := if r.back named down then .down else r.lift, latch := if r.freed named then false else r.latch }

/-- R49: the records of an order for one slot. -/
def Act.clearRecords (named down : Bool) (i : Slot) (a : Act) : List LogEntry :=
  if (a.slots.get i).back named down || (a.slots.get i).freed named then
    [a.entry .slotCleared i.code (if (a.slots.get i).back named down then 1 else 2) 0]
  else []

/-- R49: the order for one slot, where the mask names it. -/
def Act.clearNamed (e : Env) (mask : Byte) (i : Slot) (a : Act) : Act :=
  if maskNames mask i then a.clearSlot e i else a

theorem Act.onMask_clearSlot (e : Env) (mask : Byte) (a : Act) :
    a.onMask mask (fun i a => a.clearSlot e i) = (a.clearNamed e mask .zero).clearNamed e mask .one := rfl

/-- What R49 makes of the part, for one slot. -/
structure Act.SlotCleared (named down : Bool) (i : Slot) (a b : Act) : Prop where
  frame : b =
    { a with
      slots := a.slots.set i ((a.slots.get i).cleared named down), inbox := b.inbox
      logs := a.logs ++ a.clearRecords named down i }
  tells : ∀ r, a.Tells r → b.Tells r
  told : ((a.slots.get i).back named down || (a.slots.get i).freed named) = true → b.Tells (.slotChanged i)

/-- R49: the order leaves a slot that it neither brings back nor frees. -/
theorem Act.SlotCleared.kept {named down : Bool} {i : Slot} {a : Act} (back : (a.slots.get i).back named down = false)
    (freed : (a.slots.get i).freed named = false) : Act.SlotCleared named down i a a := by
  have slot : (a.slots.get i).cleared named down = a.slots.get i := by
    unfold SlotRec.cleared
    rw [back, freed]
    rfl
  have records : a.clearRecords named down i = [] := if_neg (by simp [back, freed])
  refine ⟨?_, fun _ => id, fun k => absurd k (by simp [back, freed])⟩
  rw [slot, records, Pair.set_get_self, List.append_nil]

/-- R49, R46: a slot that the order changes is recorded and reported. -/
theorem Act.SlotCleared.changed {named down : Bool} {i : Slot} {a : Act} {f : SlotRec → SlotRec} {n : Half}
    (slot : f (a.slots.get i) = (a.slots.get i).cleared named down)
    (records : a.clearRecords named down i = [a.entry .slotCleared i.code n 0]) :
    Act.SlotCleared named down i a ((a.updateSlot i f).log .slotCleared i.code n 0) := by
  have reports := (a.setSlot i (f (a.slots.get i))).slotChanged_reports i
  refine ⟨?_, fun r x => reports.tells r x, fun _ => Act.slotChanged_tells ..⟩
  rw [records, ← slot]
  unfold Act.updateSlot
  rw [reports.frame]
  rfl

theorem Act.clearNamed_cleared (e : Env) (mask : Byte) (i : Slot) (a : Act) :
    Act.SlotCleared (maskNames mask i) (e.pins.down.get i) i a (a.clearNamed e mask i) := by
  unfold Act.clearNamed
  split
  · rename_i named
    rw [named]
    unfold Act.clearSlot
    dsimp only
    split
    · rename_i dropped
      split
      · rename_i down
        rw [down]
        exact .changed (by simp [SlotRec.cleared, SlotRec.back, SlotRec.freed, dropped])
          (by simp [Act.clearRecords, SlotRec.back, dropped])
      · rename_i up
        exact .kept (by simp [SlotRec.back, up]) (by simp [SlotRec.freed, dropped])
    · rename_i lowered
      split
      · rename_i latch
        exact .changed (by simp [SlotRec.cleared, SlotRec.back, SlotRec.freed, lowered, latch])
          (by simp [Act.clearRecords, SlotRec.back, SlotRec.freed, lowered, latch])
      · rename_i free
        exact .kept (by simp [SlotRec.back, lowered]) (by simp [SlotRec.freed, free])
    all_goals
      rename_i raised
      exact .kept (by simp [SlotRec.back, raised]) (by simp [SlotRec.freed, raised])
  · rename_i other
    exact .kept (by simp [SlotRec.back, other]) (by simp [SlotRec.freed, other])

/-- R49: the slots after the order, slot by slot. -/
theorem Act.SlotCleared.slot {named down : Bool} {i : Slot} {a b : Act} (h : Act.SlotCleared named down i a b) (j : Slot) :
    b.slots.get j = if j = i then (a.slots.get i).cleared named down else a.slots.get j := by
  rw [h.frame]
  exact Pair.get_set ..

/-- A record is the same before and after. -/
theorem Act.SlotCleared.entry {named down : Bool} {i : Slot} {a b : Act} (h : Act.SlotCleared named down i a b)
    (k : EventCode) (x : Nat) (d : Half) (y : Word) : b.entry k x d y = a.entry k x d y := by
  rw [h.frame]
  rfl

/-- Settles O21. -/
theorem clearFaultOrder : Obligations.ClearFaultOrder := by
  refine ⟨fun s own dst src mask arg admitted zero one => ?_,
    fun s own dst src mask arg admitted unarmed names => ?_⟩
  · obtain ⟨x, es, received, mode, calm⟩ := State.receive_clearFault admitted mask arg s.env.pins.temperature
    let a : Act := { s.act with startup := x, logs := s.act.logs ++ es }
    have cleared := a.clearSwitchgear_cleared s.env
    have order : a.clearFaultOrder s.env mask = a.clearSwitchgear s.env := if_neg (by simp [zero, one])
    have clears (i : Slot) : (s.act.isolators.get i).clears (s.env.pins.isolators.get i) =
        decide ((s.act.isolators.get i).state = .fault ∧ s.env.pins.isolators.get i = .opened) := rfl
    refine ⟨{ s with act := a.clearSwitchgear s.env }, ?_, rfl, cleared.slots, cleared.link, cleared.selector,
      fun i => ?_, ?_, fun lockout opened => cleared.told ?_, es, fun unarmed => (calm unarmed).2, ?_⟩
    · rw [← order]
      exact congrArg (fun t => Host.Outcome.next (State.finish t)) received
    · refine (congrArg Isolator.state (cleared.isolators i)).trans ?_
      unfold Isolator.cleared
      split <;> rename_i h <;> simp_all [a]
    · refine cleared.breaker.trans ?_
      simp [Act.clearsBreaker, a]
    · simp [Act.clearsBreaker, a, lockout, opened]
    · have same (what : Nat) : a.entry .switchgearCleared 255 (n16 what) 0 =
          s.act.entry .switchgearCleared 255 (n16 what) 0 := by
        unfold Act.entry
        rw [show a.startup.mode = s.act.startup.mode from mode]
      have written := cleared.logs
      rw [same, Act.clearedDevices_eq] at written
      exact written
  · obtain ⟨x, es, received, mode, calm⟩ := State.receive_clearFault admitted mask arg s.env.pins.temperature
    obtain ⟨rfl, rfl⟩ := calm unarmed
    intro back freed
    let c := s.act.clearNamed s.env mask .zero
    let d := c.clearNamed s.env mask .one
    have first : Act.SlotCleared (maskNames mask .zero) (s.env.pins.down.get .zero) .zero s.act c :=
      s.act.clearNamed_cleared s.env mask .zero
    have second : Act.SlotCleared (maskNames mask .one) (s.env.pins.down.get .one) .one c d :=
      c.clearNamed_cleared s.env mask .one
    have untouched : c.slots.get .one = s.act.slots.get .one := first.slot .one
    have records : c.clearRecords (maskNames mask .one) (s.env.pins.down.get .one) .one =
        s.act.clearRecords (maskNames mask .one) (s.env.pins.down.get .one) .one := by
      unfold Act.clearRecords
      rw [untouched, first.entry]
    refine ⟨{ s with act := d }, ?_, ?_, fun i changed => ?_, fun i => ?_⟩
    · have order : s.act.clearFaultOrder s.env mask = d := (if_pos names).trans (Act.onMask_clearSlot ..)
      rw [List.append_nil] at received
      rw [← order]
      exact congrArg (fun t => Host.Outcome.next (State.finish t)) received
    · have logs : d.logs = s.act.logs ++ s.act.clearRecords (maskNames mask .zero) (s.env.pins.down.get .zero) .zero
          ++ s.act.clearRecords (maskNames mask .one) (s.env.pins.down.get .one) .one := by
        rw [second.frame, records, first.frame]
      have listed : ([Slot.zero, Slot.one].filter fun i => back i || freed i).map
            (fun i => s.act.entry .slotCleared i.code (if back i then 1 else 2) 0) =
          s.act.clearRecords (maskNames mask .zero) (s.env.pins.down.get .zero) .zero
          ++ s.act.clearRecords (maskNames mask .one) (s.env.pins.down.get .one) .one := by
        have each (i : Slot) : s.act.clearRecords (maskNames mask i) (s.env.pins.down.get i) i =
            if back i || freed i then [s.act.entry .slotCleared i.code (if back i then 1 else 2) 0] else [] := rfl
        rw [each, each, List.filter_cons, List.filter_cons, List.filter_nil]
        split_ifs <;> simp [*]
      rw [listed, ← List.append_assoc, ← logs, second.frame, first.frame]
    · cases i with
      | zero => exact second.tells _ (first.told changed)
      | one => exact second.told (by rw [untouched]; exact changed)
    · cases i with
      | zero => exact (second.slot .zero).trans (first.slot .zero)
      | one => exact (second.slot .one).trans (by rw [untouched]; rfl)

end Sys2Proof.Machine

namespace Sys2Proof.Machine

/-! ## The blocks after a reset (R35, R54, R74, R110, R122, R146, R161, R171, R178) -/

/-! ### The selector at a reset -/

theorem selectorAtReset_none {w : Switches} (h : Switches.closedAt w = []) : selectorAtReset w = .unknown := by
  unfold selectorAtReset
  rw [h]

theorem selectorAtReset_one {w : Switches} {p : Position} (h : Switches.closedAt w = [p]) :
    selectorAtReset w = .rest p := by
  unfold selectorAtReset
  rw [h]

theorem selectorAtReset_fault_iff (w : Switches) : selectorAtReset w = .fault ↔ 2 ≤ (Switches.closedAt w).length := by
  unfold selectorAtReset
  split <;> rename_i h
  · simp [h]
  · simp [h]
  · refine iff_of_true rfl ?_
    rcases hw : Switches.closedAt w with _ | ⟨p, _ | ⟨q, l⟩⟩
    · exact absurd hw (by assumption)
    · exact absurd hw (by simp_all)
    · simp

/-! ### The switchgear at a reset -/

/-- R71: behind a closed gate a fault is only recorded. -/
theorem Act.switchgearFault_shut {a : Act} (h : a.link.gateOpen = false) (i : Option Slot) (n : Nat) (k : FaultKind)
    (m : Nat) : a.switchgearFault i n k m =
      a.log .switchgearFault (optSlotCode i) (n16 (bytes2 n k.code)) (n32 m) := by
  unfold Act.switchgearFault
  rw [Act.alert_eq]
  dsimp only
  rw [if_neg (by simp [h]), if_neg (by simp [h])]

/-- R26: with no one who waits, an isolator's reaction to the breaker's opening tells no one. -/
theorem Act.isolatorBreakerOpened_unasked {a : Act} {i : Slot} (h : (a.isolators.get i).openWaiters = []) (e : Env) :
    a.isolatorBreakerOpened e i =
      { a with isolators := a.isolators.set i ((a.isolators.get i).uponOpening (e.pins.isolators.get i)) } := by
  have silent : (a.isolatorBreakerOpened e i).inbox = a.inbox := by
    unfold Act.isolatorBreakerOpened
    dsimp only
    split
    · unfold Act.driveOpen Act.isolatorIsOpen
      split
      · simp only [Act.setIsolator, Pair.get_set, if_true, h]
        rfl
      · rfl
    · rw [h]
      rfl
    · rfl
  rw [(Act.Opens.refl a).isolatorBreakerOpened.frame, silent, Act.isolatorBreakerOpened_breaker,
    Act.isolatorBreakerOpened_isolators]

/-- R30: the same for the breaker; only the sequencer is told. -/
theorem Act.breakerReachesOpen_unasked {a : Act} (breaker : a.breaker.openWaiters = [])
    (isolators : ∀ i, (a.isolators.get i).openWaiters = []) (e : Env) : a.breakerReachesOpen e =
      { a with
        breaker := { a.breaker with state := .opened, timer := none, openWaiters := [] }
        isolators :=
          ⟨(a.isolators.get .zero).uponOpening (e.pins.isolators.get .zero),
            (a.isolators.get .one).uponOpening (e.pins.isolators.get .one)⟩
        inbox := (a.push .breakerOpened).inbox } := by
  let b := ({ a with breaker := { a.breaker with state := .opened, timer := none, openWaiters := [] } } : Act).push
    .breakerOpened
  have reached : a.breakerReachesOpen e = (b.isolatorBreakerOpened e .zero).isolatorBreakerOpened e .one := by
    unfold Act.breakerReachesOpen
    rw [breaker]
    rfl
  have unasked (i : Slot) : (b.isolators.get i).openWaiters = [] := by
    rw [Act.push_isolators]
    exact isolators i
  rw [reached, Act.isolatorBreakerOpened_unasked (unasked .zero), Act.isolatorBreakerOpened_unasked]
  · dsimp only [b]
    rw [(Act.push_reports ..).frame, Act.push_inbox, Act.push_inbox]
    rfl
  · exact unasked .one

/-- R35: the isolators at a reset. -/
def Isolator.atReset (pins : Pins) (i : Slot) : Isolator :=
  if pins.breakerClosed then Isolator.reset else Isolator.reset.driven (pins.isolators.get i)

/-- R35: the breaker at a reset. -/
def Breaker.atReset (pins : Pins) : Breaker :=
  if pins.breakerClosed then Breaker.reset else { Breaker.reset with state := .opened, timer := none }

/-- R35: what is on its way at the end of a reset's own work. -/
def Inbox.atReset (pins : Pins) : Inbox :=
  if pins.breakerClosed then Inbox.empty else { Inbox.empty with reports := [.breakerOpened] }

/-- R35: with nothing on its way and the gate closed, a reset of the switchgear writes this. -/
theorem Act.resetSwitchgear_eq {e : Env} {a : Act} (inbox : a.inbox = Inbox.empty) (gate : a.link.gateOpen = false) :
    ∃ l, a.resetSwitchgear e =
      { a with
        selector := { state := selectorAtReset e.pins.selector, timer := none, waiters := [] }
        isolators := ⟨Isolator.atReset e.pins .zero, Isolator.atReset e.pins .one⟩, breaker := Breaker.atReset e.pins
        test := RoofTest.reset, inbox := Inbox.atReset e.pins, logs := a.logs ++ l }
      ∧ ((Switches.closedAt e.pins.selector).length ≤ 1 → l = []) := by
  let x : Act :=
    { a with
      selector := { state := selectorAtReset e.pins.selector, timer := none, waiters := [] }
      isolators := ⟨Isolator.reset, Isolator.reset⟩, breaker := Breaker.reset, test := RoofTest.reset }
  obtain ⟨l, recorded, silent⟩ : ∃ l,
      (if selectorAtReset e.pins.selector = .fault then
        x.switchgearFault none 0 .contactConflict x.selector.state.toCode.code else x) = { x with logs := a.logs ++ l }
      ∧ ((Switches.closedAt e.pins.selector).length ≤ 1 → l = []) := by
    split
    · rename_i fault
      refine ⟨_, Act.switchgearFault_shut (a := x) gate .., fun few => ?_⟩
      have many := (selectorAtReset_fault_iff _).mp fault
      omega
    · exact ⟨[], by rw [List.append_nil], fun _ => rfl⟩
  let y : Act := { x with logs := a.logs ++ l }
  have reset : a.resetSwitchgear e = if e.pins.breakerClosed then y else y.breakerReachesOpen e := by
    rw [← show _ = y from recorded]
    rfl
  refine ⟨l, ?_, silent⟩
  rw [reset]
  unfold Isolator.atReset Breaker.atReset Inbox.atReset
  split
  · rw [← inbox]
  · rw [Act.breakerReachesOpen_unasked rfl (fun i => by cases i <;> rfl), Act.push_inbox,
      show y.inbox = Inbox.empty from inbox]
    rfl

/-- R54, R55, R74, R110, R122, R146, R161, R170: what a reset leaves. -/
theorem Act.afterReset_eq (e : Env) (startup : Startup) (slots : Pair SlotRec) (address : Option Nat)
    (logs : List LogEntry) : ∃ l taken, Act.afterReset e startup slots address logs =
      { selector := { state := selectorAtReset e.pins.selector, timer := none, waiters := [] }
        isolators := ⟨Isolator.atReset e.pins .zero, Isolator.atReset e.pins .one⟩, breaker := Breaker.atReset e.pins
        test := RoofTest.reset, slots := slots, preferred := none, link := Link.reset address, bids := BidUnit.reset
        notices := NoticeQueue.reset, seq := Sequencer.reset
        ice :=
          { IceUnit.reset with
            lastTemp := if -50 ≤ e.pins.temperature ∧ e.pins.temperature ≤ 100 then some e.pins.temperature else none
            readingTaken := taken }
        startup := startup, inbox := Inbox.atReset e.pins, logs := logs ++ l }
      ∧ ((Switches.closedAt e.pins.selector).length ≤ 1 → l = []) := by
  unfold Act.afterReset
  dsimp only
  obtain ⟨l, reset, silent⟩ := Act.resetSwitchgear_eq (e := e) (a :=
    { selector := { state := .unknown, timer := none, waiters := [] }
      isolators := ⟨Isolator.reset, Isolator.reset⟩, breaker := Breaker.reset, test := RoofTest.reset, slots := slots
      preferred := none, link := Link.reset address, bids := BidUnit.reset, notices := NoticeQueue.reset
      seq := Sequencer.reset, ice := IceUnit.reset, startup := startup, inbox := Inbox.empty, logs := logs }) rfl rfl
  rw [reset]
  unfold Act.takeReading
  split
  · exact ⟨l, true, rfl, silent⟩
  · exact ⟨l, false, rfl, silent⟩

/-! ### The end of the event of a reset -/

theorem Act.settle_empty {a : Act} (h : a.inbox = Inbox.empty) (e : Env) (n : Nat) : a.settle e n = a := by
  have idle : a.settleOnce e = none := by
    unfold Act.settleOnce
    rw [h]
    rfl
  cases n with
  | zero => rfl
  | succ n =>
    unfold Act.settle
    rw [idle]

/-- R126: a sequencer that may not leave DORMANT takes no notice of the opened breaker. -/
theorem Act.settle_atReset {e : Env} {a : Act} {pins : Pins} (h : a.inbox = Inbox.atReset pins) (unfit : a.Unfit e)
    (n : Nat) : a.settle e (n + 1) = { a with inbox := Inbox.empty } := by
  cases closed : pins.breakerClosed
  · have told : a.inbox = { Inbox.empty with reports := [.breakerOpened] } := h.trans (if_neg (by simp [closed]))
    have handled : a.settleOnce e = some { a with inbox := Inbox.empty } := by
      unfold Act.settleOnce
      rw [told]
      exact congrArg some (Act.leaveDormant_unfit (a := { a with inbox := Inbox.empty }) unfit)
    unfold Act.settle
    rw [handled]
    exact Act.settle_empty rfl e n
  · have empty : a.inbox = Inbox.empty := h.trans (if_pos closed)
    rw [Act.settle_empty empty, ← empty]

/-- R35: no one may leave DORMANT at the event of a power-on reset. -/
theorem State.powerOn_finish (pins : Pins) (s : State) : (s.powerOn pins).finish =
    { s.powerOn pins with
      act := { (s.powerOn pins).act with inbox := Inbox.empty, logs := [] }
      ring := Ring.reset.writeAll 0 (s.powerOn pins).act.logs } := by
  obtain ⟨l, taken, left, -⟩ := Act.afterReset_eq (s.powerOn pins).env Startup.reset
    (slotsAtReset pins ⟨false, false⟩ ⟨SlotRec.reset, SlotRec.reset⟩) none []
  have act : (s.powerOn pins).act = _ := left
  have settled : (s.powerOn pins).act.settle (s.powerOn pins).env settleFuel =
      { (s.powerOn pins).act with inbox := Inbox.empty } :=
    Act.settle_atReset (pins := pins) (by rw [act]; rfl) (.inl rfl) 255
  unfold State.finish
  rw [settled]
  rfl

/-- R35, R54, R74, R110, R122, R146, R161, R171, R178: the part after a power-on reset. -/
theorem State.powerOn_finish_eq (pins : Pins) (s : State) : ∃ l taken, (s.powerOn pins).finish =
    { s.powerOn pins with
      act :=
        { selector := { state := selectorAtReset pins.selector, timer := none, waiters := [] }
          isolators := ⟨Isolator.atReset pins .zero, Isolator.atReset pins .one⟩, breaker := Breaker.atReset pins
          test := RoofTest.reset, slots := slotsAtReset pins ⟨false, false⟩ ⟨SlotRec.reset, SlotRec.reset⟩
          preferred := none, link := Link.reset none, bids := BidUnit.reset, notices := NoticeQueue.reset
          seq := Sequencer.reset
          ice :=
            { IceUnit.reset with
              lastTemp := if -50 ≤ pins.temperature ∧ pins.temperature ≤ 100 then some pins.temperature else none
              readingTaken := taken }
          startup := Startup.reset, inbox := Inbox.empty, logs := [] }
      ring := Ring.reset.writeAll 0 l }
    ∧ ((Switches.closedAt pins.selector).length ≤ 1 → l = []) := by
  obtain ⟨l, taken, left, silent⟩ := Act.afterReset_eq (s.powerOn pins).env Startup.reset
    (slotsAtReset pins ⟨false, false⟩ ⟨SlotRec.reset, SlotRec.reset⟩) none []
  refine ⟨l, taken, ?_, silent⟩
  rw [State.powerOn_finish, show (s.powerOn pins).act = _ from left]
  rfl

/-- Settles O7. -/
theorem powerOnResetBlocks : Obligations.PowerOnResetBlocks := by
  constructor
  · intro pins s
    obtain ⟨l, taken, finished, silent⟩ := State.powerOn_finish_eq pins s
    refine ⟨(s.powerOn pins).finish, rfl, ?_⟩
    rw [finished]
    refine ⟨fun i => by cases i <;> rfl, rfl, rfl, rfl, rfl, rfl, rfl, rfl, rfl, rfl, rfl, rfl, rfl, rfl, rfl, rfl, rfl, rfl,
      rfl, rfl, rfl, rfl, rfl, rfl, rfl, rfl, rfl, rfl, rfl, rfl, rfl, rfl, rfl, fun few _ => ?_⟩
    rw [silent few]
    rfl
  · intro pins s
    obtain ⟨l, taken, finished, -⟩ := State.powerOn_finish_eq pins s
    refine ⟨(s.powerOn pins).finish, rfl, ?_⟩
    rw [finished]
    refine ⟨rfl, selectorAtReset_none, fun p => selectorAtReset_one, (selectorAtReset_fault_iff _).mpr, ?_,
      fun closed => ?_, fun opened => ?_⟩
    · unfold Breaker.atReset
      split <;> rfl
    · have breaker : Breaker.atReset pins = Breaker.reset := if_pos closed
      have isolator (i : Slot) : Isolator.atReset pins i = Isolator.reset := if_pos closed
      simp only [breaker, isolator]
      exact ⟨rfl, rfl, fun i => by cases i <;> exact ⟨rfl, rfl⟩⟩
    · have breaker : Breaker.atReset pins = { Breaker.reset with state := .opened, timer := none } :=
        if_neg (by simp [opened])
      have isolator (i : Slot) : Pair.get ⟨Isolator.atReset pins .zero, Isolator.atReset pins .one⟩ i =
          Isolator.reset.driven (pins.isolators.get i) := by
        cases i <;> exact if_neg (by simp [opened])
      refine ⟨by rw [breaker], by rw [breaker], fun i => ?_⟩
      dsimp only
      rw [isolator]
      split
      · rename_i shown
        rw [Isolator.driven_shown shown]
        exact ⟨rfl, rfl⟩
      · rename_i travels
        rw [Isolator.driven_travels travels]
        exact ⟨rfl, rfl⟩

end Sys2Proof.Machine

namespace Sys2Proof.Machine

/-! ## Requests to the Switchgear Interlock and the Roof Test Unit (R19, R21, R24, R26, R28, R30, R36) -/

/-- R19: a request that is refused or met changes nothing but the answers on their way. -/
theorem Act.answered_only {a b : Act} {w : List Requester} {q : Request} {ans : Answer} (h : b = a.answerAll w q ans) :
    b = { a with inbox := b.inbox } ∧ ∀ x ∈ w, b.Tells (.answered x q ans) := by
  subst h
  exact ⟨(Act.answerAll_reports ..).frame, fun _ m => Act.answerAll_tells _ _ _ m⟩

/-! ### Close requests (R24, R28) -/

theorem SelectorState.position_iff (x : SelectorState) (y : Supply) : x.position = some y ↔ x = .rest (.system y) := by
  unfold SelectorState.position
  split <;> simp

/-- R24: the conditions of a close request to an isolator. -/
theorem Act.mayCloseIsolator_iff (i : Slot) (a : Act) : a.mayCloseIsolator i = true ↔
    (a.breaker.state = .opened ∨ a.breaker.state = .lockout) ∧ (∃ y, a.selector.state = .rest (.system y))
    ∧ (a.slots.get i).lift = .up ∧ (a.slots.get i).duty = .collect ∧ (a.isolators.get i.other).state = .opened
    ∧ a.test.running = false := by
  unfold Act.mayCloseIsolator
  simp only [Bool.and_eq_true, Act.breakerOpen_iff, Option.isSome_iff_exists, SelectorState.position_iff,
    decide_eq_true_eq, Bool.not_eq_true', and_assoc]

/-- R28: the conditions of a close request to the breaker. -/
theorem Act.mayCloseBreaker_iff (e : Env) (a : Act) : a.mayCloseBreaker e = true ↔
    (∃ y, a.selector.state = .rest (.system y) ∧ e.cls.confirmed = .system y)
    ∧ ((a.isolators.zero.state = .closed ∧ a.isolators.one.state = .opened)
      ∨ (a.isolators.zero.state = .opened ∧ a.isolators.one.state = .closed))
    ∧ (∃ c, e.pv.authority = some c) ∧ e.pv.permit = true := by
  unfold Act.mayCloseBreaker
  simp only [← SelectorState.position_iff]
  cases a.selector.state.position with
  | none => simp
  | some y => simp [Option.isSome_iff_exists, and_assoc]

section
variable {a : Act} {i : Slot} {e : Env} (w : List Requester)

theorem Act.closeIsolator_opened (h : (a.isolators.get i).state = .opened) : a.closeIsolator i w =
    if a.mayCloseIsolator i then
      a.setIsolator i { a.isolators.get i with
        state := .closing, timer := some 300, closeWaiters := (a.isolators.get i).closeWaiters ++ w }
    else a.answerAll w (.closeIsolator i) .refused := by
  unfold Act.closeIsolator
  dsimp only
  rw [h]

theorem Act.closeIsolator_closing (h : (a.isolators.get i).state = .closing) : a.closeIsolator i w =
    a.setIsolator i { a.isolators.get i with closeWaiters := (a.isolators.get i).closeWaiters ++ w } := by
  unfold Act.closeIsolator
  dsimp only
  rw [h]

theorem Act.closeIsolator_closed (h : (a.isolators.get i).state = .closed) :
    a.closeIsolator i w = a.answerAll w (.closeIsolator i) .done := by
  unfold Act.closeIsolator
  dsimp only
  rw [h]

theorem Act.closeIsolator_refused (h : (a.isolators.get i).state = .fault ∨ ∃ d, (a.isolators.get i).state = .opening d) :
    a.closeIsolator i w = a.answerAll w (.closeIsolator i) .refused := by
  unfold Act.closeIsolator
  dsimp only
  rcases h with h | ⟨d, h⟩ <;> rw [h]

theorem Act.closeBreaker_opened (h : a.breaker.state = .opened) : a.closeBreaker e w =
    if a.mayCloseBreaker e then
      { a with
        breaker :=
          { a.breaker with state := .closing, timer := some 200, closeWaiters := a.breaker.closeWaiters ++ w } }
    else a.answerAll w .closeBreaker .refused := by
  unfold Act.closeBreaker
  dsimp only
  rw [h]

theorem Act.closeBreaker_closing (h : a.breaker.state = .closing) : a.closeBreaker e w =
    { a with breaker := { a.breaker with closeWaiters := a.breaker.closeWaiters ++ w } } := by
  unfold Act.closeBreaker
  dsimp only
  rw [h]

theorem Act.closeBreaker_closed (h : a.breaker.state = .closed) :
    a.closeBreaker e w = a.answerAll w .closeBreaker .done := by
  unfold Act.closeBreaker
  dsimp only
  rw [h]

theorem Act.closeBreaker_refused (h : a.breaker.state = .opening ∨ a.breaker.state = .lockout) :
    a.closeBreaker e w = a.answerAll w .closeBreaker .refused := by
  unfold Act.closeBreaker
  dsimp only
  rcases h with h | h <;> rw [h]

/-! ### Move requests (R21) -/

theorem Act.moveSelector_there {y : Supply} (h : a.selector.state = .rest (.system y)) :
    a.moveSelector e y w = a.answerAll w (.moveSelector y) .done := by
  unfold Act.moveSelector
  dsimp only
  rw [h]
  exact if_pos rfl

theorem Act.moveSelector_joined {y : Supply} (h : a.selector.state = .moving y) :
    a.moveSelector e y w = { a with selector := { a.selector with waiters := a.selector.waiters ++ w } } := by
  unfold Act.moveSelector
  dsimp only
  rw [h]
  exact if_pos rfl

theorem Act.moveSelector_refused {y : Supply}
    (h : a.selector.state = .fault ∨ ∃ t, a.selector.state = .moving t ∧ t ≠ y) :
    a.moveSelector e y w = a.answerAll w (.moveSelector y) .refused := by
  unfold Act.moveSelector
  dsimp only
  rcases h with h | ⟨t, h, other⟩ <;> rw [h]
  exact if_neg other

/-- R21: a move request to a selector that is elsewhere; with every device open it is taken. -/
theorem Act.moveSelector_elsewhere {y : Supply}
    (h : a.selector.state = .unknown ∨ ∃ p, a.selector.state = .rest p ∧ p ≠ .system y) : a.moveSelector e y w =
      if a.breakerOpen && a.bothIsolatorsOpen then
        let b := { a with selector := { state := .moving y, timer := some 4000, waiters := w } }
        if Switches.get e.pins.selector (.system y) then b.travelEnds y else b
      else a.answerAll w (.moveSelector y) .refused := by
  unfold Act.moveSelector
  dsimp only
  rcases h with h | ⟨p, h, other⟩ <;> rw [h]
  exact if_neg other

end

/-- R21, R36: breaker and isolators are all open. -/
theorem Act.allOpen_iff (a : Act) : (a.breakerOpen && a.bothIsolatorsOpen) = true ↔
    (a.breaker.state = .opened ∨ a.breaker.state = .lockout) ∧ ∀ i, (a.isolators.get i).state = .opened := by
  rw [Bool.and_eq_true, Act.breakerOpen_iff, Act.bothIsolatorsOpen_iff]

/-! ### Open requests (R26, R30) -/

/-- R26: isolator `i` has its open coil driven, or is OPEN already where its contact shows so; `who` is served. -/
def Act.Driven (e : Env) (i : Slot) (who : List Requester) (b : Act) : Prop :=
  if e.pins.isolators.get i = .opened then
    (b.isolators.get i).state = .opened ∧ (b.isolators.get i).timer = none
    ∧ ∀ x ∈ who, b.Tells (.answered x (.openIsolator i) .done)
  else
    (b.isolators.get i).state = .opening true ∧ (b.isolators.get i).timer = some 300
    ∧ (b.isolators.get i).openWaiters = who

theorem Act.Driven.of_isolator {e : Env} {i : Slot} {b : Act} {r : Isolator}
    (isolator : b.isolators.get i = r.driven (e.pins.isolators.get i))
    (told : e.pins.isolators.get i = .opened → ∀ x ∈ r.openWaiters, b.Tells (.answered x (.openIsolator i) .done)) :
    b.Driven e i r.openWaiters := by
  unfold Act.Driven
  rw [isolator]
  split
  · rename_i shown
    rw [Isolator.driven_shown shown]
    exact ⟨rfl, rfl, told shown⟩
  · rename_i travels
    rw [Isolator.driven_travels travels]
    exact ⟨rfl, rfl, rfl⟩

theorem Act.driveOpen_driven (e : Env) (i : Slot) (a : Act) :
    (a.driveOpen e i).Driven e i (a.isolators.get i).openWaiters :=
  .of_isolator (by rw [Act.driveOpen_isolators, Pair.get_set, if_pos rfl]) fun shown _ m => Act.driveOpen_tells shown m

theorem Act.driveOpen_frame (e : Env) (i : Slot) (a : Act) : a.driveOpen e i =
    { a with
      isolators := a.isolators.set i ((a.isolators.get i).driven (e.pins.isolators.get i))
      inbox := (a.driveOpen e i).inbox } := by
  have breaker : (a.driveOpen e i).breaker = a.breaker := by
    unfold Act.driveOpen Act.isolatorIsOpen
    split <;> simp
  rw [← Act.driveOpen_isolators, ← breaker]
  exact (Act.Opens.refl a).driveOpen.frame

theorem Act.isolatorBreakerOpened_awaiting {a : Act} {i : Slot} (h : (a.isolators.get i).state = .opening false)
    (e : Env) : a.isolatorBreakerOpened e i = a.driveOpen e i := by
  unfold Act.isolatorBreakerOpened
  dsimp only
  rw [h]

/-- R26: an isolator that awaits the breaker is driven as it opens. -/
theorem Act.breakerReachesOpen_driven {a : Act} {i : Slot} (h : (a.isolators.get i).state = .opening false) (e : Env) :
    (a.breakerReachesOpen e).Driven e i (a.isolators.get i).openWaiters := by
  refine .of_isolator (by rw [Act.breakerReachesOpen_isolator, Isolator.uponOpening_awaiting h]) fun shown x m => ?_
  obtain ⟨b, isolators, reached⟩ : ∃ b : Act, b.isolators = a.isolators
      ∧ a.breakerReachesOpen e = (b.isolatorBreakerOpened e .zero).isolatorBreakerOpened e .one :=
    ⟨_, by simp, rfl⟩
  rw [reached]
  cases i with
  | zero =>
    refine (Act.Opens.refl _).isolatorBreakerOpened.tells _ ?_
    rw [Act.isolatorBreakerOpened_awaiting (by rw [isolators]; exact h)]
    exact Act.driveOpen_tells shown (by rw [isolators]; exact m)
  | one =>
    have same : (b.isolatorBreakerOpened e .zero).isolators.get .one = a.isolators.get .one := by
      rw [Act.isolatorBreakerOpened_isolators, isolators]
      rfl
    rw [Act.isolatorBreakerOpened_awaiting (by rw [same]; exact h)]
    exact Act.driveOpen_tells shown (by rw [same]; exact m)

/-- R26, R31: an isolator that awaits the breaker, at its forced opening. -/
theorem Act.forceOpen_awaiting {a : Act} {i : Slot} (live : BreakerState.isLive a.breaker.state = true)
    (h : (a.isolators.get i).state = .opening false) (e : Env) (n : Nat) :
    (e.pins.breakerClosed = true → (a.forceOpen e n).isolators = a.isolators)
    ∧ (e.pins.breakerClosed = false → (a.forceOpen e n).Driven e i (a.isolators.get i).openWaiters) := by
  generalize hc : (a.log .breakerForcedOpen 255 (n16 n) (n32 e.cls.confirmed.code)).push (.breakerForced n) = c
  have isolators : c.isolators = a.isolators := by simp [← hc]
  have alive : BreakerState.isLive c.breaker.state = true := by simpa [← hc] using live
  rw [Act.forceOpen_live live, hc, Act.openBreaker_live alive, ← isolators]
  dsimp only
  refine ⟨fun closed => ?_, fun opened => ?_⟩
  · rw [if_pos closed]
    simp
  · rw [if_neg (by simp [opened])]
    generalize hd : ({ c with breaker := c.breaker.opens true [] } : Act).answerAll c.breaker.closeWaiters .closeBreaker
      .failed = d
    have same : d.isolators = c.isolators := by simp [← hd]
    rw [← same]
    exact Act.breakerReachesOpen_driven (by rw [same, isolators, h]) e

section
variable {a : Act} {i : Slot} (e : Env) (w : List Requester)

theorem Act.openIsolator_opened (h : (a.isolators.get i).state = .opened) :
    a.openIsolator e i w = a.answerAll w (.openIsolator i) .done := by
  unfold Act.openIsolator
  dsimp only
  rw [h]

theorem Act.openIsolator_closing (h : (a.isolators.get i).state = .closing) : a.openIsolator e i w =
    ((a.setIsolator i { a.isolators.get i with
      closeWaiters := [], openWaiters := (a.isolators.get i).openWaiters ++ w }).answerAll
        (a.isolators.get i).closeWaiters (.closeIsolator i) .failed).driveOpen e i := by
  unfold Act.openIsolator
  dsimp only
  rw [h]

/-- R26: an isolator that awaits the breaker's opening. -/
def Isolator.awaits (who : List Requester) (r : Isolator) : Isolator :=
  { r with state := .opening false, timer := none, openWaiters := r.openWaiters ++ who }

theorem Act.openIsolator_closed (h : (a.isolators.get i).state = .closed) : a.openIsolator e i w =
    let b := a.setIsolator i ((a.isolators.get i).awaits w)
    if b.breakerOpen then b.driveOpen e i else b.forceOpen e 4 := by
  unfold Act.openIsolator
  dsimp only
  rw [h]
  rfl

theorem Act.openIsolator_opening {d : Bool} (h : (a.isolators.get i).state = .opening d) : a.openIsolator e i w =
    a.setIsolator i { a.isolators.get i with openWaiters := (a.isolators.get i).openWaiters ++ w } := by
  unfold Act.openIsolator
  dsimp only
  rw [h]

theorem Act.openIsolator_fault (h : (a.isolators.get i).state = .fault) : a.openIsolator e i w =
    if a.breakerOpen then a.answerAll w (.openIsolator i) .done
    else a.setIsolator i { a.isolators.get i with openWaiters := (a.isolators.get i).openWaiters ++ w } := by
  unfold Act.openIsolator
  dsimp only
  rw [h]

theorem Act.openBreaker_met (h : a.breaker.state = .opened ∨ a.breaker.state = .lockout) :
    a.openBreaker e w = a.answerAll w .openBreaker .done := by
  unfold Act.openBreaker
  dsimp only
  rcases h with h | h <;> rw [h]

theorem Act.openBreaker_opening (h : a.breaker.state = .opening) : a.openBreaker e w =
    { a with breaker := { a.breaker with openWaiters := a.breaker.openWaiters ++ w } } := by
  unfold Act.openBreaker
  dsimp only
  rw [h]

end

/-- R26: an open request to a CLOSING or CLOSED isolator whose coil is driven at once writes only this. -/
theorem Act.driveOpen_only (e : Env) {i : Slot} {a c : Act} {r : Isolator}
    (h : c = { a with isolators := a.isolators.set i r, inbox := c.inbox }) :
    c.driveOpen e i =
      { a with
        isolators := a.isolators.set i ((c.driveOpen e i).isolators.get i), inbox := (c.driveOpen e i).inbox } := by
  have isolator : (c.driveOpen e i).isolators.get i = (c.isolators.get i).driven (e.pins.isolators.get i) := by
    rw [Act.driveOpen_isolators, Pair.get_set, if_pos rfl]
  rw [isolator]
  refine (Act.driveOpen_frame e i c).trans ?_
  rw [h]
  simp [Pair.set_set]

/-- R26, R25: an open request to a CLOSING isolator. -/
theorem Act.openIsolator_closing_spec {a : Act} {i : Slot} (e : Env) (w : List Requester)
    (h : (a.isolators.get i).state = .closing) :
    let r := a.isolators.get i
    let b := a.openIsolator e i w
    b.Driven e i (r.openWaiters ++ w)
    ∧ b = { a with isolators := a.isolators.set i (b.isolators.get i), inbox := b.inbox }
    ∧ (b.isolators.get i).closeWaiters = []
    ∧ ∀ x ∈ r.closeWaiters, b.Tells (.answered x (.closeIsolator i) .failed) := by
  intro r b
  let x : Isolator := { r with closeWaiters := [], openWaiters := r.openWaiters ++ w }
  let c := (a.setIsolator i x).answerAll r.closeWaiters (.closeIsolator i) .failed
  have run : b = c.driveOpen e i := Act.openIsolator_closing e w h
  have answered : c = { a with isolators := a.isolators.set i x, inbox := c.inbox } := (Act.answerAll_reports ..).frame
  have isolator : c.isolators.get i = x := by
    rw [answered]
    exact (Pair.get_set ..).trans (if_pos rfl)
  rw [run]
  refine ⟨?_, Act.driveOpen_only e answered, ?_, fun y m => (Act.Opens.refl c).driveOpen.tells _ (Act.answerAll_tells _ _ _ m)⟩
  · rw [show r.openWaiters ++ w = (c.isolators.get i).openWaiters by rw [isolator]]
    exact Act.driveOpen_driven e i c
  · rw [Act.driveOpen_isolators, Pair.get_set, if_pos rfl, isolator]
    unfold Isolator.driven
    split <;> rfl

/-- R26: an open request to a CLOSED isolator, the breaker being open. -/
theorem Act.openIsolator_closed_spec {a : Act} {i : Slot} (e : Env) (w : List Requester)
    (h : (a.isolators.get i).state = .closed) (shut : a.breakerOpen = true) :
    let b := a.openIsolator e i w
    b.Driven e i ((a.isolators.get i).openWaiters ++ w)
    ∧ b = { a with isolators := a.isolators.set i (b.isolators.get i), inbox := b.inbox } := by
  intro b
  let c := a.setIsolator i ((a.isolators.get i).awaits w)
  have run : b = c.driveOpen e i := (Act.openIsolator_closed e w h).trans (if_pos shut)
  have waiters : (c.isolators.get i).openWaiters = (a.isolators.get i).openWaiters ++ w := by
    rw [Act.setIsolator_isolators, Pair.get_set, if_pos rfl]
    rfl
  rw [run, ← waiters]
  exact ⟨Act.driveOpen_driven e i c, Act.driveOpen_only (c := c) e rfl⟩

/-- R26, R31: an open request to a CLOSED isolator, the breaker not being open. -/
theorem Act.openIsolator_closed_forced {a : Act} {i : Slot} (e : Env) (w : List Requester)
    (h : (a.isolators.get i).state = .closed) (shut : a.breakerOpen = false) :
    a.openIsolator e i w = (a.setIsolator i ((a.isolators.get i).awaits w)).forceOpen e 4 :=
  (Act.openIsolator_closed e w h).trans (if_neg fun k => Bool.false_ne_true (shut.symm.trans k))

/-- R26, R31: an open request to a CLOSED isolator opens a breaker that is CLOSING or CLOSED; the isolator awaits its contact. -/
theorem Act.openIsolator_forced_spec {a : Act} {i : Slot} (e : Env) (w : List Requester)
    (h : (a.isolators.get i).state = .closed) (live : BreakerState.isLive a.breaker.state = true) :
    let b := a.openIsolator e i w
    b.logs = a.logs ++ [a.entry .breakerForcedOpen 255 4 (n32 e.cls.confirmed.code)] ∧ b.Tells (.breakerForced 4)
    ∧ (e.pins.breakerClosed = true → b.isolators = a.isolators.set i ((a.isolators.get i).awaits w)
      ∧ b.breaker.state = .opening ∧ b.breaker.timer = some 100)
    ∧ (e.pins.breakerClosed = false → b.Driven e i ((a.isolators.get i).openWaiters ++ w)
      ∧ b.breaker.state = .opened ∧ b.breaker.timer = none) := by
  intro b
  let c := a.setIsolator i ((a.isolators.get i).awaits w)
  have isolator : c.isolators.get i = (a.isolators.get i).awaits w := (Pair.get_set ..).trans (if_pos rfl)
  have run : b = c.forceOpen e 4 := Act.openIsolator_closed_forced e w h
    (Bool.eq_false_iff.mpr fun shut => absurd (Act.Settles.live_of_breakerOpen shut) (by simp [live]))
  obtain ⟨logs, told, -, breaker⟩ := Act.forceOpen_live_spec (a := c) live e 4
  obtain ⟨waits, reached⟩ := Act.forceOpen_awaiting (a := c) (i := i) live (by rw [isolator]; rfl) e 4
  rw [isolator] at reached
  rw [← run] at logs told breaker waits reached
  refine ⟨logs, told, fun contact => ⟨waits contact, ?_⟩, fun contact => ⟨reached contact, ?_⟩⟩
  · rw [breaker, contact]
    exact ⟨rfl, rfl⟩
  · rw [breaker, contact]
    exact ⟨rfl, rfl⟩

end Sys2Proof.Machine

namespace Sys2Proof.Machine

/-! ## Requests to the Lift Drive (R41, R43, R44, R45) -/

theorem Slot.other_ne (i : Slot) : i.other ≠ i := by cases i <;> decide

theorem Act.Switches.slots {a b : Act} (h : Act.Switches a b) : b.slots = a.slots := by rw [h.frame]

/-- R26: an open request writes what the Switchgear Interlock may write. -/
theorem Act.openIsolator_switches (e : Env) (i : Slot) (w : List Requester) (a : Act) :
    Act.Switches a (a.openIsolator e i w) := by
  have opens {b : Act} (h : Act.Opens a b) : Act.Switches a b := (Act.Switches.refl a).opens h
  cases h : (a.isolators.get i).state with
  | opened =>
    rw [Act.openIsolator_opened e w h]
    exact opens (Act.Opens.refl a).answerAll
  | closing =>
    rw [Act.openIsolator_closing e w h]
    exact opens (Act.Opens.refl a).setIsolator.answerAll.driveOpen
  | closed =>
    rw [Act.openIsolator_closed e w h]
    dsimp only
    split
    · exact opens (Act.Opens.refl a).setIsolator.driveOpen
    · exact (opens (Act.Opens.refl a).setIsolator).forceOpen
  | opening d =>
    rw [Act.openIsolator_opening e w h]
    exact opens (Act.Opens.refl a).setIsolator
  | fault =>
    rw [Act.openIsolator_fault e w h]
    split
    · exact opens (Act.Opens.refl a).answerAll
    · exact opens (Act.Opens.refl a).setIsolator

theorem Act.Driven.dead {e : Env} {i : Slot} {who : List Requester} {b : Act} (h : b.Driven e i who) :
    IsolatorState.isLive (b.isolators.get i).state = false := by
  unfold Act.Driven at h
  split at h <;> rw [h.1] <;> rfl

/-- R26: after an open request the isolator is not CLOSING or CLOSED. -/
theorem Act.openIsolator_dead (e : Env) (i : Slot) (w : List Requester) (a : Act) :
    IsolatorState.isLive ((a.openIsolator e i w).isolators.get i).state = false := by
  cases h : (a.isolators.get i).state with
  | opened =>
    rw [Act.openIsolator_opened e w h, Act.Settles.answerAll_isolators, h]
    rfl
  | closing =>
    rw [Act.openIsolator_closing e w h]
    exact (Act.driveOpen_driven ..).dead
  | closed =>
    rw [Act.openIsolator_closed e w h]
    dsimp only
    split
    · exact (Act.driveOpen_driven ..).dead
    · generalize hb : a.setIsolator i ((a.isolators.get i).awaits w) = b
      have awaits : (b.isolators.get i).state = .opening false := by
        rw [← hb, Act.setIsolator_isolators, Pair.get_set, if_pos rfl]
        rfl
      cases live : BreakerState.isLive b.breaker.state
      · rw [Act.forceOpen_dead live, awaits]
        rfl
      · obtain ⟨waits, driven⟩ := Act.forceOpen_awaiting live awaits e 4
        cases contact : e.pins.breakerClosed
        · exact (driven contact).dead
        · rw [waits contact, awaits]
          rfl
  | opening d =>
    rw [Act.openIsolator_opening e w h, Act.setIsolator_isolators, Pair.get_set, if_pos rfl]
    dsimp only
    rw [h]
    rfl
  | fault =>
    rw [Act.openIsolator_fault e w h]
    split
    · rw [Act.Settles.answerAll_isolators, h]
      rfl
    · rw [Act.setIsolator_isolators, Pair.get_set, if_pos rfl]
      dsimp only
      rw [h]
      rfl

/-! ### What the Lift Drive writes -/

/-- A slot but for its setpoints. -/
def SlotRec.bare (r : SlotRec) : SlotRec := { r with force := 0, pressure := 0, setProfile := none }

/-- What the Lift Drive's own operations write: slots, and reports on their way. -/
structure Act.Drives (a b : Act) : Prop where
  frame : b = { a with slots := b.slots, inbox := b.inbox }
  tells : ∀ r, a.Tells r → b.Tells r

namespace Act.Drives

variable {a b c : Act} {e : Env} {i : Slot}

theorem refl (a : Act) : Act.Drives a a := ⟨rfl, fun _ => id⟩

theorem trans (h : Act.Drives a b) (k : Act.Drives b c) : Act.Drives a c :=
  ⟨by rw [k.frame, h.frame], fun r x => k.tells r (h.tells r x)⟩

theorem reports (k : Act.Reports b c) (h : Act.Drives a b) : Act.Drives a c := h.trans ⟨by rw [k.frame], k.tells⟩

theorem slotsTo {p : Pair SlotRec} (h : Act.Drives a b) : Act.Drives a { b with slots := p } := h.trans ⟨rfl, fun _ => id⟩

theorem setSlot {r : SlotRec} (h : Act.Drives a b) : Act.Drives a (b.setSlot i r) := h.slotsTo

theorem updateSlot {f : SlotRec → SlotRec} (h : Act.Drives a b) : Act.Drives a (b.updateSlot i f) :=
  h.setSlot.reports (Act.slotChanged_reports ..)

theorem recompute (h : Act.Drives a b) : Act.Drives a (b.recompute e) := by
  unfold Act.recompute
  split
  · exact h.slotsTo
  · exact h

theorem clearDuty (h : Act.Drives a b) : Act.Drives a (b.clearDuty e i) := by
  unfold Act.clearDuty
  dsimp only
  split
  · exact h
  · exact (h.updateSlot (f := fun r => { r with duty := .idle })).recompute

theorem answerRaise {ans : Answer} (h : Act.Drives a b) : Act.Drives a (b.answerRaise i ans) := by
  unfold Act.answerRaise
  dsimp only
  split
  · exact h.setSlot.reports (Act.push_reports ..)
  · exact h

theorem answerLower {ans : Answer} (h : Act.Drives a b) : Act.Drives a (b.answerLower i ans) :=
  h.setSlot.reports (Act.answerAll_reports ..)

theorem becomesDown (h : Act.Drives a b) : Act.Drives a (b.becomesDown i) := h.updateSlot.answerLower

theorem vent (h : Act.Drives a b) : Act.Drives a (b.vent e i) := by
  unfold Act.vent
  dsimp only
  split
  · exact h.updateSlot.becomesDown
  · exact h.updateSlot

theorem isolators (h : Act.Drives a b) : b.isolators = a.isolators := by rw [h.frame]

end Act.Drives

/-! ### Slots but for their setpoints -/

/-- `b` has slot `i` as `r`, and the other as `a` has it, but for setpoints. -/
def Act.Moves (i : Slot) (r : SlotRec) (a b : Act) : Prop :=
  (b.slots.get i).bare = r.bare ∧ (b.slots.get i.other).bare = (a.slots.get i.other).bare

section
variable {a b c : Act} {i : Slot} {r : SlotRec}

theorem Act.Moves.refl (i : Slot) (a : Act) : Act.Moves i (a.slots.get i) a a := ⟨rfl, rfl⟩

theorem Act.Moves.other (h : Act.Moves i r a b) : (b.slots.get i.other).lift = (a.slots.get i.other).lift
    ∧ (b.slots.get i.other).duty = (a.slots.get i.other).duty := by
  have lift := congrArg SlotRec.lift h.2
  have duty := congrArg SlotRec.duty h.2
  exact ⟨lift, duty⟩

/-- Slot `i` is written as `f` of what it was. -/
theorem Act.Moves.setSlot {f : SlotRec → SlotRec} (bare : ∀ x, (f x).bare = (f x.bare).bare) (h : Act.Moves i r a b)
    (k : c.slots = b.slots.set i (f (b.slots.get i))) : Act.Moves i (f r) a c := by
  obtain ⟨slot, other⟩ := h
  rw [Act.Moves, k, Pair.get_set, Pair.get_set, if_pos rfl, if_neg (Slot.other_ne i), bare, slot, ← bare]
  exact ⟨rfl, other⟩

theorem Act.Moves.same (h : Act.Moves i r a b) (k : c.slots = b.slots) : Act.Moves i r a c := by
  rw [Act.Moves, k]
  exact h

theorem Act.Moves.updateSlot {f : SlotRec → SlotRec} (bare : ∀ x, (f x).bare = (f x.bare).bare) (h : Act.Moves i r a b) :
    Act.Moves i (f r) a (b.updateSlot i f) := h.setSlot bare Act.Settles.updateSlot_slots

theorem Act.Moves.recompute {e : Env} (h : Act.Moves i r a b) : Act.Moves i r a (b.recompute e) := by
  have bare (j : Slot) : ((b.recompute e).slots.get j).bare = (b.slots.get j).bare := by
    unfold Act.recompute
    split
    · cases j <;> rfl
    · rfl
  rw [Act.Moves, bare, bare]
  exact h

theorem Act.Moves.clearDuty {e : Env} (h : Act.Moves i r a b) :
    Act.Moves i { r with duty := .idle } a (b.clearDuty e i) := by
  unfold Act.clearDuty
  dsimp only
  split
  · rename_i idle
    refine h.setSlot (f := fun r => { r with duty := .idle }) (fun _ => rfl) ?_
    rw [← idle]
    exact (Pair.set_get_self ..).symm
  · exact (h.updateSlot (f := fun r => { r with duty := .idle }) fun _ => rfl).recompute

theorem Act.Moves.answerRaise {ans : Answer} (h : Act.Moves i r a b) :
    Act.Moves i { r with raiseWaiting := false } a (b.answerRaise i ans) := by
  refine h.setSlot (f := fun r => { r with raiseWaiting := false }) (fun _ => rfl) ?_
  unfold Act.answerRaise
  dsimp only
  split
  · simp
  · rename_i none
    rw [← Bool.eq_false_iff.mpr none]
    exact (Pair.set_get_self ..).symm

theorem Act.Moves.answerLower {ans : Answer} (h : Act.Moves i r a b) :
    Act.Moves i { r with lowerWaiters := [] } a (b.answerLower i ans) := by
  refine h.setSlot (f := fun r => { r with lowerWaiters := [] }) (fun _ => rfl) ?_
  unfold Act.answerLower
  dsimp only
  rw [(Act.answerAll_reports ..).frame]
  rfl

/-- R44: a slot found DOWN. -/
def SlotRec.lowered (r : SlotRec) : SlotRec := { r with lift := .down, lowerTimer := none, lowerWaiters := [] }

theorem Act.Moves.becomesDown (h : Act.Moves i r a b) : Act.Moves i r.lowered a (b.becomesDown i) :=
  Act.Moves.answerLower (h.updateSlot (f := fun r => { r with lift := .down, lowerTimer := none }) fun _ => rfl)

/-- R42: a slot found UP. -/
def SlotRec.risen (r : SlotRec) : SlotRec := { r with lift := .up, riseTimer := none, raiseWaiting := false }

theorem Act.Moves.becomesUp (h : Act.Moves i r a b) : Act.Moves i r.risen a (b.becomesUp i) :=
  Act.Moves.answerRaise (h.updateSlot (f := fun r => { r with lift := .up, riseTimer := none }) fun _ => rfl)

end

/-! ### Answers of the Lift Drive -/

section
variable {a : Act} {i : Slot}

theorem Act.answerRaise_tells (h : (a.slots.get i).raiseWaiting = true) (ans : Answer) :
    (a.answerRaise i ans).Tells (.raiseAnswered i ans) := by
  unfold Act.answerRaise
  dsimp only
  rw [if_pos h]
  exact Act.push_tells ..

theorem Act.becomesUp_tells (h : (a.slots.get i).raiseWaiting = true) :
    (a.becomesUp i).Tells (.raiseAnswered i .done) :=
  Act.answerRaise_tells (by rw [Act.Settles.updateSlot_slots, Pair.get_set, if_pos rfl]; exact h) .done

theorem Act.becomesDown_tells {y : Requester} (m : y ∈ (a.slots.get i).lowerWaiters) :
    (a.becomesDown i).Tells (.answered y (.lower i) .done) := by
  refine Act.answerAll_tells _ _ _ ?_
  rw [Act.Settles.updateSlot_slots, Pair.get_set, if_pos rfl]
  exact m

end

/-! ### Lowering (R43, R44) -/

section
variable {a : Act} {i : Slot} {e : Env}

/-- R43: the valve is vented, and the down switch does not show closed yet. -/
theorem Act.vent_travels (h : e.pins.down.get i = false) (a : Act) :
    a.vent e i = a.updateSlot i fun r => { r with lift := .lowering .venting, lowerTimer := some 8000 } :=
  if_neg (by simp [h])

/-- R40, R44: a down switch that shows closed is read at once. -/
theorem Act.vent_housed (h : e.pins.down.get i = true) (a : Act) : a.vent e i =
    (a.updateSlot i fun r => { r with lift := .lowering .venting, lowerTimer := some 8000 }).becomesDown i := if_pos h

theorem Act.Moves.vent_travels {b : Act} {r : SlotRec} (h : e.pins.down.get i = false) (k : Act.Moves i r a b) :
    Act.Moves i { r with lift := .lowering .venting, lowerTimer := some 8000 } a (b.vent e i) := by
  rw [Act.vent_travels h]
  exact k.updateSlot (f := fun r => { r with lift := .lowering .venting, lowerTimer := some 8000 }) fun _ => rfl

theorem Act.Moves.vent_housed {b : Act} {r : SlotRec} (h : e.pins.down.get i = true) (k : Act.Moves i r a b) :
    Act.Moves i r.lowered a (b.vent e i) := by
  rw [Act.vent_housed h]
  exact (k.updateSlot (f := fun r => { r with lift := .lowering .venting, lowerTimer := some 8000 }) fun _ => rfl).becomesDown

theorem Act.vent_tells (h : e.pins.down.get i = true) {y : Requester} (m : y ∈ (a.slots.get i).lowerWaiters) :
    (a.vent e i).Tells (.answered y (.lower i) .done) := by
  rw [Act.vent_housed h]
  exact Act.becomesDown_tells (by rw [Act.Settles.updateSlot_slots, Pair.get_set, if_pos rfl]; exact m)

/-- R43: a slot that a lower request brings down, before its phase. -/
def SlotRec.goesDown (w : List Requester) (r : SlotRec) : SlotRec :=
  { r with duty := .idle, riseTimer := none, raiseWaiting := false, lowerWaiters := r.lowerWaiters ++ w }

/-- R43: a lower request taken, before the isolator decides on the phase. -/
def Act.beginDown (e : Env) (i : Slot) (w : List Requester) (a : Act) : Act :=
  ((a.clearDuty e i).answerRaise i .failed).updateSlot i fun r =>
    { r with riseTimer := none, lowerWaiters := r.lowerWaiters ++ w }

theorem Act.beginDown_drives (e : Env) (i : Slot) (w : List Requester) (a : Act) : Act.Drives a (a.beginDown e i w) :=
  (Act.Drives.refl a).clearDuty.answerRaise.updateSlot

theorem Act.beginDown_moves (e : Env) (i : Slot) (w : List Requester) (a : Act) :
    Act.Moves i ((a.slots.get i).goesDown w) a (a.beginDown e i w) :=
  (Act.Moves.refl i a).clearDuty.answerRaise.updateSlot
    (f := fun r => { r with riseTimer := none, lowerWaiters := r.lowerWaiters ++ w }) fun _ => rfl

/-- R43: the raise that the lower request ends. -/
theorem Act.beginDown_tells (h : (a.slots.get i).raiseWaiting = true) (e : Env) (w : List Requester) :
    (a.beginDown e i w).Tells (.raiseAnswered i .failed) := by
  refine (Act.Drives.refl _).updateSlot.tells _ (Act.answerRaise_tells ?_ .failed)
  obtain ⟨slot, -⟩ := (Act.Moves.refl i a).clearDuty (e := e)
  exact (congrArg SlotRec.raiseWaiting slot).trans h

theorem Act.startDown_eq (e : Env) (i : Slot) (w : List Requester) (a : Act) : a.startDown e i w =
    if (a.isolators.get i).state = .opened then (a.beginDown e i w).vent e i
    else ((a.beginDown e i w).updateSlot i fun r => { r with lift := .lowering .awaitingIsolator }).openIsolator e i
      [.lift i] := by
  rw [← (a.beginDown_drives e i w).isolators]
  rfl

/-- R43: a lower request with the isolator open. -/
theorem Act.startDown_opened (h : (a.isolators.get i).state = .opened) (e : Env) (w : List Requester) :
    a.startDown e i w = (a.beginDown e i w).vent e i := (a.startDown_eq e i w).trans (if_pos h)

theorem Act.startDown_travels (h : (a.isolators.get i).state = .opened) (travels : e.pins.down.get i = false)
    (w : List Requester) :
    Act.Moves i { (a.slots.get i).goesDown w with lift := .lowering .venting, lowerTimer := some 8000 } a
      (a.startDown e i w) := by
  rw [Act.startDown_opened h]
  exact (a.beginDown_moves e i w).vent_travels travels

theorem Act.startDown_housed (h : (a.isolators.get i).state = .opened) (housed : e.pins.down.get i = true)
    (w : List Requester) :
    Act.Moves i ((a.slots.get i).goesDown w).lowered a (a.startDown e i w)
    ∧ ∀ y ∈ (a.slots.get i).lowerWaiters ++ w, (a.startDown e i w).Tells (.answered y (.lower i) .done) := by
  have begins := a.beginDown_moves e i w
  have waiters : ((a.beginDown e i w).slots.get i).lowerWaiters = (a.slots.get i).lowerWaiters ++ w :=
    congrArg SlotRec.lowerWaiters begins.1
  rw [Act.startDown_opened h]
  exact ⟨begins.vent_housed housed, fun y m => Act.vent_tells housed (waiters ▸ m)⟩

/-- R43: a lower request that the isolator delays. -/
theorem Act.startDown_awaits (h : (a.isolators.get i).state ≠ .opened) (e : Env) (w : List Requester) :
    Act.Moves i { (a.slots.get i).goesDown w with lift := .lowering .awaitingIsolator } a (a.startDown e i w)
    ∧ IsolatorState.isLive ((a.startDown e i w).isolators.get i).state = false := by
  rw [Act.startDown_eq, if_neg h]
  exact ⟨((a.beginDown_moves e i w).updateSlot (f := fun r => { r with lift := .lowering .awaitingIsolator })
    fun _ => rfl).same (Act.openIsolator_switches ..).slots, Act.openIsolator_dead ..⟩

theorem Act.startDown_tells (h : (a.slots.get i).raiseWaiting = true) (e : Env) (w : List Requester) :
    (a.startDown e i w).Tells (.raiseAnswered i .failed) := by
  have told := Act.beginDown_tells h e w
  rw [Act.startDown_eq]
  split
  · exact (Act.Drives.refl _).vent.tells _ told
  · exact (Act.openIsolator_switches ..).tells _ ((Act.Drives.refl _).updateSlot.tells _ told)

/-- R43: in each phase the slot has lost its duty and its raise, and nothing else of it. -/
theorem Act.startDown_moves (e : Env) (i : Slot) (w : List Requester) (a : Act) : ∃ x,
    Act.Moves i x a (a.startDown e i w) ∧ x.locked = (a.slots.get i).locked ∧ x.latch = (a.slots.get i).latch
    ∧ x.duty = .idle ∧ x.riseTimer = none ∧ x.raiseWaiting = false := by
  by_cases opened : (a.isolators.get i).state = .opened
  · cases down : e.pins.down.get i
    · exact ⟨_, Act.startDown_travels opened down w, rfl, rfl, rfl, rfl, rfl⟩
    · exact ⟨_, (Act.startDown_housed opened down w).1, rfl, rfl, rfl, rfl, rfl⟩
  · exact ⟨_, (Act.startDown_awaits opened e w).1, rfl, rfl, rfl, rfl, rfl⟩

theorem Act.lower_met (h : (a.slots.get i).lift = .down ∨ (a.slots.get i).lift = .dropped) (e : Env)
    (w : List Requester) : a.lower e i w = a.answerAll w (.lower i) .done := by
  unfold Act.lower
  dsimp only
  rcases h with h | h <;> rw [h]

theorem Act.lower_joined {p : LoweringPhase} (h : (a.slots.get i).lift = .lowering p) (e : Env) (w : List Requester) :
    a.lower e i w =
      a.setSlot i { a.slots.get i with lowerWaiters := (a.slots.get i).lowerWaiters ++ w } := by
  unfold Act.lower
  dsimp only
  rw [h]

theorem Act.lower_raised (h : (a.slots.get i).Raised) (e : Env) (w : List Requester) :
    a.lower e i w = a.startDown e i w := by
  unfold Act.lower
  dsimp only
  rcases h with h | h <;> rw [h]

/-- R44: the isolator's DONE is of use to a slot that awaits it. -/
theorem Act.handle_liftDone (e : Env) (i : Slot) (a : Act) :
    Act.handle e (.answered (.lift i) (.openIsolator i) .done) a =
      if (a.slots.get i).lift = .lowering .awaitingIsolator then a.vent e i else a := rfl

end

/-! ### Raising (R41, R45) -/

/-- R45: a slot after its drop. -/
def SlotRec.dropped (r : SlotRec) : SlotRec :=
  { r with
    lift := .dropped, duty := .idle, latch := true, riseTimer := none, lowerTimer := none, raiseWaiting := false
    lowerWaiters := [] }

/-- R45: the devices are commanded open, the breaker first. -/
def Act.dropOpens (e : Env) (i : Slot) (a : Act) : Act :=
  let b := a.setSlot i { a.slots.get i with riseTimer := none, lowerTimer := none }
  (if (a.slots.get i).duty = .collect then b.openBreaker e [] else b).openIsolator e i []

/-- R45: then the slot is without duty, latched and DROPPED. -/
def Act.dropEnds (e : Env) (i : Slot) (a : Act) : Act :=
  (((a.dropOpens e i).clearDuty e i).updateSlot i fun r => { r with latch := true, lift := .dropped }).answerRaise i
    .failed

theorem Act.drop_eq (e : Env) (i : Slot) (a : Act) : a.drop e i =
    (((a.dropEnds e i).answerLower i .done).log .slotDropped i.code (n16 (a.slots.get i).duty.code)
      (n32 (a.slots.get i).lift.toCode.code)).alert .dropped (some i) := rfl

theorem Act.dropOpens_moves (e : Env) (i : Slot) (a : Act) :
    Act.Moves i { a.slots.get i with riseTimer := none, lowerTimer := none } a (a.dropOpens e i) := by
  have timers : Act.Moves i { a.slots.get i with riseTimer := none, lowerTimer := none } a
      (a.setSlot i { a.slots.get i with riseTimer := none, lowerTimer := none }) :=
    (Act.Moves.refl i a).setSlot (f := fun r => { r with riseTimer := none, lowerTimer := none }) (fun _ => rfl) rfl
  refine Act.Moves.same ?_ (Act.openIsolator_switches ..).slots
  split
  · exact timers.same ((Act.Switches.refl _).opens (Act.Opens.refl _).openBreaker).slots
  · exact timers

theorem Act.drop_moves (e : Env) (i : Slot) (a : Act) : Act.Moves i (a.slots.get i).dropped a (a.drop e i) := by
  have ends := (((a.dropOpens_moves e i).clearDuty (e := e)).updateSlot
    (f := fun r => { r with latch := true, lift := .dropped }) fun _ => rfl).answerRaise (ans := .failed)
  exact (ends.answerLower (ans := .done)).same (Act.Switches.refl _).log.alert.slots

/-- R45: a raise that the drop ends. -/
theorem Act.drop_tells {a : Act} {i : Slot} (h : (a.slots.get i).raiseWaiting = true) (e : Env) :
    (a.drop e i).Tells (.raiseAnswered i .failed) := by
  obtain ⟨slot, -⟩ := ((a.dropOpens_moves e i).clearDuty (e := e)).updateSlot
    (f := fun r => { r with latch := true, lift := .dropped }) fun _ => rfl
  have told : (a.dropEnds e i).Tells (.raiseAnswered i .failed) :=
    Act.answerRaise_tells ((congrArg SlotRec.raiseWaiting slot).trans h) .failed
  rw [Act.drop_eq]
  exact (Act.Switches.refl _).log.alert.tells _ ((Act.Drives.refl _).answerLower.tells _ told)

/-- R41: a slot that a raise request sets in motion. -/
def SlotRec.rises (d : Duty) (r : SlotRec) : SlotRec :=
  { r with duty := d, lift := .rising, riseTimer := some 10000, raiseWaiting := true }

/-- R41: the start of a raise that is taken. -/
def Act.startRaise (e : Env) (i : Slot) (d : Duty) (a : Act) : Act := (a.updateSlot i (·.rises d)).recompute e

section
variable {a : Act} {i : Slot}

theorem Act.raise_refused
    (h : ¬ ((a.slots.get i).lift = .down ∧ (a.slots.get i).locked = false ∧ (a.slots.get i).latch = false)) (e : Env)
    (d : Duty) : a.raise e i d = a.push (.raiseAnswered i .refused) := if_neg (by simpa using h)

theorem Act.raise_taken
    (h : (a.slots.get i).lift = .down ∧ (a.slots.get i).locked = false ∧ (a.slots.get i).latch = false) (e : Env)
    (d : Duty) : a.raise e i d =
      if e.pins.add.get i then (a.startRaise e i d).drop e i
      else if e.pins.up.get i then (a.startRaise e i d).becomesUp i else a.startRaise e i d := if_pos (by simpa using h)

end

theorem Act.startRaise_drives (e : Env) (i : Slot) (d : Duty) (a : Act) : Act.Drives a (a.startRaise e i d) :=
  (Act.Drives.refl a).updateSlot.recompute

theorem Act.startRaise_moves (e : Env) (i : Slot) (d : Duty) (a : Act) :
    Act.Moves i ((a.slots.get i).rises d) a (a.startRaise e i d) :=
  ((Act.Moves.refl i a).updateSlot (f := (·.rises d)) fun _ => rfl).recompute

/-- R52: under an active profile the setpoints are those of R51. -/
theorem Act.recompute_slots {e : Env} {a : Act} {y : Supply} {p : Profile} (profile : a.bids.profile = some y)
    (active : a.active e = some p) (i : Slot) : (a.recompute e).slots.get i =
      (a.slots.get i).compute y p (e.pv.geometry.speed / 10) a.ice.level := by
  unfold Act.recompute
  rw [profile, active]
  cases i <;> rfl

theorem Act.startRaise_computed {e : Env} {a : Act} {y : Supply} {p : Profile} (profile : a.bids.profile = some y)
    (active : a.active e = some p) (i : Slot) (d : Duty) : (a.startRaise e i d).slots.get i =
      ((a.slots.get i).rises d).compute y p (e.pv.geometry.speed / 10) a.ice.level := by
  have starts : Act.Drives a (a.updateSlot i (·.rises d)) := (Act.Drives.refl a).updateSlot
  have bids : (a.updateSlot i (·.rises d)).bids = a.bids := by rw [starts.frame]
  have level : (a.updateSlot i (·.rises d)).ice = a.ice := by rw [starts.frame]
  unfold Act.startRaise
  rw [Act.recompute_slots (by rw [bids]; exact profile) (by unfold Act.active; rw [bids]; exact active), level,
    Act.Settles.updateSlot_slots, Pair.get_set, if_pos rfl]

theorem Act.startRaise_kept {e : Env} {a : Act} (inactive : a.active e = none) (i : Slot) (d : Duty) :
    (a.startRaise e i d).slots.get i = (a.slots.get i).rises d := by
  have starts : Act.Drives a (a.updateSlot i (·.rises d)) := (Act.Drives.refl a).updateSlot
  have bids : (a.updateSlot i (·.rises d)).bids = a.bids := by rw [starts.frame]
  unfold Act.startRaise
  rw [Act.recompute_inactive (by unfold Act.active; rw [bids]; exact inactive), Act.Settles.updateSlot_slots,
    Pair.get_set, if_pos rfl]

end Sys2Proof.Machine

namespace Sys2Proof.Machine

/-! ## Requests at the event of their arrival -/

/-- Settles O18. -/
theorem closeRequests : Obligations.CloseRequests := by
  refine ⟨fun e a w => ?_, fun e a w => ?_, fun e a i => ?_⟩
  · intro answers
    refine ⟨fun i opened => ⟨fun ok => ?_, fun refused => ?_⟩, fun opened => ⟨fun ok => ?_, fun refused => ?_⟩,
      fun i => ⟨fun closing => Act.closeIsolator_closing w closing,
        fun closed => Act.answered_only (Act.closeIsolator_closed w closed),
        fun stands => Act.answered_only (Act.closeIsolator_refused w stands)⟩,
      fun closing => Act.closeBreaker_closing w closing,
      fun closed => Act.answered_only (Act.closeBreaker_closed w closed),
      fun stands => Act.answered_only (Act.closeBreaker_refused w stands), fun y => ?_⟩
    · rw [Act.closeIsolator_opened w opened, if_pos ((Act.mayCloseIsolator_iff i a).mpr ok), Act.setIsolator_isolators,
        Pair.get_set, if_pos rfl]
      exact ⟨rfl, rfl⟩
    · have refusal := Act.answered_only ((Act.closeIsolator_opened w opened).trans
        (if_neg (mt (Act.mayCloseIsolator_iff i a).mp refused)))
      exact ⟨refusal.1, refusal⟩
    · rw [Act.closeBreaker_opened w opened, if_pos ((Act.mayCloseBreaker_iff e a).mpr ok)]
      exact ⟨rfl, rfl⟩
    · have refusal := Act.answered_only ((Act.closeBreaker_opened w opened).trans
        (if_neg (mt (Act.mayCloseBreaker_iff e a).mp refused)))
      exact ⟨refusal.1, refusal⟩
    · intro b clear elsewhere
      refine ⟨fun there => Act.answered_only (Act.moveSelector_there w there),
        fun moving => Act.moveSelector_joined w moving,
        fun refused => Act.answered_only (Act.moveSelector_refused w refused), fun away barred => ?_,
        fun away free travels => ?_, fun away free shown => ?_⟩
      · exact Act.answered_only ((Act.moveSelector_elsewhere w away).trans (if_neg (mt a.allOpen_iff.mp barred)))
      · exact (Act.moveSelector_elsewhere w away).trans
          ((if_pos (a.allOpen_iff.mpr free)).trans (if_neg (by simp [travels])))
      · have arrives : b = Act.travelEnds y { a with selector := { state := .moving y, timer := some 4000, waiters := w } } :=
          (Act.moveSelector_elsewhere w away).trans ((if_pos (a.allOpen_iff.mpr free)).trans (if_pos shown))
        rw [arrives]
        exact Act.travelEnds_spec y _
  · intro answers
    refine ⟨fun i => ?_, ?_, ?_⟩
    · intro r b breakerOpen driven awaits only
      refine ⟨fun opened => Act.answered_only (Act.openIsolator_opened e w opened), fun closing => ?_,
        fun closed shut => ?_, fun closed live => ?_, fun closed opening => ?_,
        fun d opening => Act.openIsolator_opening e w opening,
        fun fault shut => Act.answered_only ((Act.openIsolator_fault e w fault).trans
          (if_pos (a.breakerOpen_iff.mpr shut))),
        fun fault live => (Act.openIsolator_fault e w fault).trans (if_neg (mt a.breakerOpen_iff.mp live))⟩
      · exact Act.openIsolator_closing_spec e w closing
      · exact Act.openIsolator_closed_spec e w closed (a.breakerOpen_iff.mpr shut)
      · exact Act.openIsolator_forced_spec e w closed live
      · have dead : BreakerState.isLive a.breaker.state = false := by rw [opening]; rfl
        have shut : a.breakerOpen = false := by unfold Act.breakerOpen; rw [opening]; rfl
        exact (Act.openIsolator_closed_forced e w closed shut).trans (Act.forceOpen_dead (a := a.setIsolator i awaits) dead e 4)
    · intro b k
      refine ⟨fun met => Act.answered_only (Act.openBreaker_met e w met), fun opening => Act.openBreaker_opening e w opening,
        fun live => ?_⟩
      replace live : BreakerState.isLive k.state = true := (BreakerState.isLive_iff _).mpr live
      obtain ⟨failed, done⟩ := Act.openBreaker_live_tells live e w
      refine ⟨failed, fun shut => ?_, fun contact => ⟨?_, done contact⟩⟩
      · have run : b = ({ a with breaker := k.opens true w } : Act).answerAll k.closeWaiters .closeBreaker .failed :=
          (Act.openBreaker_live live e w).trans (if_pos shut)
        rw [run]
        exact (Act.answerAll_reports ..).frame
      · exact (Act.openBreaker_live_breaker live e w).trans (by rw [contact]; rfl)
    · intro b dead
      have taken_iff : (a.test.running || (a.breakerOpen && a.bothIsolatorsOpen)) = true ↔ a.test.running = true ∨ dead := by
        rw [Bool.or_eq_true, Act.allOpen_iff]
      refine ⟨fun taken => if_pos (taken_iff.mpr taken), fun idle live => ?_⟩
      have run : b = a.finishTest .invalid 0 0 w :=
        if_neg (mt taken_iff.mp (not_or.mpr ⟨by simp [idle], live⟩))
      rw [run]
      exact Act.finishTest_spec .invalid 0 0 w a
  · intro r
    refine ⟨fun d => ?_, fun w => ?_, ?_⟩
    · intro b free rising
      have taken (ok : free) : b = if e.pins.add.get i then (a.startRaise e i d).drop e i
          else if e.pins.up.get i then (a.startRaise e i d).becomesUp i else a.startRaise e i d := Act.raise_taken ok e d
      have moves := a.startRaise_moves e i d
      have waiting : ((a.startRaise e i d).slots.get i).raiseWaiting = true := congrArg SlotRec.raiseWaiting moves.1
      refine ⟨fun refused => ?_, fun ok add up => ?_, fun ok add up => ?_, fun ok add => ?_⟩
      · have run : b = a.push (.raiseAnswered i .refused) := Act.raise_refused refused e d
        rw [run]
        exact ⟨(Act.push_reports ..).frame, Act.push_tells ..⟩
      · rw [taken ok, if_neg (by simp [add]), if_neg (by simp [up])]
        exact ⟨fun y p profile active => Act.startRaise_computed profile active i d,
          fun inactive => Act.startRaise_kept inactive i d, (a.startRaise_drives e i d).frame, moves.other⟩
      · rw [taken ok, if_neg (by simp [add]), if_pos up]
        obtain ⟨slot, -⟩ := moves.becomesUp
        exact ⟨congrArg SlotRec.lift slot, congrArg SlotRec.duty slot, congrArg SlotRec.riseTimer slot,
          Act.becomesUp_tells waiting⟩
      · rw [taken ok, if_pos add]
        obtain ⟨slot, -⟩ := (a.startRaise e i d).drop_moves e i
        exact ⟨congrArg SlotRec.lift slot, congrArg SlotRec.duty slot, congrArg SlotRec.latch slot,
          congrArg SlotRec.riseTimer slot, Act.drop_tells waiting e⟩
    · intro b x same
      refine ⟨fun met => Act.answered_only (Act.lower_met met e w), fun p lowering => Act.lower_joined lowering e w,
        fun raised => ?_⟩
      have run : b = a.startDown e i w := Act.lower_raised raised e w
      obtain ⟨z, moves, locked, latch, duty, timer, waiting⟩ := a.startDown_moves e i w
      have slot := moves.1
      simp only [x, same, run]
      refine ⟨⟨(congrArg SlotRec.locked slot).trans locked, (congrArg SlotRec.latch slot).trans latch,
          moves.other⟩, (congrArg SlotRec.duty slot).trans duty,
        (congrArg SlotRec.riseTimer slot).trans timer, (congrArg SlotRec.raiseWaiting slot).trans waiting,
        fun raising => Act.startDown_tells raising e w, fun opened travels => ?_, fun opened housed => ?_,
        fun shut => ?_⟩
      · obtain ⟨vents, -⟩ := Act.startDown_travels opened travels w
        exact ⟨congrArg SlotRec.lift vents, congrArg SlotRec.lowerTimer vents, congrArg SlotRec.lowerWaiters vents⟩
      · obtain ⟨⟨arrives, -⟩, told⟩ := Act.startDown_housed opened housed w
        exact ⟨congrArg SlotRec.lift arrives, congrArg SlotRec.lowerTimer arrives, told⟩
      · obtain ⟨⟨awaits, -⟩, dead⟩ := Act.startDown_awaits shut e w
        exact ⟨congrArg SlotRec.lift awaits, congrArg SlotRec.lowerWaiters awaits, dead⟩
    · intro b
      have done : b = if r.lift = .lowering .awaitingIsolator then a.vent e i else a := Act.handle_liftDone e i a
      refine ⟨fun elsewhere => done.trans (if_neg elsewhere), fun awaits travels => ?_, fun awaits housed => ?_⟩
      · rw [done, if_pos awaits, Act.vent_travels travels]
        refine (Act.Drives.refl a).updateSlot.frame.trans ?_
        rw [Act.Settles.updateSlot_slots]
      · obtain ⟨arrives, -⟩ := (Act.Moves.refl i a).vent_housed housed
        rw [done, if_pos awaits]
        exact ⟨congrArg SlotRec.lift arrives, congrArg SlotRec.lowerTimer arrives, fun y m => Act.vent_tells housed m⟩

end Sys2Proof.Machine

namespace Sys2Proof.Machine

/-! ## Lift Drive: what every step keeps, and the setpoints (R39, R41 to R47, R51) -/

/-- Settles O26. -/
theorem slotSafetyKept : Obligations.SlotSafetyKept := fun _ _ i h => (step_keeps h).slots i

section
variable {low high : Nat}

theorem clamp_eq (h : low ≤ high) (x : Nat) :
    clamp low high x = if x < low then low else if high < x then high else x := by
  unfold clamp
  split_ifs <;> omega

theorem le_clamp (h : low ≤ high) (x : Nat) : low ≤ clamp low high x := by
  unfold clamp
  omega

theorem clamp_le (low high x : Nat) : clamp low high x ≤ high := Nat.min_le_left _ _

end

/-- R51, step 2: of the four levels, MODERATE and SEVERE add a tenth. -/
theorem iceLevel_adds {ice : Nat} (h : ice ≤ 3) : 2 ≤ ice ↔ ice = 2 ∨ ice = 3 := by omega

/-- Settles O22. -/
theorem forceComputer : Obligations.ForceComputer := by
  intro y p v ice r f1 f2 f3 f4 level range
  have force : forceOf p v ice (decide (r.duty = .scrape)) = f4 := by
    have added : (if 2 ≤ ice then f1 * 11 / 10 else f1) = f2 := if_congr (iceLevel_adds level) rfl rfl
    have scraped : (if decide (r.duty = .scrape) = true then f2 + p.scrapeAdd else f2) = f3 :=
      if_congr (by rw [decide_eq_true_eq]) rfl rfl
    unfold forceOf
    dsimp only
    rw [added, scraped, clamp_eq range]
  refine ⟨?_, le_clamp range _, clamp_le .., Nat.min_le_left _ _⟩
  unfold SlotRec.compute pressureOf
  dsimp only
  rw [force]

end Sys2Proof.Machine

namespace Sys2Proof.Machine

/-! ## Orders: PREFER, UNLOCK, LOCK (R47, R48, R50) -/

/-- R169: no record stands that the frame would disarm. -/
theorem State.Unarmed.reportArming {s : State} (h : s.Unarmed) (dst src : Nat) : s.reportArming dst src = s := by
  obtain ⟨x, es, framed, -, calm⟩ := s.act.armingFrame_frame dst src
  obtain ⟨rfl, rfl⟩ := calm h
  unfold State.reportArming State.onAct
  dsimp only
  rw [framed, List.append_nil]

/-- R84: an unarmed station obeys an admitted order as it stands. -/
theorem State.receive_obeys {s : State} {own : Nat} {v : Verb} {dst src : Byte} (h : s.Admits own v dst src)
    (plain : v ≠ .resetArm ∧ v ≠ .reset) (unarmed : s.Unarmed) (mask : Byte) (arg : Half) (t : Int) :
    s.receive dst src (.order v mask arg) t = s.obey dst.toNat src.toNat v mask := by
  rw [State.receive_order h plain, unarmed.reportArming]

/-! ### PREFER (R50) -/

theorem preferredAfter_eq (mask : Byte) (old : Option Slot) : preferredAfter mask old =
    if maskNames mask .zero = true ∧ maskNames mask .one = false then some .zero
    else if maskNames mask .zero = false ∧ maskNames mask .one = true then some .one
    else if maskNames mask .zero = false ∧ maskNames mask .one = false then none
    else old := by
  unfold preferredAfter
  cases maskNames mask .zero <;> cases maskNames mask .one <;> rfl

theorem Act.preferOrder_same {src : Nat} {mask : Byte} {a : Act} (h : preferredAfter mask a.preferred = a.preferred) :
    a.preferOrder src mask = a := if_pos h

/-- R50, R46: a preference that changes is recorded and reported. -/
theorem Act.preferOrder_changed {src : Nat} {mask : Byte} {a : Act} (h : preferredAfter mask a.preferred ≠ a.preferred) :
    a.preferOrder src mask =
      (({ a with preferred := preferredAfter mask a.preferred }).log .preferredSlot 255
        (n16 (optSlotCode (preferredAfter mask a.preferred))) (n32 src)).push .preferredChanged := if_neg h

/-- What R50 makes of the part. -/
theorem Act.preferOrder_frame (src : Nat) (mask : Byte) (a : Act) :
    a.preferOrder src mask =
      { a with
        preferred := preferredAfter mask a.preferred, inbox := (a.preferOrder src mask).inbox
        logs := a.logs ++
          if preferredAfter mask a.preferred = a.preferred then []
          else [a.entry .preferredSlot 255 (n16 (optSlotCode (preferredAfter mask a.preferred))) (n32 src)] } := by
  by_cases same : preferredAfter mask a.preferred = a.preferred
  · rw [Act.preferOrder_same same, if_pos same, List.append_nil, same]
  · rw [if_neg same, Act.preferOrder_changed same]
    exact (Act.push_reports ..).frame

/-- Settles O25. -/
theorem preferOrder : Obligations.PreferOrder := by
  intro s own dst src mask arg admitted unarmed new
  have after : preferredAfter mask s.act.preferred = new := preferredAfter_eq mask s.act.preferred
  have received := State.receive_obeys admitted ⟨nofun, nofun⟩ unarmed mask arg s.env.pins.temperature
  have frame := s.act.preferOrder_frame src.toNat mask
  rw [after] at frame
  let b : State := { s with act := s.act.preferOrder src.toNat mask }
  refine ⟨b, congrArg (fun t => Host.Outcome.next (State.finish t)) received,
    congrArg (fun a => { s with act := a }) frame, fun changed => ?_, ?_⟩
  · rw [← after] at changed
    show Act.Tells _ (s.act.preferOrder src.toNat mask)
    rw [Act.preferOrder_changed changed]
    exact Act.push_tells ..
  · obtain ⟨c, settled, finished⟩ := b.finish_settles
    rw [finished]
    exact settled.preferred.trans (congrArg Act.preferred frame)

end Sys2Proof.Machine

namespace Sys2Proof.Machine

/-! ## Lift Drive and Switchgear Interlock together (R26, R31, R43)

What an open request of the Lift Drive makes of breaker and records, and with it what a lower request writes. -/

/-! ### An open request to an isolator (R26, R31) -/

/-- R31, reason 4: an open request to isolator `i` forces the breaker open. -/
def Act.Forces (i : Slot) (a : Act) : Prop :=
  BreakerState.isLive a.breaker.state = true ∧ (a.isolators.get i).state = .closed

section
variable {a : Act} {i : Slot} (e : Env) (w : List Requester)

theorem Act.breakerOpen_of_dead (h : BreakerState.isLive a.breaker.state = false) :
    a.breakerOpen = true ∨ a.breaker.state = .opening := by
  unfold Act.breakerOpen
  cases b : a.breaker.state <;> simp_all [BreakerState.isLive, BreakerState.isOpen]

theorem Act.openIsolator_forces (h : a.Forces i) :
    a.openIsolator e i w = (a.setIsolator i ((a.isolators.get i).awaits w)).forceOpen e 4 :=
  Act.openIsolator_closed_forced e w h.2
    (Bool.eq_false_iff.mpr fun shut => absurd (Act.Settles.live_of_breakerOpen shut) (by simp [h.1]))

theorem Act.driveOpen_breaker (e : Env) (i : Slot) (a : Act) : (a.driveOpen e i).breaker = a.breaker := by
  rw [Act.driveOpen_frame]

/-- R26: any other open request opens the isolator only. -/
theorem Act.openIsolator_plain (h : ¬ a.Forces i) :
    Act.Opens a (a.openIsolator e i w) ∧ (a.openIsolator e i w).breaker = a.breaker := by
  cases k : (a.isolators.get i).state with
  | opened =>
    rw [Act.openIsolator_opened e w k]
    exact ⟨(Act.Opens.refl a).answerAll, Act.Settles.answerAll_breaker⟩
  | closing =>
    rw [Act.openIsolator_closing e w k]
    refine ⟨(Act.Opens.refl a).setIsolator.answerAll.driveOpen, ?_⟩
    rw [Act.driveOpen_breaker, Act.Settles.answerAll_breaker, Act.setIsolator_breaker]
  | closed =>
    rw [Act.openIsolator_closed e w k]
    dsimp only
    split
    · exact ⟨(Act.Opens.refl a).setIsolator.driveOpen, Act.driveOpen_breaker ..⟩
    · rw [Act.forceOpen_dead (a := a.setIsolator i _) (Bool.eq_false_iff.mpr fun live => h ⟨live, k⟩)]
      exact ⟨(Act.Opens.refl a).setIsolator, rfl⟩
  | opening d =>
    rw [Act.openIsolator_opening e w k]
    exact ⟨(Act.Opens.refl a).setIsolator, rfl⟩
  | fault =>
    rw [Act.openIsolator_fault e w k]
    split
    · exact ⟨(Act.Opens.refl a).answerAll, Act.Settles.answerAll_breaker⟩
    · exact ⟨(Act.Opens.refl a).setIsolator, rfl⟩

/-- R31: BREAKER_FORCED_OPEN where the request forces the breaker open, and no other record. -/
theorem Act.openIsolator_logs :
    (a.Forces i → (a.openIsolator e i w).logs =
      a.logs ++ [a.entry .breakerForcedOpen 255 4 (n32 e.cls.confirmed.code)])
    ∧ (¬ a.Forces i → (a.openIsolator e i w).logs = a.logs) := by
  refine ⟨fun forces => ?_, fun plain => (Act.openIsolator_plain e w plain).1.logs⟩
  rw [Act.openIsolator_forces e w forces]
  exact (Act.forceOpen_live_spec (a := a.setIsolator i _) forces.1 e 4).1

end

/-! ### What a lower request writes (R43) -/

theorem Act.Drives.logs {a b : Act} (h : Act.Drives a b) : b.logs = a.logs := by rw [h.frame]

/-- What the Lift Drive writes together with the Switchgear Interlock: slots, devices, reports, records. -/
structure Act.Lifts (a b : Act) : Prop where
  frame : b = { a with
    slots := b.slots, selector := b.selector, breaker := b.breaker, isolators := b.isolators, link := b.link
    inbox := b.inbox, logs := b.logs }
  tells : ∀ r, a.Tells r → b.Tells r
  logs : ∃ l, b.logs = a.logs ++ l

namespace Act.Lifts

variable {a b c : Act}

theorem refl (a : Act) : Act.Lifts a a := ⟨rfl, fun _ => id, [], by simp⟩

theorem drives (k : Act.Drives b c) (h : Act.Lifts a b) : Act.Lifts a c where
  frame := by rw [k.frame, h.frame]
  tells := fun r x => k.tells r (h.tells r x)
  logs := by rw [k.frame]; exact h.logs

theorem switches (k : Act.Switches b c) (h : Act.Lifts a b) : Act.Lifts a c where
  frame := by rw [k.frame, h.frame]
  tells := fun r x => k.tells r (h.tells r x)
  logs := by
    obtain ⟨l, hl⟩ := h.logs
    obtain ⟨m, hm⟩ := k.logs
    exact ⟨l ++ m, by rw [hm, hl, List.append_assoc]⟩

theorem trans (h : Act.Lifts a b) (k : Act.Lifts b c) : Act.Lifts a c where
  frame := by rw [k.frame, h.frame]
  tells := fun r x => k.tells r (h.tells r x)
  logs := by
    obtain ⟨l, hl⟩ := h.logs
    obtain ⟨m, hm⟩ := k.logs
    exact ⟨l ++ m, by rw [hm, hl, List.append_assoc]⟩

/-- A record is the same before and after. -/
theorem entry (h : Act.Lifts a b) (k : EventCode) (x : Nat) (d : Half) (y : Word) :
    b.entry k x d y = a.entry k x d y := by rw [h.frame]; rfl

end Act.Lifts

section
variable (e : Env) (i : Slot) (w : List Requester) (a : Act)

theorem Act.startDown_lifts : Act.Lifts a (a.startDown e i w) := by
  have begins := (Act.Lifts.refl a).drives (a.beginDown_drives e i w)
  rw [Act.startDown_eq]
  split
  · exact begins.drives (Act.Drives.refl _).vent
  · exact (begins.drives (Act.Drives.refl _).updateSlot).switches (Act.openIsolator_switches ..)

/-- R43: the slot is on its way down, or housed already. -/
theorem Act.startDown_lift : ((a.startDown e i w).slots.get i).lift = .down
    ∨ ∃ p, ((a.startDown e i w).slots.get i).lift = .lowering p := by
  by_cases opened : (a.isolators.get i).state = .opened
  · cases down : e.pins.down.get i
    · exact .inr ⟨.venting, congrArg SlotRec.lift (Act.startDown_travels opened down w).1⟩
    · exact .inl (congrArg SlotRec.lift (Act.startDown_housed opened down w).1.1)
  · exact .inr ⟨.awaitingIsolator, congrArg SlotRec.lift (Act.startDown_awaits opened e w).1.1⟩

/-- R43, R31: of a lower request only the breaker's forced opening is recorded. -/
theorem Act.startDown_logs : (a.startDown e i w).logs = a.logs
    ∨ (a.startDown e i w).logs = a.logs ++ [a.entry .breakerForcedOpen 255 4 (n32 e.cls.confirmed.code)] := by
  have begins := a.beginDown_drives e i w
  rw [Act.startDown_eq]
  split
  · exact .inl begins.vent.logs
  · have awaits := begins.updateSlot (i := i) (f := fun r => { r with lift := .lowering .awaitingIsolator })
    generalize (a.beginDown e i w).updateSlot i (fun r => { r with lift := .lowering .awaitingIsolator }) = b at awaits
    have entry := ((Act.Lifts.refl a).drives awaits).entry .breakerForcedOpen 255 4 (n32 e.cls.confirmed.code)
    obtain ⟨forced, plain⟩ := Act.openIsolator_logs (a := b) (i := i) e [.lift i]
    by_cases forces : b.Forces i
    · exact .inr ((forced forces).trans (by rw [awaits.logs, entry]))
    · exact .inl ((plain forces).trans awaits.logs)

end

end Sys2Proof.Machine

namespace Sys2Proof.Machine

/-! ## Orders: UNLOCK and LOCK (R47, R48) -/

/-! ### The lock of one slot -/

/-- R47, R48: a slot after an order that brings the lock to `v`. -/
def SlotRec.relock (named v : Bool) (r : SlotRec) : SlotRec := { r with locked := if named then v else r.locked }

/-- R47, R48: a slot whose lock the order changes. -/
def SlotRec.relocked (named v : Bool) (r : SlotRec) : Bool := named && (r.locked != v)

/-- R47, R48: the lock of one slot is brought to `v`, with SLOT_LOCK where it changes. -/
def Act.writeLock (v : Bool) (src : Nat) (i : Slot) (a : Act) : Act :=
  if (a.slots.get i).locked = v then a
  else (a.updateSlot i (·.relock true v)).log .slotLock i.code (n16 (flag v)) (n32 src)

/-- R47, R48: the records of an order for one slot. -/
def Act.lockRecords (named v : Bool) (src : Nat) (i : Slot) (a : Act) : List LogEntry :=
  if (a.slots.get i).relocked named v then [a.entry .slotLock i.code (n16 (flag v)) (n32 src)] else []

/-- What the writing of a lock makes of the part, for one slot. -/
structure Act.LockWritten (named v : Bool) (src : Nat) (i : Slot) (a b : Act) : Prop where
  frame : b =
    { a with
      slots := a.slots.set i ((a.slots.get i).relock named v), inbox := b.inbox
      logs := a.logs ++ a.lockRecords named v src i }
  tells : ∀ r, a.Tells r → b.Tells r
  told : (a.slots.get i).relocked named v = true → b.Tells (.slotChanged i)

section
variable {named v : Bool} {src : Nat} {i : Slot} {a b : Act}

theorem Act.LockWritten.kept (h : (a.slots.get i).relocked named v = false) : Act.LockWritten named v src i a a := by
  have lock : (if named then v else (a.slots.get i).locked) = (a.slots.get i).locked := by
    unfold SlotRec.relocked at h
    cases named <;> simp_all
  have slot : (a.slots.get i).relock named v = a.slots.get i := by
    unfold SlotRec.relock
    rw [lock]
  have records : a.lockRecords named v src i = [] := if_neg (by simp [h])
  refine ⟨?_, fun _ => id, fun k => absurd k (by simp [h])⟩
  rw [slot, records, Pair.set_get_self, List.append_nil]

theorem Act.writeLock_written (v : Bool) (src : Nat) (i : Slot) (a : Act) :
    Act.LockWritten true v src i a (a.writeLock v src i) := by
  unfold Act.writeLock
  split
  · rename_i stands
    exact .kept (by simp [SlotRec.relocked, stands])
  · rename_i changes
    have reports := (a.setSlot i ((a.slots.get i).relock true v)).slotChanged_reports i
    have records : a.lockRecords true v src i = [a.entry .slotLock i.code (n16 (flag v)) (n32 src)] :=
      if_pos (by simp [SlotRec.relocked, changes])
    refine ⟨?_, fun r x => reports.tells r x, fun _ => Act.slotChanged_tells ..⟩
    rw [records]
    unfold Act.updateSlot
    rw [reports.frame]
    rfl

theorem Act.LockWritten.slot (h : Act.LockWritten named v src i a b) (j : Slot) :
    b.slots.get j = if j = i then (a.slots.get i).relock named v else a.slots.get j := by
  rw [h.frame]
  exact Pair.get_set ..

theorem Act.LockWritten.lifts (h : Act.LockWritten named v src i a b) : Act.Lifts a b :=
  ⟨by rw [h.frame], h.tells, _, congrArg Act.logs h.frame⟩

end

/-! ### UNLOCK (R48) -/

theorem Act.unlockSlot_eq (src : Nat) (i : Slot) (a : Act) : a.unlockSlot src i = a.writeLock false src i := by
  unfold Act.unlockSlot Act.writeLock
  cases (a.slots.get i).locked <;> rfl

/-- R48: the order for one slot, where the mask names it. -/
def Act.unlockNamed (src : Nat) (mask : Byte) (i : Slot) (a : Act) : Act :=
  if maskNames mask i then a.unlockSlot src i else a

theorem Act.unlockNamed_written (src : Nat) (mask : Byte) (i : Slot) (a : Act) :
    Act.LockWritten (maskNames mask i) false src i a (a.unlockNamed src mask i) := by
  unfold Act.unlockNamed
  split
  · rename_i named
    rw [named, Act.unlockSlot_eq]
    exact a.writeLock_written false src i
  · rename_i other
    exact .kept (by simp [SlotRec.relocked, other])

/-! ### LOCK (R47) -/

/-- A SLOT_LOCK. -/
def LogEntry.locks (x : LogEntry) : Bool := decide (x.code = .slotLock)

/-- R47: a named slot that is raised is lowered as well. -/
theorem Act.lockSlot_raised {a : Act} {i : Slot} (h : (a.slots.get i).Raised) (e : Env) (src : Nat) :
    a.lockSlot e src i = (a.writeLock true src i).lower e i [] := by
  unfold Act.lockSlot Act.writeLock
  dsimp only
  rcases h with h | h <;> rw [h] <;> rfl

theorem Act.lockSlot_resting {a : Act} {i : Slot} (h : ¬ (a.slots.get i).Raised) (e : Env) (src : Nat) :
    a.lockSlot e src i = a.writeLock true src i := by
  unfold Act.lockSlot Act.writeLock
  dsimp only
  cases k : (a.slots.get i).lift with
  | rising => exact absurd (.inl k) h
  | up => exact absurd (.inr k) h
  | down | lowering | dropped => rfl

/-- What R47 makes of the part, for one slot. -/
structure Act.SlotLocked (named : Bool) (src : Nat) (i : Slot) (a b : Act) : Prop where
  lifts : Act.Lifts a b
  locked : (b.slots.get i).locked = (named || (a.slots.get i).locked)
  latch : (b.slots.get i).latch = (a.slots.get i).latch
  lowered : named = true → ¬ (b.slots.get i).Raised
  other : (b.slots.get i.other).bare = (a.slots.get i.other).bare
  told : named = true → (a.slots.get i).locked = false → b.Tells (.slotChanged i)
  records : b.logs.filter LogEntry.locks = a.logs.filter LogEntry.locks ++
    if named && !(a.slots.get i).locked then [a.entry .slotLock i.code 1 (n32 src)] else []

/-- R47: the order for one slot, where the mask names it. -/
def Act.lockNamed (e : Env) (src : Nat) (mask : Byte) (i : Slot) (a : Act) : Act :=
  if maskNames mask i then a.lockSlot e src i else a

theorem Act.lockOrder_eq (e : Env) (dst src : Nat) (mask : Byte) (a : Act) : a.lockOrder e dst src mask =
    let b := (a.lockNamed e src mask .zero).lockNamed e src mask .one
    if dst = 0 ∧ maskNames mask .zero ∧ maskNames mask .one then b.push .lockAll else b := rfl

/-- R47: the lock of a slot that need not be lowered. -/
theorem Act.LockWritten.locked {named : Bool} {src : Nat} {i : Slot} {a b : Act}
    (h : Act.LockWritten named true src i a b) (rests : named = true → ¬ (a.slots.get i).Raised) :
    Act.SlotLocked named src i a b := by
  have slot : b.slots.get i = (a.slots.get i).relock named true := (h.slot i).trans (if_pos rfl)
  have other : b.slots.get i.other = a.slots.get i.other := (h.slot i.other).trans (if_neg (Slot.other_ne i))
  refine ⟨h.lifts, ?_, ?_, fun n => ?_, by rw [other], fun n free => h.told (by simp [SlotRec.relocked, n, free]), ?_⟩
  · rw [slot]
    cases named <;> rfl
  · rw [slot]
    rfl
  · rw [slot]
    exact rests n
  · rw [congrArg Act.logs h.frame, List.filter_append]
    unfold Act.lockRecords SlotRec.relocked
    cases named <;> cases (a.slots.get i).locked <;> rfl

/-- R47: the lock of a slot that is raised, and its lowering. -/
theorem Act.lockSlot_lowers {a : Act} {i : Slot} (raised : (a.slots.get i).Raised) (e : Env) (src : Nat) :
    Act.SlotLocked true src i a (a.lockSlot e src i) := by
  have written := a.writeLock_written true src i
  rw [Act.lockSlot_raised raised]
  generalize a.writeLock true src i = b at written
  have slot : b.slots.get i = (a.slots.get i).relock true true := (written.slot i).trans (if_pos rfl)
  have other : b.slots.get i.other = a.slots.get i.other := (written.slot i.other).trans (if_neg (Slot.other_ne i))
  rw [Act.lower_raised (by rw [slot]; exact raised)]
  obtain ⟨x, ⟨moved, left⟩, locked, latch, -⟩ := b.startDown_moves e i []
  have lifts := b.startDown_lifts e i []
  refine ⟨written.lifts.trans lifts, ?_, ?_, fun _ up => ?_, left.trans (by rw [other]),
    fun _ free => lifts.tells _ (written.told (by simp [SlotRec.relocked, free])), ?_⟩
  · exact (congrArg SlotRec.locked moved).trans (locked.trans (by rw [slot]; rfl))
  · exact (congrArg SlotRec.latch moved).trans (latch.trans (by rw [slot]; rfl))
  · rcases b.startDown_lift e i [] with k | ⟨p, k⟩ <;> rcases up with up | up <;> rw [k] at up <;> cases up
  · have unlogged : (b.startDown e i []).logs.filter LogEntry.locks = b.logs.filter LogEntry.locks := by
      rcases b.startDown_logs e i [] with k | k <;> rw [k]
      rw [List.filter_append]
      exact List.append_nil _
    rw [unlogged, congrArg Act.logs written.frame, List.filter_append]
    unfold Act.lockRecords SlotRec.relocked
    cases (a.slots.get i).locked <;> rfl

theorem Act.lockNamed_locked (e : Env) (src : Nat) (mask : Byte) (i : Slot) (a : Act) :
    Act.SlotLocked (maskNames mask i) src i a (a.lockNamed e src mask i) := by
  unfold Act.lockNamed
  split
  · rename_i named
    rw [named]
    by_cases raised : (a.slots.get i).Raised
    · exact Act.lockSlot_lowers raised e src
    · rw [Act.lockSlot_resting raised]
      exact (a.writeLock_written true src i).locked fun _ => raised
  · rename_i unnamed
    rw [Bool.eq_false_iff.mpr unnamed]
    exact Act.LockWritten.locked (.kept (by simp [SlotRec.relocked])) nofun

/-- A slot but for its setpoints has the lift state, duty, lock and latch that it has. -/
theorem SlotRec.of_bare {r s : SlotRec} (h : r.bare = s.bare) :
    r.lift = s.lift ∧ r.duty = s.duty ∧ r.locked = s.locked ∧ r.latch = s.latch := by
  have lift := congrArg SlotRec.lift h
  have duty := congrArg SlotRec.duty h
  have locked := congrArg SlotRec.locked h
  have latch := congrArg SlotRec.latch h
  exact ⟨lift, duty, locked, latch⟩

/-- R47: the order for both slots, before the lock-all is told. -/
structure Act.BothLocked (mask : Byte) (src : Nat) (a b : Act) : Prop where
  locked : ∀ i, (b.slots.get i).locked = (maskNames mask i || (a.slots.get i).locked)
  latch : ∀ i, (b.slots.get i).latch = (a.slots.get i).latch
  lowered : ∀ i, maskNames mask i = true → ¬ (b.slots.get i).Raised
  told : ∀ i, maskNames mask i = true → (a.slots.get i).locked = false → b.Tells (.slotChanged i)
  records : b.logs.filter LogEntry.locks = a.logs.filter LogEntry.locks ++
    ([Slot.zero, Slot.one].filter fun i => maskNames mask i && !(a.slots.get i).locked).map
      fun i => a.entry .slotLock i.code 1 (n32 src)

/-- R47: slot 0 and then slot 1 (log 35). -/
theorem Act.SlotLocked.both {mask : Byte} {src : Nat} {a b c : Act}
    (first : Act.SlotLocked (maskNames mask .zero) src .zero a b)
    (second : Act.SlotLocked (maskNames mask .one) src .one b c) : Act.BothLocked mask src a c := by
  obtain ⟨-, -, free, before⟩ : _ ∧ _ ∧ (b.slots.get .one).locked = (a.slots.get .one).locked ∧ _ :=
    SlotRec.of_bare first.other
  obtain ⟨lift, -, locked, after⟩ := SlotRec.of_bare second.other
  refine ⟨fun i => ?_, fun i => ?_, fun i named => ?_, fun i named unlocked => ?_, ?_⟩
  · cases i with
    | zero => exact locked.trans first.locked
    | one => exact second.locked.trans (by rw [free])
  · cases i with
    | zero => exact after.trans first.latch
    | one => exact second.latch.trans before
  · cases i with
    | zero =>
      unfold SlotRec.Raised
      rw [show (c.slots.get .zero).lift = _ from lift]
      exact first.lowered named
    | one => exact second.lowered named
  · cases i with
    | zero => exact second.lifts.tells _ (first.told named unlocked)
    | one => exact second.told named (free.trans unlocked)
  · rw [second.records, first.records, first.lifts.entry, free, List.append_assoc, List.filter_cons, List.filter_cons,
      List.filter_nil]
    congr 1
    split_ifs <;> rfl

/-- R169: a frame's report for arming leaves the slots, and of it no SLOT_LOCK is written. -/
theorem Act.armingFrame_slots (dst src : Nat) (a : Act) : (a.armingFrame dst src).slots = a.slots := by
  obtain ⟨x, es, framed, -⟩ := a.armingFrame_frame dst src
  rw [framed]

theorem Act.armingFrame_entry (dst src : Nat) (k : EventCode) (x : Nat) (d : Half) (y : Word) (a : Act) :
    (a.armingFrame dst src).entry k x d y = a.entry k x d y := by
  obtain ⟨z, es, framed, mode, -⟩ := a.armingFrame_frame dst src
  unfold Act.entry
  rw [framed]
  dsimp only
  rw [mode]

theorem Act.armingFrame_locks (dst src : Nat) (a : Act) :
    (a.armingFrame dst src).logs.filter LogEntry.locks = a.logs.filter LogEntry.locks := by
  unfold Act.armingFrame Act.disarm
  split
  · split
    · rw [Act.log_entry, List.filter_append]
      exact List.append_nil _
    · rfl
  · rfl

/-- R47: the order ends with the report of a lock-all. -/
theorem Act.lockOrder_locked (e : Env) (dst src : Nat) (mask : Byte) (a : Act) :
    Act.BothLocked mask src a (a.lockOrder e dst src mask)
    ∧ (dst = 0 → maskNames mask .zero = true → maskNames mask .one = true →
      (a.lockOrder e dst src mask).Tells .lockAll) := by
  have both := (a.lockNamed_locked e src mask .zero).both ((a.lockNamed e src mask .zero).lockNamed_locked e src mask .one)
  rw [Act.lockOrder_eq]
  generalize (a.lockNamed e src mask .zero).lockNamed e src mask .one = b at both
  dsimp only
  split
  · have reports := b.push_reports .lockAll
    refine ⟨⟨?_, ?_, ?_, fun i named free => reports.tells _ (both.told i named free), ?_⟩,
      fun _ _ _ => Act.push_tells ..⟩
    · rw [Act.push_slots]
      exact both.locked
    · rw [Act.push_slots]
      exact both.latch
    · rw [Act.push_slots]
      exact both.lowered
    · rw [Act.push_logs]
      exact both.records
  · rename_i some
    exact ⟨both, fun all zero one => absurd ⟨all, zero, one⟩ some⟩

/-- What settling keeps of a slot: it is not raised again. -/
theorem SlotRec.Kept.resting {r s : SlotRec} (h : SlotRec.Kept r s) (k : ¬ r.Raised) : ¬ s.Raised := by
  rcases h.lift with same | ⟨rising, up, -⟩
  · unfold SlotRec.Raised
    rw [same]
    exact k
  · exact fun raised => raised.elim rising up

/-- Settles O24. -/
theorem lockAndUnlockOrders : Obligations.LockAndUnlockOrders := by
  refine ⟨fun s own dst src mask arg admitted => ?_, fun s own dst src mask arg admitted unarmed => ?_⟩
  · let a := s.act.armingFrame dst.toNat src.toNat
    obtain ⟨both, lockAll⟩ := a.lockOrder_locked s.env dst.toNat src.toNat mask
    let b : State := { s with act := a.lockOrder s.env dst.toNat src.toNat mask }
    have slots : a.slots = s.act.slots := s.act.armingFrame_slots ..
    have records := both.records
    have entry (i : Slot) := s.act.armingFrame_entry dst.toNat src.toNat .slotLock i.code 1 (n32 src.toNat)
    rw [Act.armingFrame_locks, slots, funext entry] at records
    obtain ⟨c, settled, finished⟩ := b.finish_settles
    have received := State.receive_order admitted ⟨nofun, nofun⟩ mask arg s.env.pins.temperature
    refine ⟨b, b.finish, congrArg (fun t => Host.Outcome.next (State.finish t)) received, rfl, lockAll,
      fun i named free => both.told i named (by rw [slots]; exact free), records, rfl, rfl, fun i => ?_⟩
    have kept := settled.slots i
    rw [finished]
    exact ⟨kept.locked.trans ((both.locked i).trans (by rw [slots])),
      kept.latch.trans ((both.latch i).trans (by rw [slots])), fun named => kept.resting (both.lowered i named)⟩
  · let c := s.act.unlockNamed src.toNat mask .zero
    let d := c.unlockNamed src.toNat mask .one
    have first : Act.LockWritten (maskNames mask .zero) false src.toNat .zero s.act c := s.act.unlockNamed_written ..
    have second : Act.LockWritten (maskNames mask .one) false src.toNat .one c d := c.unlockNamed_written ..
    have untouched : c.slots.get .one = s.act.slots.get .one := first.slot .one
    have slots (i : Slot) : d.slots.get i = (s.act.slots.get i).relock (maskNames mask i) false := by
      cases i with
      | zero => exact (second.slot .zero).trans (first.slot .zero)
      | one => exact (second.slot .one).trans (by rw [untouched]; rfl)
    have relock (r : SlotRec) (n : Bool) : r.relock n false = { r with locked := !n && r.locked } := by cases n <;> rfl
    have received := State.receive_obeys admitted ⟨nofun, nofun⟩ unarmed mask arg s.env.pins.temperature
    refine ⟨{ s with act := d }, congrArg (fun t => Host.Outcome.next (State.finish t)) received, ?_,
      fun i => (slots i).trans (relock ..), fun i named locked => ?_, fun i => ?_⟩
    · have records : c.lockRecords (maskNames mask .one) false src.toNat .one =
          s.act.lockRecords (maskNames mask .one) false src.toNat .one := by
        unfold Act.lockRecords
        rw [untouched, first.lifts.entry]
      have logs : d.logs = s.act.logs ++ s.act.lockRecords (maskNames mask .zero) false src.toNat .zero
          ++ s.act.lockRecords (maskNames mask .one) false src.toNat .one := by
        rw [second.frame, records, first.frame]
      have listed : ([Slot.zero, Slot.one].filter fun i => maskNames mask i && (s.act.slots.get i).locked).map
            (fun i => s.act.entry .slotLock i.code 0 (n32 src.toNat)) =
          s.act.lockRecords (maskNames mask .zero) false src.toNat .zero
          ++ s.act.lockRecords (maskNames mask .one) false src.toNat .one := by
        have each (i : Slot) : s.act.lockRecords (maskNames mask i) false src.toNat i =
            if maskNames mask i && (s.act.slots.get i).locked then [s.act.entry .slotLock i.code 0 (n32 src.toNat)]
            else [] := by
          unfold Act.lockRecords SlotRec.relocked
          rw [Bool.bne_false]
          rfl
        rw [each, each, List.filter_cons, List.filter_cons, List.filter_nil]
        split_ifs <;> rfl
      rw [listed, ← List.append_assoc, ← logs, second.frame, first.frame]
    · have changed : (s.act.slots.get i).relocked (maskNames mask i) false = true := by
        simp [SlotRec.relocked, named, locked]
      cases i with
      | zero => exact second.tells _ (first.told changed)
      | one => exact second.told (by rw [untouched]; exact changed)
    · obtain ⟨b, settled, finished⟩ := State.finish_settles { s with act := d }
      rw [finished]
      exact (settled.slots i).locked.trans (congrArg SlotRec.locked ((slots i).trans (relock ..)))

end Sys2Proof.Machine

namespace Sys2Proof.Machine

/-! ## Lift Drive: contacts and timers (R40, R42, R44, R45, R53) -/

/-! ### Outputs (R40, R53) -/

theorem SlotRec.valve_iff (r : SlotRec) :
    r.valve = true ↔ r.lift = .rising ∨ r.lift = .up ∨ r.lift = .lowering .awaitingIsolator := by
  unfold SlotRec.valve
  split <;> simp_all

/-! ### What settling leaves of a slot -/

section
variable {r s : SlotRec} (h : SlotRec.Kept r s)
include h

theorem SlotRec.Kept.staysDropped (k : r.lift = .dropped) : s.lift = .dropped := by
  rcases h.lift with same | ⟨-, -, -, -, moves, -⟩
  · exact same.trans k
  · exact absurd k moves

theorem SlotRec.Kept.staysIdle (k : r.duty = .idle) : s.duty = .idle := h.duty.elim (·.trans k) id

theorem SlotRec.Kept.staysLowered (k : r.lift = .down ∨ ∃ p, r.lift = .lowering p) :
    s.lift = .down ∨ ∃ p, s.lift = .lowering p := by
  rcases h.lift with same | ⟨rising, up, dropped, -⟩
  · rw [same]
    exact k
  · cases lift : s.lift with
    | rising => exact absurd lift rising
    | up => exact absurd lift up
    | dropped => exact absurd lift dropped
    | down => exact .inl rfl
    | lowering p => exact .inr ⟨p, rfl⟩

end

/-! ### The up and down switches (R42, R44) -/

section
variable (i : Slot) (a : Act)

theorem Act.answerRaise_slots (ans : Answer) :
    (a.answerRaise i ans).slots = a.slots.set i { a.slots.get i with raiseWaiting := false } := by
  unfold Act.answerRaise
  dsimp only
  split
  · rw [Act.push_slots, Act.setSlot_slots]
  · rename_i none
    rw [← Bool.eq_false_iff.mpr none, Pair.set_get_self]

theorem Act.answerLower_slots (ans : Answer) :
    (a.answerLower i ans).slots = a.slots.set i { a.slots.get i with lowerWaiters := [] } := by
  unfold Act.answerLower
  dsimp only
  rw [(Act.answerAll_reports ..).frame]
  rfl

theorem Act.updateSlot_tells (f : SlotRec → SlotRec) : (a.updateSlot i f).Tells (.slotChanged i) :=
  Act.slotChanged_tells ..

theorem Act.updateSlot_get (f : SlotRec → SlotRec) : (a.updateSlot i f).slots.get i = f (a.slots.get i) := by
  rw [Act.Settles.updateSlot_slots, Pair.get_set, if_pos rfl]

/-- R42: a slot found UP, with what it reports. -/
theorem Act.becomesUp_frame : a.becomesUp i =
    { a with slots := a.slots.set i (a.slots.get i).risen, inbox := (a.becomesUp i).inbox } := by
  have drives : Act.Drives a (a.becomesUp i) := (Act.Drives.refl a).updateSlot.answerRaise
  have slots : (a.becomesUp i).slots = a.slots.set i (a.slots.get i).risen := by
    unfold Act.becomesUp
    rw [Act.answerRaise_slots, Act.updateSlot_get, Act.Settles.updateSlot_slots, Pair.set_set]
    rfl
  rw [← slots]
  exact drives.frame

theorem Act.becomesUp_reports : (a.becomesUp i).Tells (.slotChanged i) :=
  (Act.Drives.refl _).answerRaise.tells _ (Act.updateSlot_tells ..)

/-- R44: a slot found DOWN, with what it reports. -/
theorem Act.becomesDown_frame : a.becomesDown i =
    { a with slots := a.slots.set i (a.slots.get i).lowered, inbox := (a.becomesDown i).inbox } := by
  have drives : Act.Drives a (a.becomesDown i) := (Act.Drives.refl a).becomesDown
  have slots : (a.becomesDown i).slots = a.slots.set i (a.slots.get i).lowered := by
    unfold Act.becomesDown
    rw [Act.answerLower_slots, Act.updateSlot_get, Act.Settles.updateSlot_slots, Pair.set_set]
    rfl
  rw [← slots]
  exact drives.frame

theorem Act.becomesDown_reports : (a.becomesDown i).Tells (.slotChanged i) :=
  (Act.Drives.refl _).answerLower.tells _ (Act.updateSlot_tells ..)

end

section
variable {a : Act} {i : Slot} {x : Bool}

theorem Act.upSwitch_rising (h : (a.slots.get i).lift = .rising) : a.upSwitch i true = a.becomesUp i :=
  if_pos ⟨h, rfl⟩

theorem Act.upSwitch_shown (h : (a.slots.get i).lift ≠ .rising ∨ x = false) : a.upSwitch i x = a :=
  if_neg fun k => h.elim (· k.1) (by simp [k.2])

theorem Act.downSwitch_venting (h : (a.slots.get i).lift = .lowering .venting) :
    a.downSwitch i true = a.becomesDown i := if_pos ⟨h, rfl⟩

theorem Act.downSwitch_shown (h : (a.slots.get i).lift ≠ .lowering .venting ∨ x = false) : a.downSwitch i x = a :=
  if_neg fun k => h.elim (· k.1) (by simp [k.2])

/-- R45: the ADD contact of a slot that is up or on its way. -/
theorem Act.addContact_drops (h : (a.slots.get i).Raised ∨ ∃ p, (a.slots.get i).lift = .lowering p) (e : Env) :
    a.addContact e i true = a.drop e i := by
  unfold Act.addContact
  rcases h with (h | h) | ⟨p, h⟩ <;> rw [h] <;> rfl

theorem Act.addContact_shown (h : (a.slots.get i).lift = .down ∨ (a.slots.get i).lift = .dropped ∨ x = false)
    (e : Env) : a.addContact e i x = a := by
  unfold Act.addContact
  rcases h with h | h | h
  · rw [h]
  · rw [h]
  · rw [h]
    split <;> rfl

end

/-! ### The devices at a drop (R45, R26, R30, R31) -/

/-- What commanding isolator `i` open, and the breaker before it, makes of breaker, isolator and records; `forced` where the
breaker is opened, `logged` where that is recorded as forced. -/
structure Act.Opened (e : Env) (i : Slot) (forced logged : Prop) (a b : Act) : Prop where
  switches : Act.Switches a b
  link : b.link = a.link
  opens : forced → b.breaker = a.breaker.opens e.pins.breakerClosed []
    ∧ ∀ w ∈ a.breaker.closeWaiters, b.Tells (.answered w .closeBreaker .failed)
  stays : ¬ forced → b.breaker = a.breaker
  isolator : (a.isolators.get i).state = .closed → b.isolators.get i =
    if b.breaker.state = .opening then (a.isolators.get i).awaits []
    else ((a.isolators.get i).awaits []).driven (e.pins.isolators.get i)
  dead : IsolatorState.isLive (b.isolators.get i).state = false
  forcing : logged → b.logs = a.logs ++ [a.entry .breakerForcedOpen 255 4 (n32 e.cls.confirmed.code)]
  silent : ¬ logged → b.logs = a.logs

section
variable {e : Env} {i : Slot} {a : Act}

theorem Act.forceOpen_live_isolator (live : BreakerState.isLive a.breaker.state = true) (n : Nat) :
    (a.forceOpen e n).isolators.get i =
      if e.pins.breakerClosed then a.isolators.get i
      else (a.isolators.get i).uponOpening (e.pins.isolators.get i) := by
  rw [Act.forceOpen_live live, Act.openBreaker_live_isolator (by simpa using live)]
  simp

/-- R31: the request forces the breaker open, and the isolator awaits it. -/
theorem Act.openIsolator_opened_forced (h : a.Forces i) :
    Act.Opened e i True True a (a.openIsolator e i []) := by
  let c := a.setIsolator i ((a.isolators.get i).awaits [])
  have run : a.openIsolator e i [] = c.forceOpen e 4 := Act.openIsolator_forces e [] h
  have live : BreakerState.isLive c.breaker.state = true := h.1
  have awaits : c.isolators.get i = (a.isolators.get i).awaits [] := (Pair.get_set ..).trans (if_pos rfl)
  obtain ⟨-, -, failed, breaker⟩ := Act.forceOpen_live_spec live e 4
  refine ⟨Act.openIsolator_switches .., ?_, fun _ => ⟨?_, fun w m => ?_⟩, fun k => absurd trivial k, fun _ => ?_,
    Act.openIsolator_dead .., fun _ => (Act.openIsolator_logs e []).1 h, fun k => absurd trivial k⟩
  · rw [run, Act.forceOpen_link]
    rfl
  · rw [run]
    exact breaker
  · rw [run]
    exact failed w m
  · rw [run, breaker, Act.forceOpen_live_isolator live, awaits, Isolator.uponOpening_awaiting rfl]
    cases e.pins.breakerClosed <;> rfl

/-- R26: any other request leaves the breaker. -/
theorem Act.openIsolator_opened_plain (h : ¬ a.Forces i) :
    Act.Opened e i False False a (a.openIsolator e i []) := by
  obtain ⟨opens, breaker⟩ := Act.openIsolator_plain e [] h
  refine ⟨Act.openIsolator_switches .., opens.link, nofun, fun _ => breaker, fun closed => ?_,
    Act.openIsolator_dead .., nofun, fun _ => opens.logs⟩
  have dead : BreakerState.isLive a.breaker.state = false := Bool.eq_false_iff.mpr fun live => h ⟨live, closed⟩
  let c := a.setIsolator i ((a.isolators.get i).awaits [])
  have awaits : c.isolators.get i = (a.isolators.get i).awaits [] := (Pair.get_set ..).trans (if_pos rfl)
  rw [breaker]
  by_cases shut : a.breakerOpen = true
  · have run : a.openIsolator e i [] = c.driveOpen e i := (Act.openIsolator_closed e [] closed).trans (if_pos shut)
    have apart : a.breaker.state ≠ .opening := by
      rcases a.breakerOpen_iff.mp shut with k | k <;> rw [k] <;> nofun
    rw [run, if_neg apart, Act.driveOpen_isolators, Pair.get_set, if_pos rfl, awaits]
  · have run : a.openIsolator e i [] = c := (Act.openIsolator_closed e [] closed).trans
      ((if_neg shut).trans (Act.forceOpen_dead (a := c) dead e 4))
    have opening : a.breaker.state = .opening := (Act.breakerOpen_of_dead dead).resolve_left shut
    rw [run, if_pos opening, awaits]

/-- R30: a breaker that is not CLOSING or CLOSED has nothing to open. -/
theorem Act.openBreaker_dead (h : BreakerState.isLive a.breaker.state = false) : a.openBreaker e [] = a := by
  rcases Act.breakerOpen_of_dead h with shut | opening
  · exact Act.openBreaker_met e [] (a.breakerOpen_iff.mp shut)
  · rw [Act.openBreaker_opening e [] opening, List.append_nil]

/-- R45: with the breaker commanded open before it, the isolator's request forces nothing. -/
theorem Act.openBoth_opened (live : BreakerState.isLive a.breaker.state = true) :
    Act.Opened e i True False a ((a.openBreaker e []).openIsolator e i []) := by
  have opens : Act.Opens a (a.openBreaker e []) := (Act.Opens.refl a).openBreaker
  have breaker := Act.openBreaker_live_breaker live e []
  obtain ⟨failed, -⟩ := Act.openBreaker_live_tells live e []
  have isolator := Act.openBreaker_live_isolator live e [] i
  generalize a.openBreaker e [] = b at opens breaker failed isolator
  have dead : BreakerState.isLive b.breaker.state = false := by rw [breaker, Breaker.opens_dead]
  have plain : Act.Opened e i False False b (b.openIsolator e i []) :=
    Act.openIsolator_opened_plain fun forces => absurd forces.1 (by simp [dead])
  refine ⟨((Act.Switches.refl a).opens opens).trans plain.switches, plain.link.trans opens.link,
    fun _ => ⟨(plain.stays id).trans breaker, fun w m => plain.switches.tells _ (failed w m)⟩,
    fun k => absurd trivial k, fun closed => ?_, plain.dead, nofun, fun _ => (plain.silent id).trans opens.logs⟩
  have same : b.isolators.get i = a.isolators.get i := by
    rw [isolator]
    unfold Isolator.uponOpening
    simp [closed]
  rw [← same]
  exact plain.isolator (same ▸ closed)

theorem Act.Opened.congr {forced logged p q : Prop} {b : Act} (h : Act.Opened e i forced logged a b) (hp : p ↔ forced)
    (hq : q ↔ logged) : Act.Opened e i p q a b := by
  rw [propext hp, propext hq]
  exact h

/-- R45: a drop commands the breaker open where the duty is COLLECT, and the isolator in any case. -/
theorem Act.dropOpens_opened (e : Env) (i : Slot) (a : Act) :
    Act.Opened e i
      (BreakerState.isLive a.breaker.state = true
        ∧ ((a.slots.get i).duty = .collect ∨ (a.isolators.get i).state = .closed))
      (a.Forces i ∧ (a.slots.get i).duty ≠ .collect)
      (a.setSlot i { a.slots.get i with riseTimer := none, lowerTimer := none }) (a.dropOpens e i) := by
  let b := a.setSlot i { a.slots.get i with riseTimer := none, lowerTimer := none }
  have run : a.dropOpens e i =
      (if (a.slots.get i).duty = .collect then b.openBreaker e [] else b).openIsolator e i [] := rfl
  rw [run]
  cases live : BreakerState.isLive a.breaker.state with
  | false =>
    have plain : Act.Opened e i False False b (b.openIsolator e i []) :=
      Act.openIsolator_opened_plain fun forces => absurd (live.symm.trans forces.1) nofun
    rw [Act.openBreaker_dead (a := b) live, ite_self]
    exact plain.congr ⟨fun k => absurd k.1 nofun, nofun⟩ ⟨fun k => absurd (live.symm.trans k.1.1) nofun, nofun⟩
  | true =>
    by_cases collect : (a.slots.get i).duty = .collect
    · rw [if_pos collect]
      exact (Act.openBoth_opened (a := b) live).congr ⟨fun _ => trivial, fun _ => ⟨rfl, .inl collect⟩⟩
        ⟨fun k => k.2 collect, nofun⟩
    · rw [if_neg collect]
      by_cases closed : (a.isolators.get i).state = .closed
      · exact (Act.openIsolator_opened_forced (a := b) ⟨live, closed⟩).congr
          ⟨fun _ => trivial, fun _ => ⟨rfl, .inr closed⟩⟩ ⟨fun _ => trivial, fun _ => ⟨⟨live, closed⟩, collect⟩⟩
      · exact (Act.openIsolator_opened_plain (a := b) fun k => closed k.2).congr
          ⟨fun k => k.2.elim collect closed, nofun⟩ ⟨fun k => closed k.1.2, nofun⟩

end

/-! ### Drops (R45) -/

theorem Act.alert_frame (k : AlertCode) (j : Option Slot) (a : Act) :
    a.alert k j = { a with link := (a.alert k j).link, logs := (a.alert k j).logs } := by
  rw [Act.alert_eq]
  dsimp only
  split
  · rfl
  · split <;> rfl

/-- What R45 makes of the part, slot `i` having been dropped. -/
structure Act.Dropped (i : Slot) (a c b : Act) : Prop where
  breaker : b.breaker = c.breaker
  isolators : b.isolators = c.isolators
  tells : ∀ r, c.Tells r → b.Tells r
  moves : Act.Moves i (a.slots.get i).dropped a b
  told : b.Tells (.slotChanged i)
  failed : (a.slots.get i).raiseWaiting = true → b.Tells (.raiseAnswered i .failed)
  done : ∀ w ∈ (a.slots.get i).lowerWaiters, b.Tells (.answered w (.lower i) .done)
  alert : Link.Alerted { code := .dropped, slot := some i } c.link b.link
  record : ∃ l, b.logs = c.logs ++
    c.entry .slotDropped i.code (n16 (a.slots.get i).duty.code) (n32 (a.slots.get i).lift.toCode.code) :: l

theorem Act.drop_dropped (e : Env) (i : Slot) (a : Act) : Act.Dropped i a (a.dropOpens e i) (a.drop e i) := by
  let c := a.dropOpens e i
  let latched := (c.clearDuty e i).updateSlot i fun r => { r with latch := true, lift := .dropped }
  let d := (a.dropEnds e i).answerLower i .done
  let x := d.log .slotDropped i.code (n16 (a.slots.get i).duty.code) (n32 (a.slots.get i).lift.toCode.code)
  have ends : Act.Drives latched (a.dropEnds e i) := (Act.Drives.refl _).answerRaise
  have drives : Act.Drives c d := (Act.Drives.refl c).clearDuty.updateSlot.answerRaise.answerLower
  have offered : Act.Switches x (x.alert .dropped (some i)) := (Act.Switches.refl x).alert
  have tells (r : Report) (t : d.Tells r) : (a.drop e i).Tells r := offered.tells r t
  have waiters : ((a.dropEnds e i).slots.get i).lowerWaiters = (a.slots.get i).lowerWaiters := by
    obtain ⟨slot, -⟩ := (((a.dropOpens_moves e i).clearDuty (e := e)).updateSlot
      (f := fun r => { r with latch := true, lift := .dropped }) fun _ => rfl).answerRaise (ans := .failed)
    have same := congrArg SlotRec.lowerWaiters slot
    exact same
  have frame : a.drop e i = { x with link := (a.drop e i).link, logs := (a.drop e i).logs } := x.alert_frame ..
  refine ⟨?_, ?_, fun r t => tells r (drives.tells r t), a.drop_moves e i, ?_, fun w => Act.drop_tells w e, fun w m => ?_,
    ?_, ?_⟩
  · rw [frame, show x.breaker = d.breaker from rfl, drives.frame]
  · rw [frame, show x.isolators = d.isolators from rfl, drives.isolators]
  · exact tells _ ((Act.Drives.refl _).answerLower.tells _ (ends.tells _ (Act.updateSlot_tells ..)))
  · exact tells _ (Act.answerAll_tells _ _ _ (waiters ▸ m))
  · have link : x.link = c.link := by rw [show x.link = d.link from rfl, drives.frame]
    rw [← link]
    exact x.alert_alerted .dropped (some i)
  · obtain ⟨l, hl⟩ := offered.logs
    refine ⟨l, hl.trans ?_⟩
    rw [show x.logs = d.logs ++ [d.entry ..] from rfl, drives.logs, ((Act.Lifts.refl c).drives drives).entry,
      List.append_assoc]
    rfl

end Sys2Proof.Machine

namespace Sys2Proof.Machine

/-! ### The rise and lower timers (R42, R44) -/

section
variable (e : Env) (i : Slot) (a : Act)

/-- R42: a raise that has failed, before the slot is taken down. -/
def Act.failsRaise : Act :=
  (((a.log .raiseFail i.code (n16 (a.slots.get i).duty.code) 0).updateSlot i fun r => { r with latch := true }).clearDuty
    e i).answerRaise i .failed

/-- R42: a slot whose raise has failed. -/
def SlotRec.raiseFailed (r : SlotRec) : SlotRec := { r with latch := true, duty := .idle, raiseWaiting := false }

theorem Act.failsRaise_drives :
    Act.Drives (a.log .raiseFail i.code (n16 (a.slots.get i).duty.code) 0) (a.failsRaise e i) :=
  (Act.Drives.refl _).updateSlot.clearDuty.answerRaise

theorem Act.failsRaise_moves : Act.Moves i (a.slots.get i).raiseFailed a (a.failsRaise e i) :=
  (((Act.Moves.refl i a).same (Act.log_slots ..)).updateSlot (f := fun r => { r with latch := true })
    fun _ => rfl).clearDuty.answerRaise

theorem Act.failsRaise_isolators : (a.failsRaise e i).isolators = a.isolators :=
  (a.failsRaise_drives e i).isolators

end

section
variable {e : Env} {i : Slot} {a : Act}

theorem Act.failsRaise_tells (h : (a.slots.get i).raiseWaiting = true) (e : Env) :
    (a.failsRaise e i).Tells (.raiseAnswered i .failed) := by
  obtain ⟨slot, -⟩ := (((Act.Moves.refl i a).same (Act.log_slots ..)).updateSlot
    (f := fun r => { r with latch := true }) fun _ => rfl).clearDuty (e := e)
  exact Act.answerRaise_tells ((congrArg SlotRec.raiseWaiting slot).trans h) .failed

theorem Act.riseTimeout_rising (h : (a.slots.get i).lift = .rising) (e : Env) :
    a.riseTimeout e i = (a.failsRaise e i).startDown e i [] := if_pos h

/-- What R42 makes of the part where a raise times out: the slot is latched, without duty, and taken down. -/
structure Act.RaiseFailed (e : Env) (i : Slot) (a b : Act) : Prop where
  record : ∃ l, b.logs = a.logs ++ a.entry .raiseFail i.code (n16 (a.slots.get i).duty.code) 0 :: l
  told : (a.slots.get i).raiseWaiting = true → b.Tells (.raiseAnswered i .failed)
  locked : (b.slots.get i).locked = (a.slots.get i).locked
  latch : (b.slots.get i).latch = true
  duty : (b.slots.get i).duty = .idle
  timer : (b.slots.get i).riseTimer = none
  waiting : (b.slots.get i).raiseWaiting = false
  other : (b.slots.get i.other).bare = (a.slots.get i.other).bare
  lowered : (b.slots.get i).lift = .down ∨ ∃ p, (b.slots.get i).lift = .lowering p
  awaits : (a.isolators.get i).state ≠ .opened → (b.slots.get i).lift = .lowering .awaitingIsolator
  housed : (a.isolators.get i).state = .opened → e.pins.down.get i = true → (b.slots.get i).lift = .down
  vents : (a.isolators.get i).state = .opened → e.pins.down.get i = false →
    (b.slots.get i).lift = .lowering .venting ∧ (b.slots.get i).lowerTimer = some 8000

theorem Act.riseTimeout_failed (h : (a.slots.get i).lift = .rising) (e : Env) :
    Act.RaiseFailed e i a (a.riseTimeout e i) := by
  have drives := a.failsRaise_drives e i
  obtain ⟨failed, other⟩ := a.failsRaise_moves e i
  have told (w : (a.slots.get i).raiseWaiting = true) := Act.failsRaise_tells w e
  have isolators := a.failsRaise_isolators e i
  rw [Act.riseTimeout_rising h]
  generalize a.failsRaise e i = c at *
  have lifts := c.startDown_lifts e i []
  obtain ⟨x, ⟨slot, left⟩, locked, latch, duty, timer, waiting⟩ := c.startDown_moves e i []
  obtain ⟨-, dutyNow, lockedNow, latchNow⟩ := SlotRec.of_bare slot
  obtain ⟨-, -, kept, latched⟩ := SlotRec.of_bare failed
  have timerNow := congrArg SlotRec.riseTimer slot
  have waitingNow := congrArg SlotRec.raiseWaiting slot
  refine ⟨?_, fun w => lifts.tells _ (told w), lockedNow.trans (locked.trans kept), latchNow.trans (latch.trans latched),
    dutyNow.trans duty, timerNow.trans timer, waitingNow.trans waiting, left.trans other, c.startDown_lift e i [],
    fun shut => ?_, fun opened housed => ?_, fun opened travels => ?_⟩
  · obtain ⟨l, hl⟩ := lifts.logs
    refine ⟨l, hl.trans ?_⟩
    rw [drives.logs, Act.log_entry, List.append_assoc]
    rfl
  · exact (SlotRec.of_bare (Act.startDown_awaits (by rw [isolators]; exact shut) e []).1.1).1
  · exact (SlotRec.of_bare (Act.startDown_housed (by rw [isolators]; exact opened) housed []).1.1).1
  · obtain ⟨slot, -⟩ := Act.startDown_travels (by rw [isolators]; exact opened) travels []
    have lift := congrArg SlotRec.lift slot
    have timer := congrArg SlotRec.lowerTimer slot
    exact ⟨lift, timer⟩

theorem Act.lowerTimeout_venting (h : (a.slots.get i).lift = .lowering .venting) : a.lowerTimeout i =
    ((a.setSlot i { a.slots.get i with lowerTimer := none }).log .lowerFail i.code 0 1).answerLower i .failed :=
  if_pos h

/-- R44: a lowering that times out is recorded and answered, and nothing else of the slot changes. -/
theorem Act.lowerTimeout_failed (h : (a.slots.get i).lift = .lowering .venting) :
    a.lowerTimeout i =
      { a with
        slots := a.slots.set i { a.slots.get i with lowerTimer := none, lowerWaiters := [] }
        inbox := (a.lowerTimeout i).inbox, logs := a.logs ++ [a.entry .lowerFail i.code 0 1] }
    ∧ ∀ w ∈ (a.slots.get i).lowerWaiters, (a.lowerTimeout i).Tells (.answered w (.lower i) .failed) := by
  rw [Act.lowerTimeout_venting h]
  let c := (a.setSlot i { a.slots.get i with lowerTimer := none }).log .lowerFail i.code 0 1
  have slot : c.slots.get i = { a.slots.get i with lowerTimer := none } := (Pair.get_set ..).trans (if_pos rfl)
  have answered : Act.Drives c (c.answerLower i .failed) := (Act.Drives.refl c).answerLower
  have slots : (c.answerLower i .failed).slots =
      a.slots.set i { a.slots.get i with lowerTimer := none, lowerWaiters := [] } := by
    rw [Act.answerLower_slots, slot]
    exact Pair.set_set ..
  refine ⟨?_, fun w m => Act.answerAll_tells _ _ _ (by rw [slot]; exact m)⟩
  refine answered.frame.trans ?_
  rw [slots]
  rfl

end

/-! ### The events -/

section
variable {e : Env} {i : Slot} {a : Act}

theorem Isolator.awaits_nil (r : Isolator) : r.awaits [] = { r with state := .opening false, timer := none } := by
  unfold Isolator.awaits
  rw [List.append_nil]

/-- R45, R26: a CLOSED isolator awaits a breaker that is OPENING, and has its open coil driven otherwise. -/
theorem Act.drop_isolator (closed : (a.isolators.get i).state = .closed) :
    let x : Isolator := { a.isolators.get i with state := .opening false, timer := none }
    (a.drop e i).isolators.get i =
      if (a.drop e i).breaker.state = .opening then x else x.driven (e.pins.isolators.get i) := by
  have dropped := a.drop_dropped e i
  rw [dropped.breaker, dropped.isolators, ← Isolator.awaits_nil]
  exact (a.dropOpens_opened e i).isolator closed

/-- R45, R31: with duty COLLECT the breaker is not forced; SLOT_DROPPED stands behind a BREAKER_FORCED_OPEN. -/
theorem Act.drop_logs : ∃ l, (a.drop e i).logs = a.logs
    ++ (if BreakerState.isLive a.breaker.state = true ∧ (a.isolators.get i).state = .closed
          ∧ (a.slots.get i).duty ≠ .collect then
        [a.entry .breakerForcedOpen 255 4 (n32 e.cls.confirmed.code)]
      else [])
    ++ a.entry .slotDropped i.code (n16 (a.slots.get i).duty.code) (n32 (a.slots.get i).lift.toCode.code) :: l := by
  have opened := a.dropOpens_opened e i
  obtain ⟨l, hl⟩ := (a.drop_dropped e i).record
  refine ⟨l, hl.trans ?_⟩
  rw [opened.switches.entry]
  congr 1
  split
  · rename_i logged
    exact opened.forcing ⟨⟨logged.1, logged.2.1⟩, logged.2.2⟩
  · rename_i unlogged
    rw [List.append_nil]
    exact opened.silent fun k => unlogged ⟨k.1.1, k.1.2, k.2⟩

end

/-- R45: a slot after its drop, but for its setpoints. -/
theorem SlotRec.of_dropped {r x : SlotRec} (h : x.bare = r.dropped.bare) :
    x = { x with
      lift := .dropped, duty := .idle, latch := true, riseTimer := none, lowerTimer := none, raiseWaiting := false
      lowerWaiters := [] }
    ∧ x.locked = r.locked := by
  cases x
  cases r
  simp_all [SlotRec.bare, SlotRec.dropped]

/-- An event that only shows at an input. -/
theorem State.shows_only {s : State} {e : Env} {o : Host.Outcome State Fault Refusal}
    (h : o = .next (State.finish { s with env := e })) :
    o = .next (State.finish { s with env := e }) ∧ (s.Quiet → o = .next { s with env := e }) :=
  ⟨h, fun quiet => h.trans (congrArg Host.Outcome.next (State.Quiet.finish (s := { s with env := e }) quiet))⟩

/-- Settles O23. -/
theorem slotContactsAndTimers : Obligations.SlotContactsAndTimers := by
  refine ⟨fun r => ⟨r.valve_iff, rfl⟩, fun s i => ?_, fun s i n => ?_⟩
  · intro r up down add
    refine ⟨fun rising => ?_, fun x shown => ?_, fun venting => ?_, fun x shown => ?_, fun raised => ?_, fun x shown => ?_⟩
    · refine ⟨{ s with env := up true, act := s.act.becomesUp i }, ?_, ?_, s.act.becomesUp_reports i,
        fun waiting => Act.becomesUp_tells waiting⟩
      · exact congrArg (fun a => Host.Outcome.next (State.finish { s with env := up true, act := a }))
          (Act.upSwitch_rising rising)
      · exact congrArg (fun a => { s with env := up true, act := a }) (s.act.becomesUp_frame i)
    · exact State.shows_only (congrArg (fun a => Host.Outcome.next (State.finish { s with env := up x, act := a }))
        (Act.upSwitch_shown shown))
    · refine ⟨{ s with env := down true, act := s.act.becomesDown i }, ?_, ?_, s.act.becomesDown_reports i,
        fun w m => Act.becomesDown_tells m⟩
      · exact congrArg (fun a => Host.Outcome.next (State.finish { s with env := down true, act := a }))
          (Act.downSwitch_venting venting)
      · exact congrArg (fun a => { s with env := down true, act := a }) (s.act.becomesDown_frame i)
    · exact State.shows_only (congrArg (fun a => Host.Outcome.next (State.finish { s with env := down x, act := a }))
        (Act.downSwitch_shown shown))
    · let b : State := { s with env := add true, act := s.act.drop (add true) i }
      have run : exec (.slotDropped i true) s = .next b.finish :=
        congrArg (fun a => Host.Outcome.next (State.finish { s with env := add true, act := a }))
          (Act.addContact_drops raised (add true))
      have opened := s.act.dropOpens_opened (add true) i
      have dropped := s.act.drop_dropped (add true) i
      obtain ⟨slot, locked⟩ := SlotRec.of_dropped dropped.moves.1
      obtain ⟨t, settled, finished⟩ := b.finish_settles
      have kept := settled.slots i
      obtain ⟨-, -, otherLocked, otherLatch⟩ := SlotRec.of_bare dropped.moves.2
      have lift := congrArg SlotRec.lift slot
      have duty := congrArg SlotRec.duty slot
      have latch := congrArg SlotRec.latch slot
      refine ⟨b, b.finish, run, rfl, rfl, rfl, slot, dropped.told, dropped.failed, dropped.done, ?_, ?_, ?_⟩
      · intro k x live opens
        have breaker (forced : opens) : b.act.breaker = k.opens s.env.pins.breakerClosed [] :=
          dropped.breaker.trans (opened.opens forced).1
        refine ⟨fun forced contact => ?_, fun forced contact => ?_,
          fun forced w m => dropped.tells _ ((opened.opens forced).2 w m),
          fun plain => dropped.breaker.trans (opened.stays plain),
          fun closed opening => (Act.drop_isolator closed).trans (if_pos opening), fun closed apart contact => ?_,
          fun closed apart contact => ?_, dropped.isolators ▸ opened.dead, Act.drop_logs⟩
        · rw [breaker forced, contact]
          exact ⟨rfl, rfl⟩
        · rw [breaker forced, contact]
          exact ⟨rfl, rfl⟩
        · exact (Act.drop_isolator closed).trans ((if_neg apart).trans (Isolator.driven_travels (by rw [contact]; nofun) _))
        · rw [Act.drop_isolator closed, if_neg apart, Isolator.driven_shown contact]
      · exact opened.link ▸ dropped.alert
      · rw [finished]
        exact ⟨kept.staysDropped lift, kept.latch.trans latch, kept.staysIdle duty, kept.locked.trans locked,
          (settled.slots i.other).latch.trans otherLatch, (settled.slots i.other).locked.trans otherLocked⟩
    · exact State.shows_only (congrArg (fun a => Host.Outcome.next (State.finish { s with env := add x, act := a }))
        (Act.addContact_shown shown (add x)))
  · intro r
    refine ⟨fun rising runs => ?_, fun venting runs => ?_⟩
    · let b : State := { s.elapse n with act := (s.act.elapse n).riseTimeout (s.env.elapse n) i }
      have run : exec (.riseTimeout i) s = .next b.finish :=
        congrArg (fun timer => Host.Outcome.next (State.finish (s.onExpiry timer fun s => s.onAct fun e a =>
          a.riseTimeout e i))) runs
      have passed : (s.act.elapse n).slots.get i = r.elapse n := by cases i <;> rfl
      have isolator : ((s.act.elapse n).isolators.get i).state = (s.act.isolators.get i).state := by cases i <;> rfl
      have other : (s.act.elapse n).slots.get i.other = (s.act.slots.get i.other).elapse n := by cases i <;> rfl
      have failed : Act.RaiseFailed (s.env.elapse n) i (s.act.elapse n) b.act :=
        Act.riseTimeout_failed (by rw [passed]; exact rising) _
      obtain ⟨-, -, otherLocked, otherLatch⟩ := SlotRec.of_bare failed.other
      obtain ⟨t, settled, finished⟩ := b.finish_settles
      have kept := settled.slots i
      refine ⟨b, b.finish, run, rfl, rfl, rfl, ?_, fun waits => failed.told (by rw [passed]; exact waits),
        failed.latch, failed.duty, failed.timer, failed.waiting,
        fun shut => failed.awaits (by rw [isolator]; exact shut), fun opened => ?_, ?_⟩
      · obtain ⟨l, hl⟩ := failed.record
        rw [passed] at hl
        exact ⟨l, hl⟩
      · rw [← isolator] at opened
        split
        · exact failed.housed opened (by assumption)
        · rename_i travels
          exact failed.vents opened (Bool.eq_false_iff.mpr travels)
      · rw [finished]
        exact ⟨kept.latch.trans failed.latch, kept.staysIdle failed.duty, kept.staysLowered failed.lowered,
          kept.locked.trans (failed.locked.trans (by rw [passed]; rfl)),
          (settled.slots i.other).latch.trans (otherLatch.trans (by rw [other]; rfl)),
          (settled.slots i.other).locked.trans (otherLocked.trans (by rw [other]; rfl))⟩
    · have passed : (s.act.elapse n).slots.get i = r.elapse n := by cases i <;> rfl
      obtain ⟨frame, failed⟩ := Act.lowerTimeout_failed (a := s.act.elapse n) (i := i) (by rw [passed]; exact venting)
      refine ⟨{ s.elapse n with act := (s.act.elapse n).lowerTimeout i }, ?_, ?_,
        fun w m => failed w (by rw [passed]; exact m)⟩
      · exact congrArg (fun timer => Host.Outcome.next (State.finish (s.onExpiry timer fun s => s.onAct fun _ a =>
          a.lowerTimeout i))) runs
      · exact congrArg (fun a => { s.elapse n with act := a }) frame

end Sys2Proof.Machine

namespace Sys2Proof.Machine

/-! ## What the reactions to a change of the controls write (R46, R52, R85, R119)

Reports join the end of those on their way, records the end of those written, and setpoints stay while no profile is active. -/

/-- `b` has behind the reports and the records of `a` more of them, no report a REFUSED answer to the sequencer, and no notice
where `a` has none. -/
structure Act.Appends (a b : Act) : Prop where
  reports : ∃ l, b.inbox.reports = a.inbox.reports ++ l ∧ ∀ r ∈ l, r.Plain
  logs : ∃ l, b.logs = a.logs ++ l
  held : a.notices.held = [] → b.notices.held = []

/-- And the bids are those of `a`, and without an active profile the setpoints too (R52). -/
structure Act.Follows (e : Env) (a b : Act) : Prop extends Act.Appends a b where
  bids : b.bids = a.bids
  setpoints : a.active e = none → a.SetpointsKept b

namespace Act.Appends

variable {a b c : Act}

theorem of_eq (reports : b.inbox.reports = a.inbox.reports := by rfl) (logs : b.logs = a.logs := by rfl)
    (notices : b.notices = a.notices := by rfl) : Act.Appends a b :=
  ⟨⟨[], by rw [reports, List.append_nil], nofun⟩, ⟨[], by rw [logs, List.append_nil]⟩, fun h => by rw [notices, h]⟩

theorem trans (h : Act.Appends a b) (k : Act.Appends b c) : Act.Appends a c where
  reports := by
    obtain ⟨l, hl, pl⟩ := h.reports
    obtain ⟨m, hm, pm⟩ := k.reports
    exact ⟨l ++ m, by rw [hm, hl, List.append_assoc], fun r x => (List.mem_append.mp x).elim (pl r) (pm r)⟩
  logs := by
    obtain ⟨l, hl⟩ := h.logs
    obtain ⟨m, hm⟩ := k.logs
    exact ⟨l ++ m, by rw [hm, hl, List.append_assoc]⟩
  held := fun x => k.held (h.held x)

theorem tells (h : Act.Appends a b) {r : Report} (k : a.Tells r) : b.Tells r := by
  obtain ⟨l, hl, -⟩ := h.reports
  unfold Act.Tells
  rw [hl]
  exact List.mem_append_left _ k

end Act.Appends

theorem Act.SetpointsKept.of_slots {a b : Act} (h : b.slots = a.slots) : a.SetpointsKept b := by
  intro i
  rw [h]
  exact ⟨rfl, rfl, rfl⟩

/-- R52: a slot whose setpoints are those of another. -/
def SlotRec.SameSetpoints (r x : SlotRec) : Prop :=
  x.force = r.force ∧ x.pressure = r.pressure ∧ x.setProfile = r.setProfile

namespace Act.Follows

variable {a0 a b c : Act} {e : Env}

theorem trans (h : Act.Follows e a b) (k : Act.Follows e b c) : Act.Follows e a c where
  toAppends := h.toAppends.trans k.toAppends
  bids := k.bids.trans h.bids
  setpoints := fun inactive => (h.setpoints inactive).trans
    (k.setpoints (by unfold Act.active at inactive ⊢; rw [h.bids]; exact inactive))

/-- A write that leaves slots, bids, notices, reports and records. -/
theorem of_eq (h : Act.Follows e a0 a) (reports : b.inbox.reports = a.inbox.reports := by rfl)
    (logs : b.logs = a.logs := by rfl) (notices : b.notices = a.notices := by rfl) (bids : b.bids = a.bids := by rfl)
    (slots : b.slots = a.slots := by rfl) : Act.Follows e a0 b :=
  h.trans ⟨.of_eq reports logs notices, bids, fun _ => .of_slots slots⟩

theorem refl (a : Act) : Act.Follows e a a := ⟨.of_eq, rfl, fun _ => .refl a⟩

theorem foldl {α : Type} {f : Act → α → Act} (k : ∀ b x, Act.Follows e a0 b → Act.Follows e a0 (f b x)) (l : List α)
    (h : Act.Follows e a0 a) : Act.Follows e a0 (l.foldl f a) := by
  induction l generalizing a with
  | nil => exact h
  | cons x l ih => exact ih (k a x h)

theorem ite {p : Prop} [Decidable p] (h : Act.Follows e a b) (k : Act.Follows e a c) :
    Act.Follows e a (if p then b else c) := by split <;> assumption

/-! ### Single writes -/

theorem log {k : EventCode} {x : Nat} {d : Half} {y : Word} (h : Act.Follows e a0 a) :
    Act.Follows e a0 (a.log k x d y) :=
  h.trans ⟨⟨⟨[], (List.append_nil _).symm, nofun⟩, ⟨_, rfl⟩, id⟩, rfl, fun _ => .refl a⟩

theorem push {r : Report} (plain : r.Plain := by nofun) (h : Act.Follows e a0 a) : Act.Follows e a0 (a.push r) := by
  unfold Act.push
  split
  · exact h
  · exact h.trans ⟨⟨⟨[r], rfl, fun _ m => List.mem_singleton.mp m ▸ plain⟩, ⟨[], (List.append_nil _).symm⟩, id⟩, rfl,
      fun _ => .refl a⟩

theorem evalDue (h : Act.Follows e a0 a) : Act.Follows e a0 a.evalDue := h.of_eq

theorem iceDue (h : Act.Follows e a0 a) : Act.Follows e a0 a.iceDue := h.of_eq

theorem answerAll {w : List Requester} {q : Request} {ans : Answer} (k : ans ≠ .refused := by nofun)
    (h : Act.Follows e a0 a) : Act.Follows e a0 (a.answerAll w q ans) :=
  foldl (fun _ _ h => h.push fun _ _ g => by cases g; exact k rfl) w h

theorem isolatorTo {i : Slot} {x : Isolator} (h : Act.Follows e a0 a) : Act.Follows e a0 (a.setIsolator i x) := h.of_eq

theorem breakerTo {x : Breaker} (h : Act.Follows e a0 a) : Act.Follows e a0 { a with breaker := x } := h.of_eq

theorem iceTo {x : IceUnit} (h : Act.Follows e a0 a) : Act.Follows e a0 (a.setIce x) := h.of_eq

theorem noticesTo {x : NoticeQueue} (k : a.notices.held = [] → x.held = []) (h : Act.Follows e a0 a) :
    Act.Follows e a0 { a with notices := x } :=
  h.trans ⟨⟨⟨[], (List.append_nil _).symm, nofun⟩, ⟨[], (List.append_nil _).symm⟩, k⟩, rfl, fun _ => .refl a⟩

theorem slotTo {i : Slot} {x : SlotRec} (k : (a.slots.get i).SameSetpoints x := by exact ⟨rfl, rfl, rfl⟩)
    (h : Act.Follows e a0 a) :
    Act.Follows e a0 (a.setSlot i x) := by
  refine h.trans ⟨.of_eq, rfl, fun _ j => ?_⟩
  rw [Act.setSlot_slots, Pair.get_set]
  split
  · rename_i same
    exact same ▸ k
  · exact ⟨rfl, rfl, rfl⟩

/-! ### Switchgear -/

theorem isolatorIsOpen {i : Slot} (h : Act.Follows e a0 a) : Act.Follows e a0 (a.isolatorIsOpen i) :=
  h.isolatorTo.answerAll

theorem driveOpen {i : Slot} (h : Act.Follows e a0 a) : Act.Follows e a0 (a.driveOpen e i) := by
  unfold Act.driveOpen
  dsimp only
  exact h.isolatorTo.isolatorIsOpen.ite h.isolatorTo

theorem isolatorBreakerOpened {i : Slot} (h : Act.Follows e a0 a) :
    Act.Follows e a0 (a.isolatorBreakerOpened e i) := by
  unfold Act.isolatorBreakerOpened
  dsimp only
  split
  · exact h.driveOpen
  · exact h.isolatorTo.answerAll
  · exact h

theorem breakerReachesOpen (h : Act.Follows e a0 a) : Act.Follows e a0 (a.breakerReachesOpen e) :=
  h.breakerTo.answerAll.push.isolatorBreakerOpened.isolatorBreakerOpened

theorem openBreaker {w : List Requester} (h : Act.Follows e a0 a) : Act.Follows e a0 (a.openBreaker e w) := by
  unfold Act.openBreaker
  dsimp only
  split
  · exact h.answerAll
  · exact h.answerAll
  · exact h.breakerTo
  all_goals exact h.breakerTo.answerAll.ite h.breakerTo.answerAll.breakerReachesOpen

theorem forceOpen {n : Nat} (h : Act.Follows e a0 a) : Act.Follows e a0 (a.forceOpen e n) :=
  h.log.push.openBreaker.ite h

theorem openIsolator {i : Slot} {w : List Requester} (h : Act.Follows e a0 a) :
    Act.Follows e a0 (a.openIsolator e i w) := by
  unfold Act.openIsolator
  dsimp only
  split
  · exact h.answerAll
  · exact h.isolatorTo.answerAll.driveOpen
  · exact h.isolatorTo.driveOpen.ite h.isolatorTo.forceOpen
  · exact h.isolatorTo
  · exact h.answerAll.ite h.isolatorTo

/-! ### Lift Drive -/

theorem recompute (h : Act.Follows e a0 a) : Act.Follows e a0 (a.recompute e) := by
  refine h.trans ⟨?_, ?_, fun inactive => ?_⟩
  · unfold Act.recompute
    split <;> exact .of_eq
  · unfold Act.recompute
    split <;> rfl
  · rw [Act.recompute_inactive inactive]
    exact .refl a

theorem slotChanged {i : Slot} (h : Act.Follows e a0 a) : Act.Follows e a0 (a.slotChanged i) := h.push.iceDue.evalDue

theorem updateSlot {i : Slot} {f : SlotRec → SlotRec}
    (k : (a.slots.get i).SameSetpoints (f (a.slots.get i)) := by exact ⟨rfl, rfl, rfl⟩)
    (h : Act.Follows e a0 a) : Act.Follows e a0 (a.updateSlot i f) := (h.slotTo k).slotChanged

theorem answerRaise {i : Slot} {ans : Answer} (h : Act.Follows e a0 a) : Act.Follows e a0 (a.answerRaise i ans) := by
  unfold Act.answerRaise
  dsimp only
  split
  · exact h.slotTo.push
  · exact h

theorem clearDuty {i : Slot} (h : Act.Follows e a0 a) : Act.Follows e a0 (a.clearDuty e i) := by
  unfold Act.clearDuty
  dsimp only
  split
  · exact h
  · exact h.slotTo.slotChanged.recompute

theorem becomesDown {i : Slot} (h : Act.Follows e a0 a) : Act.Follows e a0 (a.becomesDown i) :=
  h.updateSlot.slotTo.answerAll

theorem vent {i : Slot} (h : Act.Follows e a0 a) : Act.Follows e a0 (a.vent e i) := by
  unfold Act.vent
  dsimp only
  split
  · exact h.updateSlot.becomesDown
  · exact h.updateSlot

theorem startDown {i : Slot} {w : List Requester} (h : Act.Follows e a0 a) : Act.Follows e a0 (a.startDown e i w) := by
  unfold Act.startDown
  dsimp only
  split
  · exact h.clearDuty.answerRaise.updateSlot.vent
  · exact h.clearDuty.answerRaise.updateSlot.updateSlot.openIsolator

theorem lower {i : Slot} {w : List Requester} (h : Act.Follows e a0 a) : Act.Follows e a0 (a.lower e i w) := by
  unfold Act.lower
  dsimp only
  split
  · exact h.answerAll
  · exact h.answerAll
  · exact h.slotTo
  · exact h.startDown
  · exact h.startDown

/-! ### Ice Unit and Notice Queue -/

theorem retract {i : Slot} {n : Nat} {w : Requester} (h : Act.Follows e a0 a) : Act.Follows e a0 (a.retract e i n w) :=
  h.lower.log

theorem retractScrapers {f : Slot → Act → Bool} {n : Nat} (h : Act.Follows e a0 a) :
    Act.Follows e a0 (a.retractScrapers e f n) := by
  have one (i : Slot) {b : Act} (k : Act.Follows e a0 b) : Act.Follows e a0
      (if (b.slots.get i).duty = .scrape ∧ f i b then b.retract e i n .iceUnit else b) := k.retract.ite k
  exact one .one (one .zero h)

theorem setLevel {m n : Nat} (h : Act.Follows e a0 a) : Act.Follows e a0 (a.setLevel e m n) := by
  have changed := ((h.iceTo (x := { a.ice with level := m })).log (k := .iceLevel) (x := 255)
    (d := n16 (bytes2 m a.ice.level)) (y := n32 (halves2 n a.ice.trainRate))).recompute.iceDue.evalDue
  exact h.ite (changed.retractScrapers.ite changed)

theorem iceModeChanged (h : Act.Follows e a0 a) : Act.Follows e a0 (a.iceModeChanged e) := by
  unfold Act.iceModeChanged Act.reforce
  split
  · exact h.iceTo
  · exact h.ite h.iceTo.setLevel

theorem reviewNotices (h : Act.Follows e a0 a) : Act.Follows e a0 (a.reviewNotices e) := by
  unfold Act.reviewNotices
  dsimp only
  split
  · exact h
  · have left : Act.Follows e a0 (a.setHeld (a.notices.held.filter fun h => !h.passed (a.rearPosition e))) :=
      h.noticesTo fun none => by rw [none]; rfl
    have unmarked := left.noticesTo (x := { a.notices with
      held := a.notices.held.filter (fun h => !h.passed (a.rearPosition e)), current := none }) id
    have retired {b : Act} (current : Option Byte) (l : List HeldNotice) (k : Act.Follows e a0 b) :
        Act.Follows e a0 (l.foldl (fun a h => a.logRetired current h) b) := foldl (fun _ _ k => k.log) l k
    generalize List.any _ _ = lost
    cases lost
    · exact (retired _ _ left).push
    · exact (retired _ _ unmarked).push.push

end Act.Follows

end Sys2Proof.Machine

namespace Sys2Proof.Machine

/-! ## Authority and geometry at a STATE_CAB (R82, R83, R85 to R88, R91) -/

/-! ### A frame that is heard (R66 to R68) -/

/-- R66, R67: another node's frame with its fields in their ranges is accepted. -/
theorem State.receive_heard {s : State} {own : Nat} {dst src : Byte} {f : Frame} (h : s.Hears own dst src)
    (valid : frameValid f = true) (t : Int) : s.receive dst src f t = s.accept dst.toNat src.toNat f t := by
  obtain ⟨listening, address, ⟨low, high⟩, destination, other⟩ := h
  unfold State.receive State.hear State.checkFrame
  rw [if_neg (by simp [listening])]
  dsimp only
  rw [address]
  dsimp only
  rw [if_neg (by omega), if_neg other, Option.filter_some_pos valid]

/-! ### The authority (R82, R83, R85) -/

theorem PeerView.mem_owners (v : PeerView) (a : Nat) : a ∈ v.owners ↔
    ∃ p ∈ v.table, p.address = a ∧ p.fresh = true ∧ ∃ x, p.last = .cab x ∧ x.claim = .owning := by
  have owns (p : Peer) : ownsAs p = some a ↔
      p.address = a ∧ p.fresh = true ∧ ∃ x, p.last = .cab x ∧ x.claim = .owning := by
    unfold ownsAs
    cases p.last with
    | roof x => simp
    | cab x => simp [and_comm]
  rw [owners_eq, List.mem_filterMap]
  simp only [owns]

theorem authorityOf_some (l : List Nat) (a : Nat) : authorityOf l = some a ↔ l = [a] := by
  unfold authorityOf
  split <;> simp_all

/-- R85: there are no controls but under a PRESENT hold. -/
theorem PeerView.controls_absent {v : PeerView} (h : v.hold ≠ .present) : v.controls = none := by
  unfold PeerView.controls
  split
  · rename_i present _
    exact absurd present h
  · rfl

theorem PeerView.controls_present {v : PeerView} {a : Nat} {p : Peer} {x : CabPayload} (hold : v.hold = .present)
    (authority : v.authority = some a) (entry : v.entry a = some p) (last : p.last = .cab x) : v.controls = some x := by
  unfold PeerView.controls
  rw [hold, authority]
  dsimp only
  rw [entry]
  dsimp only
  rw [last]

/-- R82: the records of a recomputation. -/
theorem State.reauthorize_eq (s : State) : s.reauthorize =
    { s with
      env := { s.env with pv := s.env.pv.reauthorize }
      act := { s.act with logs := s.act.logs ++ s.act.authorityRecords s.env.pv s.env.pv.reauthorize } } := by
  unfold State.reauthorize
  dsimp only
  rw [Act.logAuthority_records]
  rfl

/-- R82, R83: authority, conflict flag and hold of `w` are those of its table, the hold having been that of `v`. -/
structure PeerView.Reauthorized (v w : PeerView) : Prop where
  authority : w.authority = authorityOf w.owners
  conflict : w.conflict = decide (2 ≤ w.owners.length)
  present : ∀ a, w.authority = some a → w.hold = .present ∧ (v.hold ≠ .present → w.holdTimer = none)
  absent : w.authority = none →
    (v.hold = .present → w.hold = .holding ∧ w.holdTimer = some 2000)
    ∧ (v.hold ≠ .present → w.hold = v.hold ∧ w.holdTimer = v.holdTimer)

/-- R82: a recomputation leaves table and geometry. -/
theorem PeerView.reauthorize_rest (v : PeerView) :
    v.reauthorize.table = v.table ∧ v.reauthorize.geometry = v.geometry := by
  unfold PeerView.reauthorize
  dsimp only
  split <;> exact ⟨rfl, rfl⟩

theorem PeerView.reauthorize_spec (v : PeerView) : PeerView.Reauthorized v v.reauthorize := by
  have owners : v.reauthorize.owners = v.owners := congrArg (List.filterMap ownsAs) v.reauthorize_rest.1
  have authority : v.reauthorize.authority = authorityOf v.owners := by
    unfold PeerView.reauthorize
    dsimp only
    split <;> rfl
  refine ⟨by rw [owners, authority], ?_, fun a some => ?_, fun none => ?_⟩
  · rw [owners]
    unfold PeerView.reauthorize
    dsimp only
    split <;> rfl
  · rw [authority] at some
    unfold PeerView.reauthorize
    dsimp only
    rw [some]
    cases hold : v.hold <;> simp
  · rw [authority] at none
    unfold PeerView.reauthorize
    dsimp only
    rw [none]
    cases hold : v.hold <;> simp

/-! ### Changes of the controls (R82, R85) -/

/-- `b` has behind the reports and the records of `a` more of them, and the setpoints of `a` where no profile is active in the
end (R52). -/
structure Act.Adjusts (e : Env) (a b : Act) : Prop extends Act.Appends a b where
  setpoints : b.active e = none → a.SetpointsKept b

namespace Act.Adjusts

variable {e : Env} {a b c : Act}

theorem refl (a : Act) : Act.Adjusts e a a := ⟨.of_eq, fun _ => .refl a⟩

theorem ite {p : Prop} [Decidable p] (h : Act.Adjusts e a b) (k : Act.Adjusts e a c) :
    Act.Adjusts e a (if p then b else c) := by split <;> assumption

theorem follows (k : Act.Follows e b c) (h : Act.Adjusts e a b) : Act.Adjusts e a c := by
  refine ⟨h.toAppends.trans k.toAppends, fun inactive => ?_⟩
  have same : b.active e = none := by
    rw [← inactive]
    unfold Act.active
    rw [k.bids]
  exact (h.setpoints same).trans (k.setpoints same)

theorem recomputeProfile (a : Act) : Act.Adjusts e a (a.recomputeProfile e) := by
  unfold Act.recomputeProfile
  dsimp only
  split
  · exact .refl a
  · have set : Act.Adjusts e a { a with bids := { a.bids with profile := a.chosenProfile e } } :=
      ⟨.of_eq, fun _ => .refl a⟩
    have written := (Act.Follows.refl (e := e) { a with bids := { a.bids with profile := a.chosenProfile e } }).log
      (k := .activeProfile) (x := 255) (d := n16 (optSupplyCode (a.chosenProfile e)))
      (y := n32 (optSupplyCode a.bids.profile))
    exact set.follows (written.recompute.ite written).push.iceDue.evalDue

end Act.Adjusts

/-- R82, R85: what follows the report of a change of permit or authority. -/
def Act.controlsFollow (old : PeerView) (e : Env) (a : Act) : Act :=
  let b :=
    if decide (e.pv.authority ≠ old.authority) || decide (e.pv.expected ≠ old.expected) then
      (a.recomputeProfile e).evalDue
    else a
  if e.pv.iceMode = old.iceMode then b else b.iceModeChanged e

section
variable (old : PeerView) (e : Env) (a : Act)

theorem Act.controlsChanged_eq : a.controlsChanged old e =
    Act.controlsFollow old e
      (if decide (e.pv.authority ≠ old.authority) || decide (e.pv.permit ≠ old.permit) then
        (a.push .permitChanged).evalDue
      else a) := rfl

theorem Act.controlsFollow_adjusts : Act.Adjusts e a (a.controlsFollow old e) := by
  have profile := (Act.Adjusts.recomputeProfile (e := e) a).follows (Act.Follows.refl _).evalDue
  have first := profile.ite (p := (decide (e.pv.authority ≠ old.authority) || decide (e.pv.expected ≠ old.expected)) = true)
    (.refl a)
  exact first.ite (first.follows (Act.Follows.refl _).iceModeChanged)

/-- R82, R85: a change of permit or authority is reported before anything else. -/
theorem Act.controlsChanged_adjusts : Act.Adjusts e a (a.controlsChanged old e)
    ∧ (e.pv.permit ≠ old.permit ∨ e.pv.authority ≠ old.authority →
      Act.Appends (a.push .permitChanged) (a.controlsChanged old e)) := by
  have pushed : Act.Follows e a (a.push .permitChanged).evalDue := (Act.Follows.refl a).push.evalDue
  rw [Act.controlsChanged_eq]
  split
  · have follows := (a.push .permitChanged).evalDue.controlsFollow_adjusts old e
    have same : a.SetpointsKept (a.push .permitChanged).evalDue := .of_slots (Act.push_slots ..)
    exact ⟨⟨pushed.toAppends.trans follows.toAppends, fun inactive => same.trans (follows.setpoints inactive)⟩,
      fun _ => Act.Appends.trans .of_eq follows.toAppends⟩
  · rename_i same
    exact ⟨a.controlsFollow_adjusts old e, fun changed => absurd (by simpa [or_comm] using changed) same⟩

end

/-! ### What every STATE_CAB of the authority brings about (R52, R119) -/

theorem Act.foldl_logRetired (current : Option Byte) (l : List HeldNotice) (a : Act) :
    l.foldl (fun a h => a.logRetired current h) a =
      { a with logs := (l.foldl (fun a h => a.logRetired current h) a).logs } := by
  induction l generalizing a with
  | nil => rfl
  | cons h l ih =>
    rw [List.foldl_cons, ih]
    rfl

/-- R119: a review writes the Notice Queue, reports and records. -/
theorem Act.reviewNotices_frame (e : Env) (a : Act) : a.reviewNotices e =
    { a with
      notices := (a.reviewNotices e).notices, inbox := (a.reviewNotices e).inbox, logs := (a.reviewNotices e).logs } := by
  unfold Act.reviewNotices
  dsimp only
  split
  · rfl
  · rw [(Act.push_reports ..).frame]
    generalize List.any _ _ = lost
    cases lost
    · dsimp only [Bool.false_eq_true, if_false]
      rw [Act.foldl_logRetired]
      rfl
    · dsimp only [if_true]
      rw [(Act.push_reports ..).frame, Act.foldl_logRetired]
      rfl

/-- R52: the setpoints are computed anew, the sequencer is told, and the bids stay. -/
theorem Act.cabTaken_spec (e : Env) (a : Act) : Act.Follows e a (a.cabTaken e) ∧ (a.cabTaken e).SetpointsComputed e
    ∧ (a.cabTaken e).Tells .cabTaken := by
  have computed := a.recompute_setpoints e
  refine ⟨(Act.Follows.refl a).recompute.reviewNotices.push, ?_, Act.push_tells ..⟩
  unfold Act.cabTaken
  rw [(Act.push_reports ..).frame, Act.reviewNotices_frame]
  exact computed

end Sys2Proof.Machine

namespace Sys2Proof.Machine

/-! ### Geometry (R86 to R88, R120) -/

section
variable {g : Geometry} (now : Nat) (c : CabPayload)

theorem Geometry.take_unknown (h : g.known = false) : g.take now c =
    ({ known := true, direction := c.direction, speed := min 4000 c.speed.toNat, length := min 8000 c.length.toNat
       baseOdometer := c.odometer.toNat, baseTime := now, odoStale := false, refusalRun := g.refusalRun }, .asItStands) := by
  unfold Geometry.take
  rw [h]
  rfl

theorem Geometry.take_onward (h : g.known = true) (same : c.direction = g.direction) : g.take now c =
    ({ known := true, direction := c.direction, speed := min 4000 c.speed.toNat, length := min 8000 c.length.toNat
       baseOdometer := (rebase (g.front now) c.odometer.toNat).1, baseTime := now, odoStale := false
       refusalRun := false }, (rebase (g.front now) c.odometer.toNat).2) := by
  unfold Geometry.take
  dsimp only
  rw [h, if_neg (by simp), if_pos same]

theorem Geometry.take_refused (h : g.known = true) (other : c.direction ≠ g.direction) (moves : c.speed.toNat ≠ 0) :
    g.take now c = ({ g with refusalRun := true }, .refused (!g.refusalRun)) := by
  unfold Geometry.take
  dsimp only
  rw [h, if_neg (by simp), if_neg other, if_neg (by omega)]

theorem Geometry.take_turned (h : g.known = true) (other : c.direction ≠ g.direction) (stands : c.speed.toNat = 0) :
    g.take now c =
      ({ known := true, direction := c.direction, speed := 0, length := min 8000 c.length.toNat
         baseOdometer := c.odometer.toNat, baseTime := now, odoStale := false, refusalRun := false }, .turned) := by
  unfold Geometry.take
  dsimp only
  rw [h, if_neg (by simp), if_neg other, stands]
  rfl

end

/-- R87: the base odometer. -/
theorem rebase_fst (x o : Nat) : (rebase x o).1 = if x ≤ o then o else if x - o < 100 then x else o := by
  unfold rebase
  split_ifs <;> rfl

theorem rebase_far {x o : Nat} (h : 100 ≤ x - o) : (rebase x o).2 = .rebased (x - o) := by
  unfold rebase
  rw [if_neg (by omega), if_neg (by omega)]

theorem rebase_onward (x o : Nat) : (rebase x o).2 ≠ .turned := by
  unfold rebase
  split_ifs <;> nofun

/-- Only a change of direction at a stand is accepted. -/
theorem Geometry.take_stays {g : Geometry} {c : CabPayload} (now : Nat)
    (h : g.known = false ∨ c.direction = g.direction ∨ c.speed.toNat ≠ 0) : (g.take now c).2 ≠ .turned := by
  cases known : g.known with
  | false =>
    rw [Geometry.take_unknown now c known]
    nofun
  | true =>
    by_cases same : c.direction = g.direction
    · rw [Geometry.take_onward now c known same]
      exact rebase_onward (g.front now) c.odometer.toNat
    · rw [Geometry.take_refused now c known same ((h.resolve_left (by simp [known])).resolve_left same)]
      nofun

/-- R87: where the train has stood since the base time the front odometer is the base. -/
theorem Geometry.front_stands {g : Geometry} {now : Nat} (speed : g.speed = 0) (h : g.baseOdometer < 4294967296) :
    g.front now = g.baseOdometer := by
  unfold Geometry.front
  simp [speed, h]

/-- R86 to R88, R120: the records of a frame whose geometry is taken, where it leaves the geometry `h`. -/
def Act.geometryRecords (now : Nat) (c : CabPayload) (h : Geometry) (t : Taken) (a : Act) : List LogEntry :=
  match t with
  | .asItStands => []
  | .rebased n => [a.entry .odoRebased 255 0 (n32 n)]
  | .turned =>
    [a.entry .noticeFlushed 0 (n16 a.notices.held.length) (n32 (h.front now)),
      a.entry .directionChange 255 (n16 h.direction.code) c.odometer]
  | .refused logged =>
    if logged then [a.entry .directionRefused 255 (n16 (min 4000 c.speed.toNat)) (n32 h.direction.code)] else []

/-- R86 to R88, R120: what taking a frame's geometry does beside the new store. -/
def Act.takenGeometry (e : Env) (c : CabPayload) (t : Taken) (a : Act) : Act :=
  match t with
  | .asItStands => a
  | .rebased n => a.log .odoRebased 255 0 (n32 n)
  | .turned => (a.flushNotices e).log .directionChange 255 (n16 e.pv.geometry.direction.code) c.odometer
  | .refused logged =>
    if logged then
      a.log .directionRefused 255 (n16 (min 4000 c.speed.toNat)) (n32 e.pv.geometry.direction.code)
    else a

/-- What the taking of a frame's geometry makes of the blocks. -/
structure Act.GeometryTaken (now : Nat) (c : CabPayload) (h : Geometry) (t : Taken) (a b : Act) : Prop where
  frame : b =
    { a with notices := b.notices, inbox := b.inbox, logs := a.logs ++ a.geometryRecords now c h t }
  reports : t ≠ .turned → b.inbox.reports = a.inbox.reports
  held : t = .turned → b.notices.held = []

/-- R120: the flush with its record and reports. -/
theorem Act.flushNotices_frame (e : Env) (a : Act) : a.flushNotices e =
    { a with
      notices := { a.notices with held := [], current := none }, inbox := (a.flushNotices e).inbox
      logs := a.logs ++ [a.entry .noticeFlushed 0 (n16 a.notices.held.length) (n32 e.front)] } := by
  unfold Act.flushNotices
  dsimp only
  exact ((Act.push_reports ..).trans (Act.push_reports ..)).frame

theorem Act.takenGeometry_taken (e : Env) (c : CabPayload) (t : Taken) (a : Act) :
    Act.GeometryTaken e.now c e.pv.geometry t a (a.takenGeometry e c t) := by
  have unwritten : a = { a with logs := a.logs ++ [] } := by rw [List.append_nil]
  cases t with
  | asItStands => exact ⟨unwritten, fun _ => rfl, nofun⟩
  | rebased n => exact ⟨rfl, fun _ => rfl, nofun⟩
  | turned =>
    have flushed := a.flushNotices_frame e
    have held : (a.flushNotices e).notices.held = [] := by rw [flushed]
    refine ⟨?_, fun k => absurd rfl k, fun _ => held⟩
    unfold Act.takenGeometry Act.log
    dsimp only
    rw [flushed]
    dsimp only
    rw [List.append_assoc]
    rfl
  | refused logged =>
    cases logged
    · exact ⟨unwritten, fun _ => rfl, nofun⟩
    · exact ⟨rfl, fun _ => rfl, nofun⟩

/-- The environment with a frame's geometry taken. -/
def State.geometryEnv (c : CabPayload) (s : State) : Env :=
  { s.env with pv := { s.env.pv with geometry := (s.env.pv.geometry.take s.env.now c).1 } }

theorem State.takeGeometry_eq (c : CabPayload) (s : State) : s.takeGeometry c =
    let g := s.env.pv.geometry
    let h := g.take s.env.now c
    let t : State := { s with env := s.geometryEnv c, act := s.act.takenGeometry (s.geometryEnv c) c h.2 }
    if h.1.length = g.length ∧ h.1.direction = g.direction then t else t.onAct fun _ a => a.viewChanged := rfl

theorem State.takeGeometry_taken (c : CabPayload) (s : State) :
    s.takeGeometry c = { s with env := s.geometryEnv c, act := (s.takeGeometry c).act }
    ∧ Act.GeometryTaken s.env.now c (s.env.pv.geometry.take s.env.now c).1 (s.env.pv.geometry.take s.env.now c).2 s.act
      (s.takeGeometry c).act := by
  have taken := s.act.takenGeometry_taken (s.geometryEnv c) c (s.env.pv.geometry.take s.env.now c).2
  rw [State.takeGeometry_eq]
  dsimp only
  split
  · exact ⟨rfl, taken⟩
  · refine ⟨rfl, ?_, taken.reports, taken.held⟩
    have frame := congrArg Act.viewChanged taken.frame
    exact frame

end Sys2Proof.Machine

namespace Sys2Proof.Machine

/-! ### The event of a STATE_CAB (R76, R82, R85 to R88) -/

/-- R76: the record of a STATE frame that finds its sender's entry so. -/
def Act.notePeer (address : Nat) (x : StatePayload) (seen : Seen) (a : Act) : Act :=
  match seen with
  | .joined => a.log .peerJoined address (n16 x.kindCode) 0
  | .moved => a.log .peerMoved address (n16 x.kindCode) (n32 x.dAs)
  | .refreshed => a

theorem Act.notePeer_frame (address : Nat) (x : StatePayload) (seen : Seen) (a : Act) :
    ∃ es, a.notePeer address x seen = { a with logs := a.logs ++ es } ∧ (seen = .refreshed → es = []) := by
  cases seen with
  | joined | moved => exact ⟨_, rfl, nofun⟩
  | refreshed => exact ⟨[], by rw [List.append_nil]; rfl, fun _ => rfl⟩

/-- R76: a STATE_CAB is stored in its sender's entry, before the authority is recomputed. -/
def State.storeCab (src : Nat) (c : CabPayload) (s : State) : State :=
  let old := s.env.pv.entry src
  let t := (s.setPv (s.env.pv.put (heardPeer s.env.now src (.cab c) old))).onAct fun _ a =>
    a.notePeer src (.cab c) (seenAs (.cab c) old)
  if (match old with | some p => p.last.isRoof | none => false) then t.onAct fun _ a => a.viewChanged else t

theorem State.stateHeard_cab (src : Nat) (c : CabPayload) (s : State) : s.stateHeard src (.cab c) =
    let t := (s.storeCab src c).reauthorize
    if t.env.pv.authority = some src then
      (t.takeGeometry c).onAct fun e a => (a.controlsChanged s.env.pv e).cabTaken e
    else t.onAct fun e a => a.controlsChanged s.env.pv e := rfl

/-- What storing a STATE_CAB, and before it the frame's report for arming, makes of the part. -/
structure State.CabStored (src : Nat) (c : CabPayload) (s t : State) : Prop where
  rest : t = { s with
    env := { s.env with pv := s.env.pv.put (heardPeer s.env.now src (.cab c) (s.env.pv.entry src)) }, act := t.act }
  act : ∃ x es, t.act = { s.act with startup := x, inbox := t.act.inbox, logs := s.act.logs ++ es }
    ∧ x.mode = s.act.startup.mode
    ∧ (s.Unarmed → (∃ p, s.env.pv.entry src = some p ∧ p.last.isRoof = false) → es = [])
  reports : t.act.inbox.reports = s.act.inbox.reports

theorem seenAs_cab {p : Peer} (h : p.last.isRoof = false) (c : CabPayload) :
    seenAs (.cab c) (some p) = .refreshed := by
  unfold seenAs
  dsimp only
  cases k : p.last with
  | cab x => rfl
  | roof x => rw [k] at h; cases h

theorem State.storeCab_stored (dst src : Nat) (c : CabPayload) (s : State) :
    State.CabStored src c s ((s.reportArming dst src).storeCab src c) := by
  have viewed {t : State} (p : Prop) [Decidable p] (h : State.CabStored src c s t) :
      State.CabStored src c s (if p then t.onAct fun _ a => a.viewChanged else t) := by
    split
    · obtain ⟨x, es, frame, calm⟩ := h.act
      refine ⟨congrArg (State.onAct fun _ a => a.viewChanged) h.rest, ⟨x, es, ?_, calm⟩, h.reports⟩
      have shown := congrArg Act.viewChanged frame
      exact shown
    · exact h
  obtain ⟨x, es, framed, mode, calm⟩ := s.act.armingFrame_frame dst src
  obtain ⟨fs, noted, known⟩ :=
    (s.act.armingFrame dst src).notePeer_frame src (.cab c) (seenAs (.cab c) (s.env.pv.entry src))
  rw [framed] at noted
  dsimp only at noted
  rw [List.append_assoc, ← framed] at noted
  refine viewed _ ⟨rfl, ⟨x, es ++ fs, ?_, mode, fun unarmed => ?_⟩, congrArg (fun a => a.inbox.reports) noted⟩
  · refine noted.trans ?_
    rw [← congrArg Act.inbox noted]
    rfl
  · rintro ⟨p, found, cab⟩
    rw [(calm unarmed).2, known (by rw [found, seenAs_cab cab])]
    rfl

/-- Two states of the blocks that write the same records. -/
theorem Act.authorityRecords_congr {a b : Act} (h : ∀ k x d y, a.entry k x d y = b.entry k x d y) (old new : PeerView) :
    a.authorityRecords old new = b.authorityRecords old new := by
  unfold Act.authorityRecords
  simp only [h]

theorem Act.geometryRecords_congr {a b : Act} (h : ∀ k x d y, a.entry k x d y = b.entry k x d y)
    (held : a.notices.held = b.notices.held) (now : Nat) (c : CabPayload) (g : Geometry) (t : Taken) :
    a.geometryRecords now c g t = b.geometryRecords now c g t := by
  unfold Act.geometryRecords
  simp only [h, held]

/-- The part once the authority has been recomputed over the stored STATE_CAB. -/
structure State.CabKnown (src : Nat) (s v : State) : Prop where
  rest : v = { s with env := { s.env with pv := v.env.pv }, act := v.act }
  view : PeerView.Reauthorized s.env.pv v.env.pv
  geometry : v.env.pv.geometry = s.env.pv.geometry
  act : ∃ x es, v.act = { s.act with
      startup := x, inbox := v.act.inbox
      logs := s.act.logs ++ es ++ s.act.authorityRecords s.env.pv v.env.pv }
    ∧ x.mode = s.act.startup.mode
    ∧ (s.Unarmed → (∃ p, s.env.pv.entry src = some p ∧ p.last.isRoof = false) → es = [])
  reports : v.act.inbox.reports = s.act.inbox.reports

theorem State.CabStored.known {src : Nat} {c : CabPayload} {s t : State} (h : State.CabStored src c s t) :
    State.CabKnown src s t.reauthorize := by
  obtain ⟨x, es, frame, mode, calm⟩ := h.act
  have entry (k : EventCode) (z : Nat) (d : Half) (y : Word) : t.act.entry k z d y = s.act.entry k z d y := by
    rw [frame]
    unfold Act.entry
    dsimp only
    rw [mode]
  have pv : t.env.pv = s.env.pv.put (heardPeer s.env.now src (.cab c) (s.env.pv.entry src)) := by rw [h.rest]
  have spec := t.env.pv.reauthorize_spec
  obtain ⟨-, geometry⟩ := t.env.pv.reauthorize_rest
  rw [State.reauthorize_eq]
  refine ⟨?_, ?_, ?_, ⟨x, es, ?_, mode, calm⟩, h.reports⟩
  · rw [h.rest]
  · have hold : t.env.pv.hold = s.env.pv.hold := by rw [pv]; rfl
    have timer : t.env.pv.holdTimer = s.env.pv.holdTimer := by rw [pv]; rfl
    exact ⟨spec.authority, spec.conflict, fun a k => hold ▸ spec.present a k, fun k => hold ▸ timer ▸ spec.absent k⟩
  · refine geometry.trans ?_
    rw [pv]
    rfl
  · have records : t.act.authorityRecords t.env.pv t.env.pv.reauthorize =
        s.act.authorityRecords s.env.pv t.env.pv.reauthorize := by
      rw [Act.authorityRecords_congr entry, pv]
      rfl
    dsimp only
    rw [records, frame]

/-- R86 to R88: the records of taking the geometry of a STATE_CAB that finds the part so. -/
def Act.takingRecords (e : Env) (c : CabPayload) (a : Act) : List LogEntry :=
  a.geometryRecords e.now c (e.pv.geometry.take e.now c).1 (e.pv.geometry.take e.now c).2

/-- The part once the geometry of an authority's STATE_CAB has been taken. -/
structure State.CabPlaced (src : Nat) (c : CabPayload) (s w : State) : Prop where
  ring : w.ring = s.ring
  now : w.env.now = s.env.now
  view : PeerView.Reauthorized s.env.pv w.env.pv
  elsewhere : w.env.pv.authority ≠ some src → w.env.pv.geometry = s.env.pv.geometry
  geometry : w.env.pv.authority = some src → w.env.pv.geometry = (s.env.pv.geometry.take s.env.now c).1
  records : ∃ es gs, w.act.logs = s.act.logs ++ es ++ s.act.authorityRecords s.env.pv w.env.pv ++ gs
    ∧ (w.env.pv.authority = some src → gs = s.act.takingRecords s.env c)
    ∧ (s.Unarmed → (∃ p, s.env.pv.entry src = some p ∧ p.last.isRoof = false) → es = [])
  slots : w.act.slots = s.act.slots
  reports : (s.env.pv.geometry.take s.env.now c).2 ≠ .turned → w.act.inbox.reports = s.act.inbox.reports
  held : w.env.pv.authority = some src → (s.env.pv.geometry.take s.env.now c).2 = .turned → w.act.notices.held = []

theorem State.CabKnown.placed {src : Nat} {s v : State} (h : State.CabKnown src s v) (c : CabPayload) :
    State.CabPlaced src c s (if v.env.pv.authority = some src then v.takeGeometry c else v) := by
  obtain ⟨x, es, frame, mode, calm⟩ := h.act
  have ring : v.ring = s.ring := by rw [h.rest]
  have now : v.env.now = s.env.now := by rw [h.rest]
  have logs : v.act.logs = s.act.logs ++ es ++ s.act.authorityRecords s.env.pv v.env.pv := by rw [frame]
  have slots : v.act.slots = s.act.slots := by rw [frame]
  split
  · rename_i authority
    obtain ⟨rest, taken⟩ := v.takeGeometry_taken c
    have env : (v.takeGeometry c).env = v.geometryEnv c := by rw [rest]
    have records : v.act.geometryRecords s.env.now c (s.env.pv.geometry.take s.env.now c).1
        (s.env.pv.geometry.take s.env.now c).2 = s.act.takingRecords s.env c := by
      refine Act.geometryRecords_congr (fun k z d y => ?_) (by rw [frame]) ..
      rw [frame]
      unfold Act.entry
      dsimp only
      rw [mode]
    rw [h.geometry, now] at taken
    have written : (v.takeGeometry c).act.logs = _ := congrArg Act.logs taken.frame
    rw [records, logs] at written
    refine ⟨?_, ?_, ?_, ?_, ?_, ⟨es, s.act.takingRecords s.env c, ?_, fun _ => rfl, calm⟩, ?_,
      fun k => (taken.reports k).trans h.reports, fun _ => taken.held⟩
    · rw [rest, ring]
    · rw [env]
      exact now
    · rw [env]
      exact ⟨h.view.authority, h.view.conflict, h.view.present, h.view.absent⟩
    · rw [env]
      exact fun other => absurd authority other
    · rw [env]
      intro _
      unfold State.geometryEnv
      dsimp only
      rw [h.geometry, now]
    · rw [env]
      exact written
    · rw [taken.frame]
      exact slots
  · rename_i other
    exact ⟨ring, now, h.view, fun _ => h.geometry, fun k => absurd k other, ⟨es, [], by rw [logs, List.append_nil],
      fun k => absurd k other, calm⟩, slots, fun _ => h.reports, fun k => absurd k other⟩

/-- What a STATE_CAB that is heard makes of the part, up to the end of its event. -/
structure State.CabHeard (src : Nat) (c : CabPayload) (s b : State) : Prop where
  placed : ∃ w, State.CabPlaced src c s w ∧ b = { w with act := b.act } ∧ Act.Adjusts w.env w.act b.act
    ∧ (b.env.pv.permit ≠ s.env.pv.permit ∨ b.env.pv.authority ≠ s.env.pv.authority →
      Act.Appends (w.act.push .permitChanged) b.act)
  taken : b.env.pv.authority = some src → b.Tells .cabTaken ∧ b.act.SetpointsComputed b.env

theorem State.stateHeard_heard (dst src : Nat) (c : CabPayload) (s : State) :
    State.CabHeard src c s ((s.reportArming dst src).stateHeard src (.cab c)) := by
  let v := ((s.reportArming dst src).storeCab src c).reauthorize
  let w := if v.env.pv.authority = some src then v.takeGeometry c else v
  have placed : State.CabPlaced src c s w := (s.storeCab_stored dst src c).known.placed c
  have authority : w.env.pv.authority = v.env.pv.authority := by
    unfold w
    split
    · rw [(v.takeGeometry_taken c).1]
      rfl
    · rfl
  have run : (s.reportArming dst src).stateHeard src (.cab c) = w.onAct fun e a =>
      if w.env.pv.authority = some src then (a.controlsChanged s.env.pv e).cabTaken e
      else a.controlsChanged s.env.pv e := by
    rw [authority]
    by_cases owns : v.env.pv.authority = some src
    · have here : w = v.takeGeometry c := if_pos owns
      simp only [here, if_pos owns]
      exact (State.stateHeard_cab ..).trans (if_pos owns)
    · have here : w = v := if_neg owns
      simp only [here, if_neg owns]
      exact (State.stateHeard_cab ..).trans (if_neg owns)
  rw [run]
  generalize w = w at placed
  obtain ⟨adjusts, told⟩ := w.act.controlsChanged_adjusts s.env.pv w.env
  obtain ⟨follows, computed, taken⟩ := (w.act.controlsChanged s.env.pv w.env).cabTaken_spec w.env
  by_cases owns : w.env.pv.authority = some src
  · simp only [if_pos owns]
    exact ⟨⟨w, placed, rfl, adjusts.follows follows, fun k => (told k).trans follows.toAppends⟩,
      fun _ => ⟨taken, computed⟩⟩
  · simp only [if_neg owns]
    exact ⟨⟨w, placed, rfl, adjusts, told⟩, fun k => absurd k owns⟩

/-- Behind an empty inbox the report of a change of permit or authority is the oldest. -/
theorem Act.Appends.permitFirst {a b : Act} (h : Act.Appends (a.push .permitChanged) b) (empty : a.inbox.reports = []) :
    ∃ l, b.inbox.reports = .permitChanged :: l ∧ ∀ r ∈ l, r.Plain := by
  obtain ⟨l, reports, plain⟩ := h.reports
  refine ⟨l, ?_, plain⟩
  rw [reports, Act.push_inbox, empty]
  rfl

/-- R82, R85, R86: a STATE_CAB that is heard. -/
theorem State.exec_stateCab {s : State} {own : Nat} {dst src : Byte} (h : s.Hears own dst src) (c : CabPayload) :
    ∃ b, exec (.stateCab dst src c) s = .next (State.finish b) ∧ State.CabHeard src.toNat c s b :=
  ⟨_, congrArg (fun t => Host.Outcome.next (State.finish t)) (State.receive_heard h rfl s.env.pins.temperature),
    s.stateHeard_heard ..⟩

section
variable {src : Nat} {c : CabPayload} {s b : State}

/-- R172: the records of taking the geometry join the ring, between those of the authority and those of the reactions. -/
theorem State.CabHeard.ring (h : State.CabHeard src c s b) (owns : b.env.pv.authority = some src) :
    ∃ es fs, b.finish.ring = s.ring.writeAll s.env.now (s.act.logs ++ es ++ s.act.takingRecords s.env c ++ fs) := by
  obtain ⟨w, placed, frame, adjusts, -⟩ := h.placed
  obtain ⟨es, gs, logs, written, -⟩ := placed.records
  obtain ⟨l, appended⟩ := adjusts.logs
  obtain ⟨t, settled, finished⟩ := b.finish_settles
  obtain ⟨m, ends⟩ := settled.logs
  have env : b.env = w.env := by rw [frame]
  have ring : b.ring = s.ring := by rw [frame]; exact placed.ring
  rw [env] at owns
  refine ⟨es ++ s.act.authorityRecords s.env.pv w.env.pv, l ++ m, ?_⟩
  rw [finished]
  dsimp only
  rw [ends, appended, logs, written owns, ring, env, placed.now]
  simp only [List.append_assoc]

theorem State.CabHeard.geometry (h : State.CabHeard src c s b) (owns : b.env.pv.authority = some src) :
    b.env.pv.geometry = (s.env.pv.geometry.take s.env.now c).1 := by
  obtain ⟨w, placed, frame, -⟩ := h.placed
  rw [frame] at owns ⊢
  exact placed.geometry owns

/-- R120: the flush leaves no notice. -/
theorem State.CabHeard.flushed (h : State.CabHeard src c s b) (owns : b.env.pv.authority = some src)
    (turned : (s.env.pv.geometry.take s.env.now c).2 = .turned) : b.finish.act.notices.held = [] := by
  obtain ⟨w, placed, frame, adjusts, -⟩ := h.placed
  obtain ⟨t, settled, finished⟩ := b.finish_settles
  rw [frame] at owns
  have none := adjusts.held (placed.held owns turned)
  rw [finished]
  have core := settled.notices
  rw [none] at core
  exact List.map_eq_nil_iff.mp core

/-- R52: without an active profile the setpoints are kept. -/
theorem State.CabHeard.setpointsKept (h : State.CabHeard src c s b) (inactive : b.act.active b.env = none) :
    s.act.SetpointsKept b.act := by
  obtain ⟨w, placed, frame, adjusts, -⟩ := h.placed
  have env : b.env = w.env := by rw [frame]
  exact (Act.SetpointsKept.of_slots placed.slots).trans (adjusts.setpoints (env ▸ inactive))

theorem State.CabHeard.tells (h : State.CabHeard src c s b)
    (changed : b.env.pv.permit ≠ s.env.pv.permit ∨ b.env.pv.authority ≠ s.env.pv.authority) :
    b.Tells .permitChanged := by
  obtain ⟨w, -, -, -, told⟩ := h.placed
  exact (told changed).tells (Act.push_tells ..)

/-- R85, R125: the loss of the permit is the oldest report of its event, which ends in DORMANT. -/
theorem State.CabHeard.dormant (h : State.CabHeard src c s b) (quiet : s.Quiet)
    (onward : (s.env.pv.geometry.take s.env.now c).2 ≠ .turned) (granted : s.env.pv.permit = true)
    (lost : b.env.pv.permit = false) : b.finish.act.seq.state = .dormant := by
  obtain ⟨w, placed, -, -, told⟩ := h.placed
  have empty : w.act.inbox.reports = [] := (placed.reports onward).trans (congrArg Inbox.reports quiet.1)
  obtain ⟨l, first, plain⟩ := (told (.inl (by rw [granted, lost]; nofun))).permitFirst empty
  exact State.finish_dormant first (.inl ⟨rfl, lost⟩) fun v q m => plain _ m v q rfl

end

/-- R87: a base that goes back is recorded. -/
theorem Act.takingRecords_rebased {e : Env} {c : CabPayload} (known : e.pv.geometry.known = true)
    (same : c.direction = e.pv.geometry.direction) (far : 100 ≤ e.pv.geometry.front e.now - c.odometer.toNat) (a : Act) :
    a.takingRecords e c = [a.entry .odoRebased 255 0 (n32 (e.pv.geometry.front e.now - c.odometer.toNat))] := by
  unfold Act.takingRecords
  rw [Geometry.take_onward _ c known same]
  dsimp only
  rw [rebase_far far]
  rfl

/-- R88: the first refusal of a run is recorded. -/
theorem Act.takingRecords_refused {e : Env} {c : CabPayload} (known : e.pv.geometry.known = true)
    (other : c.direction ≠ e.pv.geometry.direction) (moves : c.speed.toNat ≠ 0)
    (first : e.pv.geometry.refusalRun = false) (a : Act) : a.takingRecords e c =
      [a.entry .directionRefused 255 (n16 (min 4000 c.speed.toNat)) (n32 e.pv.geometry.direction.code)] := by
  unfold Act.takingRecords
  rw [Geometry.take_refused _ c known other moves, first]
  rfl

/-- R88, R120: an accepted change of direction is recorded behind the flush. -/
theorem Act.takingRecords_turned {e : Env} {c : CabPayload} (known : e.pv.geometry.known = true)
    (other : c.direction ≠ e.pv.geometry.direction) (stands : c.speed.toNat = 0) (a : Act) : a.takingRecords e c =
      [a.entry .noticeFlushed 0 (n16 a.notices.held.length) c.odometer,
        a.entry .directionChange 255 (n16 c.direction.code) c.odometer] := by
  unfold Act.takingRecords
  rw [Geometry.take_turned _ c known other stands]
  unfold Act.geometryRecords
  dsimp only
  rw [Geometry.front_stands rfl c.odometer.isLt]
  simp only [n32, BitVec.ofNat_toNat, BitVec.setWidth_eq]

/-- Settles O41. -/
theorem cabAuthorityAndGeometry : Obligations.CabAuthorityAndGeometry := by
  refine ⟨fun v => ⟨v.mem_owners, fun a => authorityOf_some .., fun absent => ?_,
      fun a p x hold authority entry last => ?_⟩,
    State.reauthorize_eq, fun s own dst src c hears => ?_, fun s own dst src c hears known same => ?_,
    fun s own dst src c hears known other => ?_⟩
  · unfold PeerView.permit PeerView.iceMode PeerView.expected
    rw [PeerView.controls_absent absent]
    exact ⟨rfl, rfl, rfl⟩
  · unfold PeerView.permit PeerView.iceMode PeerView.expected
    rw [PeerView.controls_present hold authority entry last]
    exact ⟨rfl, rfl, rfl⟩
  · obtain ⟨b, run, heard⟩ := State.exec_stateCab hears c
    obtain ⟨w, placed, frame, adjusts, -⟩ := heard.placed
    have env : b.finish.env = w.env := by rw [frame]; rfl
    refine ⟨b, b.finish, run, rfl, ?_, fun owns => ?_, heard.tells,
      fun quiet onward => heard.dormant quiet (Geometry.take_stays _ onward), ?_⟩
    · obtain ⟨es, gs, logs, -, calm⟩ := placed.records
      obtain ⟨l, appended⟩ := adjusts.logs
      exact ⟨es, gs ++ l, by rw [appended, logs, env, List.append_assoc _ gs], calm⟩
    · obtain ⟨told, computed⟩ := heard.taken owns
      exact ⟨told, computed, heard.setpointsKept⟩
    · rw [env]
      exact ⟨placed.view.authority, placed.view.conflict, placed.view.present, placed.view.absent, placed.elsewhere,
        fun owns known => (placed.geometry owns).trans (by rw [Geometry.take_unknown _ c known])⟩
  · intro ext odo
    obtain ⟨b, run, heard⟩ := State.exec_stateCab hears c
    refine ⟨b.finish, run, fun owns => ⟨(heard.geometry owns).trans ?_, fun far => ?_⟩⟩
    · rw [Geometry.take_onward _ c known same, rebase_fst]
    · obtain ⟨es, fs, ring⟩ := heard.ring owns
      rw [Act.takingRecords_rebased known same far, List.append_assoc] at ring
      exact ⟨es, fs, ring⟩
  · obtain ⟨b, run, heard⟩ := State.exec_stateCab hears c
    refine ⟨b.finish, run, fun owns moves => ⟨(heard.geometry owns).trans ?_, fun first => ?_⟩,
      fun owns stands => ⟨(heard.geometry owns).trans ?_, heard.flushed owns ?_, ?_⟩⟩
    · rw [Geometry.take_refused _ c known other moves]
    · obtain ⟨es, fs, ring⟩ := heard.ring owns
      rw [Act.takingRecords_refused known other moves first, List.append_assoc] at ring
      exact ⟨es, fs, ring⟩
    · rw [Geometry.take_turned _ c known other stands]
    · rw [Geometry.take_turned _ c known other stands]
    · obtain ⟨es, fs, ring⟩ := heard.ring owns
      rw [Act.takingRecords_turned known other stands, List.append_assoc] at ring
      exact ⟨es, fs, ring⟩

end Sys2Proof.Machine

namespace Sys2Proof.Machine

/-! ## The Consist Link Controller (R56 to R73, R166) -/

/-- Settles O39. -/
theorem transmitLaneKept : Obligations.TransmitLaneKept := fun _ _ i h => (step_keeps h).link i

/-! ### The link CRC (R57) -/

/-- A bit that equals the register's lowest brings no feedback. -/
theorem crcBit_own (reg : Half) : crcBit reg (reg.getLsbD 0) = reg >>> 1 := by simp [crcBit]

/-- A byte whose bits are the register's lowest eight moves the register on by a byte. -/
theorem crcByte_own {reg : Half} {b : Byte} (own : ∀ i < 8, b.getLsbD i = reg.getLsbD i) :
    crcByte reg b = reg >>> 8 := by
  have next (n : Nat) (h : n < 8) : crcBit (reg >>> n) (b.getLsbD n) = reg >>> (n + 1) := by
    have low : b.getLsbD n = (reg >>> n).getLsbD 0 := by simp [own n h]
    rw [low, crcBit_own, BitVec.shiftRight_add]
  have start := next 0 (by decide)
  rw [BitVec.ushiftRight_zero] at start
  simp only [crcByte, byteBits, List.foldl_cons, List.foldl_nil]
  rw [start, next 1 (by decide), next 2 (by decide), next 3 (by decide), next 4 (by decide), next 5 (by decide),
    next 6 (by decide), next 7 (by decide)]

/-- R57: the register's own two bytes, low byte first, bring it to 0. -/
theorem crcFrom_le16 (reg : Half) : crcFrom reg (le16 reg) = 0 := by
  have low : crcByte reg (reg.extractLsb' 0 8) = reg >>> 8 :=
    crcByte_own fun i h => by simp [h]
  have high : crcByte (reg >>> 8) (reg.extractLsb' 8 8) = reg >>> 8 >>> 8 :=
    crcByte_own fun i h => by simp [h]
  simp only [crcFrom, le16, List.foldl_cons, List.foldl_nil]
  rw [low, high, ← BitVec.shiftRight_add]
  exact BitVec.ushiftRight_eq_zero (Nat.le_refl 16)

/-- Settles O37. -/
theorem crcResidue : Obligations.CrcResidue := by
  refine ⟨fun body => ?_, ?_⟩
  · have split : crc (body ++ le16 (crc body)) = crcFrom (crc body) (le16 (crc body)) := List.foldl_append
    rw [split, crcFrom_le16]
  · simp [crc, crcFrom, crcByte, byteBits, crcBit]

/-! ### Frames and their payload bytes (R57, R68) -/

/-- R60: the five bytes of a STATE_ROOF's bid. -/
def openBidBytes : Option OpenBid → List Byte
  | none => [0, 0, 0, 0, 0]
  | some b => [1, n8 b.kind.code, n8 b.slot.code, b.number, n8 (flag b.committed)]

theorem roofBytes_eq (p : RoofPayload) : roofBytes p =
    [n8 p.mode.code, n8 p.seq.code, n8 (conditionFlags p.powerless p.odoStale), n8 p.confirmed.code,
      n8 p.selector.code, n8 p.breaker.code, n8 p.isolators.zero.code, n8 p.isolators.one.code]
    ++ le16 p.slots.zero.dA ++ le16 p.slots.one.dA
    ++ [n8 p.slots.zero.head.code, n8 p.slots.zero.lift.code, n8 p.slots.zero.duty.code,
      n8 p.slots.one.head.code, n8 p.slots.one.lift.code, n8 p.slots.one.duty.code,
      n8 (flag p.slots.zero.locked), n8 (flag p.slots.zero.latch),
      n8 (flag p.slots.one.locked), n8 (flag p.slots.one.latch),
      p.arcRate, p.iceLevel, p.heatUnits]
    ++ openBidBytes p.bid ++ alertBytes p.alert := rfl

theorem openBidOfBytes_bytes (b : Option OpenBid) : ∃ x0 x1 x2 x3 x4,
    openBidBytes b = [x0, x1, x2, x3, x4] ∧ openBidOfBytes x0 x1 x2 x3 x4 = some b := by
  cases b with
  | none => exact ⟨_, _, _, _, _, rfl, openBidOfBytes_none⟩
  | some b => exact ⟨_, _, _, _, _, rfl, openBidOfBytes_code b⟩

theorem lastAlertOfBytes_bytes (x : Option Alert) : ∃ c s, alertBytes x = [c, s] ∧ lastAlertOfBytes c s = some x := by
  cases x with
  | none => exact ⟨_, _, rfl, lastAlertOfBytes_none⟩
  | some x => exact ⟨_, _, rfl, lastAlertOfBytes_code x⟩

theorem roofOfBytes_roofBytes (p : RoofPayload) :
    roofOfBytes (roofBytes p) = some p ∧ (roofBytes p).length = 32 := by
  obtain ⟨b0, b1, b2, b3, b4, bid, bidRead⟩ := openBidOfBytes_bytes p.bid
  obtain ⟨c, s, alert, alertRead⟩ := lastAlertOfBytes_bytes p.alert
  obtain ⟨flags, powerless, odoStale⟩ := conditionFlags_read p.powerless p.odoStale
  rw [roofBytes_eq, bid, alert]
  refine ⟨?_, rfl⟩
  simp only [le16, List.cons_append, List.nil_append, roofOfBytes, modeOfCode_code, seqOfCode_code,
    confirmedOfCode_code, selectorOfCode_code, breakerOfCode_code, isolatorOfCode_code, roofSlotOfBytes_code, bidRead,
    alertRead, flags, powerless, odoStale, if_true]
  rfl

theorem cabOfBytes_cabBytes (p : CabPayload) : cabOfBytes (cabBytes p) = some p ∧ (cabBytes p).length = 14 := by
  refine ⟨?_, rfl⟩
  simp only [cabBytes, le16, le32, List.cons_append, List.nil_append, cabOfBytes, deskClaimOfCode_code,
    boolOfCode_flag, iceModeOfCode_code, directionOfCode_code, supplyOfBytes_code, join16_le16, join32_le32]
  rfl

/-- R72: the byte of a notice's heads beyond. -/
def headSetByte : Option HeadSet → Byte
  | none => n8 0
  | some h => n8 h.code

theorem noticeBytes_eq (n : Notice) : noticeBytes n =
    [n.id, n8 n.kind.code] ++ le32 n.start ++ le32 n.stop
    ++ [n8 (flag n.beyond.isSome), n8 (optSupplyCode n.beyond), n8 (flag n.heads.isSome), headSetByte n.heads] := by
  unfold noticeBytes
  cases n.heads <;> rfl

theorem headSetOfBytes_byte (x : Option HeadSet) : headSetOfBytes (n8 (flag x.isSome)) (headSetByte x) = some x := by
  rcases x with _ | ⟨_ | _, _ | _⟩ <;> rfl

theorem noticeOfBytes_noticeBytes (n : Notice) :
    noticeOfBytes (noticeBytes n) = some n ∧ (noticeBytes n).length = 14 := by
  rw [noticeBytes_eq]
  refine ⟨?_, rfl⟩
  simp only [le32, List.cons_append, List.nil_append, noticeOfBytes, noticeKindOfCode_code, supplyOfBytes_code,
    headSetOfBytes_byte, join32_le32]
  rfl

/-- R68: a frame in range whose payload reads as it is decoded to itself. -/
theorem decodeFrame_payloadBytes {f : Frame} (valid : frameValid f = true) :
    decodeFrame f.kind (payloadBytes f) = some f := by
  unfold decodeFrame
  refine (congrArg (Option.filter frameValid) ?_).trans (Option.filter_some_pos valid)
  cases f with
  | stateRoof p => exact congrArg (Option.map Frame.stateRoof) (roofOfBytes_roofBytes p).1
  | stateCab p => exact congrArg (Option.map Frame.stateCab) (cabOfBytes_cabBytes p).1
  | bid b =>
    simp only [Frame.kind, payloadBytes, le16, List.cons_append, List.nil_append, bidKindOfCode_code, slotOfCode_code,
      join16_le16]
  | cede n => rfl
  | alert x => exact congrArg (Option.map Frame.alert) (alertOfBytes_code x)
  | route n => exact congrArg (Option.map Frame.route) (noticeOfBytes_noticeBytes n).1
  | cancel i => rfl
  | order v m a =>
    simp only [Frame.kind, payloadBytes, le16, List.cons_append, List.nil_append, verbOfCode_code, join16_le16]
    rfl

/-- Settles O38. -/
theorem frameCodec : Obligations.FrameCodec := by
  intro f valid
  refine ⟨decodeFrame_payloadBytes valid, ?_⟩
  cases f with
  | stateRoof p => exact (roofOfBytes_roofBytes p).2
  | stateCab p => exact (cabOfBytes_cabBytes p).2
  | route n => exact (noticeOfBytes_noticeBytes n).2
  | bid | cede | alert | cancel | order => rfl

end Sys2Proof.Machine

namespace Sys2Proof.Machine

/-! ## Frames that are not delivered (R66, R84) -/

/-- R66. -/
theorem State.hear_readback {s : State} (h : s.act.link.readback = true) (k : State → State) : s.hear k = s :=
  if_pos h

/-- R169: without an arming record a frame's report for arming does nothing. -/
theorem State.reportArming_unarmed {s : State} (h : s.Unarmed) (dst src : Nat) : s.reportArming dst src = s := by
  obtain ⟨x, es, framed, -, calm⟩ := s.act.armingFrame_frame dst src
  obtain ⟨rfl, rfl⟩ := calm h
  unfold State.reportArming State.onAct
  dsimp only
  rw [framed, List.append_nil]

theorem State.addressed_iff {s : State} {own : Nat} (h : s.act.link.address = some own) (dst : Nat) :
    s.addressed dst = true ↔ dst = 0 ∨ dst = own := by
  simp [State.addressed, Act.station, h]

/-- R84: what a frame leaves that is for another node. -/
theorem State.whenAdmitted_other {s : State} {dst : Nat} (h : ¬ s.addressed dst = true) (src kind verb : Nat)
    (source : Bool) (k : State → State) : s.whenAdmitted dst src kind verb source k = s := by
  simp [State.whenAdmitted, h]

/-- R84: what a frame leaves whose source may not send it. -/
theorem State.whenAdmitted_refused {s : State} {dst : Nat} {source : Bool} (h : s.addressed dst = true)
    (refused : ¬ source = true) (src kind verb : Nat) (k : State → State) :
    s.whenAdmitted dst src kind verb source k =
      { s with act := { s.act with
          logs := s.act.logs ++ [s.act.entry .frameRefused src (n16 kind) (n32 verb)] } } := by
  simp only [State.whenAdmitted, h, refused]
  rfl

/-- R84: which sources an order is refused from. -/
theorem State.orderSource_refuses {s : State} {v : Verb} {src : Nat} (range : src ≤ 15) :
    ¬ s.orderSource v src = true ↔ if v = .lock then src < 9 else s.env.pv.authority ≠ some src := by
  cases v <;> simp [State.orderSource, State.fromAuthority]
  omega

/-- R84, R169: an order that is not admitted is reported for arming, and nothing is armed or reset by it. -/
theorem State.acceptOrder_unadmitted {s : State} {v : Verb} {dst src : Nat}
    (h : ¬ (s.addressed dst = true ∧ s.orderSource v src = true)) (mask : Byte) (t : Int) :
    s.acceptOrder dst src v mask t = (s.reportArming dst src).whenAdmitted dst src 8 v.code (s.orderSource v src)
      fun s => s.obey dst src v mask :=
  if_neg fun admitted => h (by simpa [State.orderAdmitted] using admitted.2)

theorem exec_orderCommand (v : Verb) (dst src mask : Byte) (arg : Half) (temp : Int) (s : State) : ∃ t,
    exec (orderCommand v dst src mask arg temp) s = .next (s.receive dst src (.order v mask arg) t).finish := by
  cases v <;> exact ⟨_, rfl⟩

/-- R84: without an arming record, a frame that is heard and whose acceptance asks for admission asks for no more. -/
theorem State.receive_unarmed {s : State} {own : Nat} {dst src : Byte} {f : Frame} {t : Int} {kind verb : Nat}
    {source : Bool} {k : State → State} (h : s.Hears own dst src) (unarmed : s.Unarmed) (valid : frameValid f = true)
    (accepts : s.accept dst.toNat src.toNat f t =
      (s.reportArming dst.toNat src.toNat).whenAdmitted dst.toNat src.toNat kind verb source k) :
    s.receive dst src f t = s.whenAdmitted dst.toNat src.toNat kind verb source k := by
  rw [State.receive_heard h valid, accepts, State.reportArming_unarmed unarmed]

/-- What a ROUTE and a CANCEL that are heard come to. -/
theorem State.exec_notice_unarmed {s : State} {own : Nat} {dst src : Byte} (h : s.Hears own dst src)
    (unarmed : s.Unarmed) {n : Notice} (named : n.id ≠ 0) : ∃ take drop : State → State,
    exec (.route dst src n) s =
      .next (s.whenAdmitted dst.toNat src.toNat 6 0 (s.fromAuthority src.toNat) take).finish
    ∧ exec (.cancel dst src n.id) s =
      .next (s.whenAdmitted dst.toNat src.toNat 7 0 (s.fromAuthority src.toNat) drop).finish := by
  have valid : (n.id != 0) = true := by simpa using named
  have ended {u w : State} (same : u = w) :
      (Host.Outcome.next u.finish : Host.Outcome State Fault Refusal) = .next w.finish := by rw [same]
  exact ⟨_, _, ended (State.receive_unarmed (f := .route n) h unarmed valid rfl),
    ended (State.receive_unarmed (f := .cancel n.id) h unarmed valid rfl)⟩

/-- Settles O27. -/
theorem framesNotDelivered : Obligations.FramesNotDelivered := by
  refine ⟨?_, fun s dst src mask kind id number arg temp v p c b x n payload readback => ?_⟩
  · intro s own dst src mask arg temp h unarmed refused addressed
    have station : s.addressed dst.toNat = true ↔ addressed := State.addressed_iff h.address _
    have stranger (source : s.env.pv.authority ≠ some src.toNat) : ¬ s.fromAuthority src.toNat = true := by
      simpa [State.fromAuthority] using source
    have order (v : Verb) (un : ¬ (s.addressed dst.toNat = true ∧ s.orderSource v src.toNat = true)) :
        exec (orderCommand v dst src mask arg temp) s =
          .next (s.whenAdmitted dst.toNat src.toNat 8 v.code (s.orderSource v src.toNat) fun s =>
            s.obey dst.toNat src.toNat v mask).finish := by
      obtain ⟨t, run⟩ := exec_orderCommand v dst src mask arg temp s
      rw [run, State.receive_unarmed (f := .order v mask arg) h unarmed rfl (State.acceptOrder_unadmitted un mask t)]
    have other (v : Verb) (away : ¬ addressed) : exec (orderCommand v dst src mask arg temp) s = .next s.finish := by
      rw [order v fun k => away (station.mp k.1), State.whenAdmitted_other (mt station.mp away)]
    refine ⟨fun v here source => ?_, fun v away => ⟨other v away, fun quiet => ?_⟩, fun n named here source => ?_,
      fun n named away => ?_⟩
    · have refuses := (State.orderSource_refuses h.source.2).mpr source
      rw [order v fun k => refuses k.2, State.whenAdmitted_refused (station.mpr here) refuses]
    · rw [other v away, quiet.finish]
    · obtain ⟨take, drop, route, cancel⟩ := State.exec_notice_unarmed h unarmed named
      rw [route, cancel]
      simp only [State.whenAdmitted_refused (station.mpr here) (stranger source)]
      exact ⟨rfl, rfl⟩
    · obtain ⟨take, drop, route, cancel⟩ := State.exec_notice_unarmed h unarmed named
      rw [route, cancel]
      simp only [State.whenAdmitted_other (mt station.mp away), and_self]
  · have deaf (k : State → State) :
        Host.Outcome.next (s.hear k).finish = (.next s.finish : Host.Outcome State Fault Refusal) := by
      rw [State.hear_readback readback]
    obtain ⟨t, run⟩ := exec_orderCommand v dst src mask arg temp s
    exact ⟨run.trans (deaf _), deaf _, deaf _, deaf _, deaf _, deaf _, deaf _, deaf _, deaf _, deaf _, deaf _⟩

end Sys2Proof.Machine

namespace Sys2Proof.Machine

/-! ## The STATE timer and the STATE_ROOF it offers (R59, R60) -/

/-! ### The entry that takes a STATE_ROOF (R60) -/

theorem replaceStateRoof_none {f : Frame} {r : TxRequester} {l : List TxEntry} (h : ∀ x ∈ l, x.isStateRoof = false) :
    replaceStateRoof f r l = none := by
  induction l with
  | nil => rfl
  | cons x l ih =>
    have rest := ih fun y m => h y (List.mem_cons_of_mem _ m)
    simp [replaceStateRoof, h x List.mem_cons_self, rest]

/-- The first STATE_ROOF of a list takes the frame. -/
theorem replaceStateRoof_first {f : Frame} {r : TxRequester} {x : TxEntry} (roof : x.isStateRoof = true)
    (after : List TxEntry) {before : List TxEntry} (h : ∀ y ∈ before, y.isStateRoof = false) :
    replaceStateRoof f r (before ++ x :: after) =
      some (before ++ { frame := f, requesters := x.requesters ++ [r] } :: after) := by
  induction before with
  | nil => simp [replaceStateRoof, roof]
  | cons y l ih =>
    have rest := ih fun z m => h z (List.mem_cons_of_mem _ m)
    simp [replaceStateRoof, h y List.mem_cons_self, rest]

/-- The head takes the frame where it is a STATE_ROOF and defers. -/
def TxHead.Defers (h : TxHead) : Prop := h.entry.isStateRoof = true ∧ h.access = .deferring

theorem Link.replaceInPlace_defers {k : Link} {h : TxHead} (head : k.head = some h) (defers : h.Defers) (f : Frame)
    (r : TxRequester) : k.replaceInPlace f r =
      some { k with head := some { h with entry := { frame := f, requesters := h.entry.requesters ++ [r] } } } := by
  simp [Link.replaceInPlace, head, defers.1, defers.2]

/-- Behind any other head an entry that waits does. -/
theorem Link.replaceInPlace_waits {k : Link} {h : TxHead} (head : k.head = some h) (busy : ¬ h.Defers) (f : Frame)
    (r : TxRequester) :
    k.replaceInPlace f r = (replaceStateRoof f r k.waiting).map fun w => { k with waiting := w } := by
  unfold TxHead.Defers at busy
  simp [Link.replaceInPlace, head, busy]

/-! ### The offer of a STATE_ROOF (R58 to R60) -/

section Offer

variable {a : Act} {e : Env} {r : TxRequester} {h : TxHead}

/-- R58: nothing is offered behind a CLOSED gate. -/
theorem Act.offerStateRoof_closed (gate : a.link.gateOpen = false) : a.offerStateRoof r e = (false, a) := by
  simp [Act.offerStateRoof, gate]

/-- R59: the only entry of an empty queue becomes the head. -/
theorem Act.offerStateRoof_empty (gate : a.link.gateOpen = true) (head : a.link.head = none)
    (waiting : a.link.waiting = []) : a.offerStateRoof r e =
      (true, { a with link := { a.link with
        head := some
          { entry := { frame := .stateRoof (a.composeStateRoof e), requesters := [r] }, access := .deferring
            attempts := 0 } } }) := by
  simp [Act.offerStateRoof, Act.offerTail, Link.replaceInPlace, Link.length, Link.enqueue, TxEntry.asHead, gate, head,
    waiting]

theorem Act.offerStateRoof_defers (gate : a.link.gateOpen = true) (head : a.link.head = some h) (defers : h.Defers) :
    a.offerStateRoof r e =
      (true, { a with link := { a.link with
        head := some { h with entry :=
          { frame := .stateRoof (a.composeStateRoof e), requesters := h.entry.requesters ++ [r] } } } }) := by
  simp [Act.offerStateRoof, gate, Link.replaceInPlace_defers head defers]

theorem Act.offerStateRoof_waits {x : TxEntry} {before after : List TxEntry} (gate : a.link.gateOpen = true)
    (head : a.link.head = some h) (busy : ¬ h.Defers) (waiting : a.link.waiting = before ++ x :: after)
    (roof : x.isStateRoof = true) (first : ∀ y ∈ before, y.isStateRoof = false) : a.offerStateRoof r e =
      (true, { a with link := { a.link with
        waiting := before
          ++ { frame := .stateRoof (a.composeStateRoof e), requesters := x.requesters ++ [r] } :: after } }) := by
  simp [Act.offerStateRoof, gate, Link.replaceInPlace_waits head busy, waiting, replaceStateRoof_first roof after first]

/-- R59, R60: with no entry that takes it the frame is offered at the tail. -/
theorem Act.offerStateRoof_tail (gate : a.link.gateOpen = true) (head : a.link.head = some h) (busy : ¬ h.Defers)
    (none : ∀ y ∈ a.link.waiting, y.isStateRoof = false) : a.offerStateRoof r e =
      if a.link.waiting.length + 1 < 8 then
        (true, { a with link := { a.link with
          waiting := a.link.waiting ++ [{ frame := .stateRoof (a.composeStateRoof e), requesters := [r] }] } })
      else (false, a.log .txFull 255 (n16 1) (n32 (a.link.waiting.length + 1))) := by
  simp [Act.offerStateRoof, Act.offerTail, Link.length, Link.enqueue, gate, Link.replaceInPlace_waits head busy, head,
    replaceStateRoof_none none, Frame.kind, Nat.add_comm]

end Offer

/-! ### What a STATE_ROOF shows (R60) -/

theorem toNat_n8 {x : Nat} (h : x ≤ 255) : (n8 x).toNat = x :=
  (BitVec.toNat_ofNat ..).trans (Nat.mod_eq_of_lt (Nat.lt_succ_of_le h))

theorem toNat_n16 {x : Nat} (h : x ≤ 65535) : (n16 x).toNat = x :=
  (BitVec.toNat_ofNat ..).trans (Nat.mod_eq_of_lt (Nat.lt_succ_of_le h))

theorem Act.composeStateRoof_bid (e : Env) (a : Act) : (a.composeStateRoof e).bid =
    a.bids.bid.map fun b =>
      { kind := b.kind, slot := b.slot, number := n8 b.number, committed := decide (b.phase = .committed) } := rfl

/-! ### The expiry -/

/-- Settles O33. -/
theorem stateTimer : Obligations.StateTimer := by
  refine ⟨?_, fun e a => ?_⟩
  · intro s n running k frame offered answers defers
    let a : Act := { s.act.elapse n with link := { k with stateTimer := some 50 } }
    have run {m : Link} {written : List LogEntry} {taken : Bool}
        (h : a.offerStateRoof .other (s.env.elapse n) = (taken,
          { a with link := { m with stateTimer := some 50 }, logs := s.act.logs ++ written })) : answers m written := by
      show Host.Outcome.next (State.finish (s.onExpiry s.act.link.stateTimer _)) = _
      rw [running]
      exact congrArg (fun x => Host.Outcome.next (State.finish { s.elapse n with act := x.2 })) h
    have silent {m : Link} {taken : Bool}
        (h : a.offerStateRoof .other (s.env.elapse n) = (taken, { a with link := { m with stateTimer := some 50 } })) :
        answers m [] := run (h.trans (by rw [List.append_nil]; rfl))
    refine ⟨fun shut => silent (Act.offerStateRoof_closed shut),
      fun gate => ⟨fun head waiting => silent (Act.offerStateRoof_empty gate head waiting),
        fun h head d => silent (Act.offerStateRoof_defers gate head d),
        fun h before x after head d waiting roof first =>
          silent (Act.offerStateRoof_waits gate head d waiting roof first),
        fun h head d none => ⟨fun room => ?_, fun full => ?_⟩⟩⟩
    · exact silent ((Act.offerStateRoof_tail (a := a) gate head d none).trans (if_pos room))
    · exact run ((Act.offerStateRoof_tail (a := a) gate head d none).trans (if_neg (Nat.not_lt.mpr full)))
  · intro p
    refine ⟨rfl, rfl, rfl, rfl, rfl, rfl, rfl, fun i => ?_, fun i => ?_, toNat_n8, fun h => toNat_n8 (by omega),
      fun h => toNat_n8 (by omega), fun none => ?_, fun b some => ?_, rfl⟩
    · cases i <;> rfl
    · cases i <;> exact ⟨fun h => toNat_n16 (by omega), rfl, rfl, rfl, rfl, rfl⟩
    · exact (a.composeStateRoof_bid e).trans (congrArg _ none)
    · exact ⟨_, (a.composeStateRoof_bid e).trans (congrArg _ some), rfl, rfl, toNat_n8, decide_eq_true_iff⟩

end Sys2Proof.Machine

namespace Sys2Proof.Machine

/-! ## The head entry (R56 to R58, R62 to R65) -/

/-! ### Answers of the transmit lane (R59) -/

/-- R59: what one requester of an entry is told. -/
def Act.answerRequester (ans : TxAnswer) (a : Act) : TxRequester → Act
  | .bid n => a.push (.txAnswered n ans)
  | .final => a.push .finalLeft
  | .other => a

theorem Act.answerTx_eq (x : TxEntry) (ans : TxAnswer) (a : Act) :
    a.answerTx x ans = x.requesters.foldl (Act.answerRequester ans) a := rfl

theorem Act.answerRequester_reports (ans : TxAnswer) (a : Act) (r : TxRequester) :
    Act.Reports a (a.answerRequester ans r) := by
  cases r with
  | bid n => exact a.push_reports _
  | final => exact a.push_reports _
  | other => exact .refl a

theorem Act.answerRequesters_reports (ans : TxAnswer) (l : List TxRequester) (a : Act) :
    Act.Reports a (l.foldl (Act.answerRequester ans) a) := by
  induction l generalizing a with
  | nil => exact .refl a
  | cons r l ih => exact (a.answerRequester_reports ans r).trans (ih _)

/-- An answer writes reports only. -/
theorem Act.answerTx_reports (x : TxEntry) (ans : TxAnswer) (a : Act) : Act.Reports a (a.answerTx x ans) :=
  Act.answerRequesters_reports ans x.requesters a

/-- The Bid Unit is told what has become of its BID. -/
theorem Act.answerTx_tells {x : TxEntry} {n : Nat} (h : .bid n ∈ x.requesters) (ans : TxAnswer) (a : Act) :
    (a.answerTx x ans).Tells (.txAnswered n ans) := by
  obtain ⟨before, after, parts⟩ := List.append_of_mem h
  rw [Act.answerTx_eq, parts, List.foldl_append, List.foldl_cons]
  exact (Act.answerRequesters_reports ans after _).tells _ (Act.push_tells ..)

/-- The entry behind the head becomes the head, DEFERRING. -/
theorem Link.advance_eq (k : Link) : k.advance = { k with
    head := k.waiting.head?.map fun x => { entry := x, access := .deferring, attempts := 0 }
    waiting := k.waiting.tail } := by
  unfold Link.advance
  split <;> (rename_i waiting; simp [waiting, TxEntry.asHead])

/-! ### What each command does to the head -/

section Head

variable {a : Act} {h : TxHead}

theorem Act.attemptStart_deferring (head : a.link.head = some h) (access : h.access = .deferring) : a.attemptStart =
    { a with link := { a.link with head := some { h with access := .onWire, attempts := h.attempts + 1 } } } := by
  simp [Act.attemptStart, head, access, Link.setHead]

theorem Act.attemptStart_idle (idle : ∀ h, a.link.head = some h → h.access ≠ .deferring) : a.attemptStart = a := by
  unfold Act.attemptStart
  split
  · exact if_neg (idle _ ‹_›)
  · rfl

theorem Act.collide_mismatch {bit : Nat} (head : a.link.head = some h) (access : h.access = .onWire)
    (one : (wireBits a.station h.entry.frame)[bit]? = some true) : a.collide bit =
      { a with link := { a.link with head := some { h with access := .jamming (decide (24 + 32 ≤ bit)) } } } := by
  simp [Act.collide, head, access, one, Link.setHead]

theorem Act.collide_idle {bit : Nat} (idle : ∀ h, a.link.head = some h →
    h.access ≠ .onWire ∨ (wireBits a.station h.entry.frame)[bit]? ≠ some true) : a.collide bit = a := by
  unfold Act.collide
  split
  · exact if_neg fun both => (idle _ ‹_›).elim (· both.1) (· both.2)
  · rfl

theorem Act.backoffEnd_backoff {r : Nat} (head : a.link.head = some h) (access : h.access = .backoff r) :
    a.backoffEnd = { a with link := { a.link with head := some { h with access := .deferring } } } := by
  simp [Act.backoffEnd, head, access, Link.setHead]

theorem Act.backoffEnd_idle (idle : ∀ h, a.link.head = some h → ∀ r, h.access ≠ .backoff r) : a.backoffEnd = a := by
  unfold Act.backoffEnd
  split
  · split
    · exact absurd ‹_› (idle _ ‹_› _)
    · rfl
  · rfl

theorem Act.frameSent_onWire (head : a.link.head = some h) (access : h.access = .onWire) : a.frameSent =
    ({ a with link := { a.link.advance with framesSent := bump 65535 a.link.framesSent } }).answerTx h.entry .sent := by
  simp [Act.frameSent, head, access]

theorem Act.frameSent_idle (idle : ∀ h, a.link.head = some h → h.access ≠ .onWire) : a.frameSent = a := by
  unfold Act.frameSent
  split
  · exact if_neg (idle _ ‹_›)
  · rfl

end Head

/-! ### What stands on the line (R56, R57, R63) -/

theorem State.sending_idle {s : State}
    (idle : ∀ h, s.act.link.head = some h → h.access = .deferring ∨ ∃ r, h.access = .backoff r) : s.sending = none := by
  unfold State.sending
  split
  · rename_i h head
    rcases idle h head with access | ⟨r, access⟩ <;> rw [access]
  · rfl

theorem State.sending_jamming {s : State} {h : TxHead} {late : Bool} (head : s.act.link.head = some h)
    (access : h.access = .jamming late) : s.sending = some (List.replicate 16 false) := by
  unfold State.sending
  rw [head]
  dsimp only
  rw [access]

theorem State.sending_onWire {s : State} {h : TxHead} (head : s.act.link.head = some h)
    (access : h.access = .onWire) : s.sending = some (wireBits s.act.station h.entry.frame) := by
  unfold State.sending
  rw [head]
  dsimp only
  rw [access]

/-- Settles O34. -/
theorem headEntry : Obligations.HeadEntry := by
  intro s k with_
  have does {f : Act → Act} {x : Act} (same : f s.act = x) :
      (Host.Outcome.next (s.event fun s => s.onAct fun _ a => f a) : Host.Outcome State Fault Refusal) =
        .next (State.finish { s with act := x }) := by rw [← same]; rfl
  refine ⟨fun h head => ?_, fun none => ?_⟩
  · have only {P : TxHead → Prop} (holds : P h) : ∀ g, k.head = some g → P g := by
      intro g other
      rw [head] at other
      cases other
      exact holds
    refine ⟨fun own address access => ?_, fun late access => State.sending_jamming head access,
      fun idle => State.sending_idle (only idle), fun access => does (Act.attemptStart_deferring head access),
      fun idle => does (Act.attemptStart_idle (only idle)),
      fun bit access one => does (Act.collide_mismatch head access one),
      fun bit idle => does (Act.collide_idle (only idle)),
      fun r access => does (Act.backoffEnd_backoff head access), fun idle => does (Act.backoffEnd_idle (only idle)),
      fun idle => does (Act.frameSent_idle (only idle)), fun access => ?_⟩
    · have station : s.act.station = own := congrArg (Option.getD · 0) address
      rw [State.sending_onWire head access, station]
      rfl
    · refine ⟨_, does (Act.frameSent_onWire head access), ?_, fun m asked => Act.answerTx_tells asked ..⟩
      have reported := (Act.answerTx_reports h.entry .sent
        { s.act with link := { k.advance with framesSent := bump 65535 k.framesSent } }).frame
      rw [Link.advance_eq] at reported ⊢
      exact congrArg (fun x => { s with act := x }) reported
  · have never {P : TxHead → Prop} : ∀ g, k.head = some g → P g := by
      intro g other
      rw [none] at other
      cases other
    exact ⟨State.sending_idle never, does (Act.attemptStart_idle never), fun bit => does (Act.collide_idle never),
      does (Act.backoffEnd_idle never), does (Act.frameSent_idle never)⟩

end Sys2Proof.Machine

namespace Sys2Proof.Machine

/-! ## The end of a jam (R58, R63, R64) -/

/-- R63: a collision is counted, and a late one as late. -/
def Link.collided (late : Bool) (k : Link) : Link :=
  { k with
    collisions := min 65535 (k.collisions + 1)
    lateCollisions := if late then min 65535 (k.lateCollisions + 1) else k.lateCollisions }

/-- R64: the entry is discarded after its twelfth attempt, and unless it is a STATE_ROOF that is recorded. -/
def Act.discarded (late : Bool) (x : TxEntry) (a : Act) : Act :=
  { a with
    link := { (a.link.collided late).advance with discards := min 65535 (a.link.discards + 1) }
    logs := a.logs ++ if x.isStateRoof then [] else [a.entry .linkDiscard 255 (n16 x.frame.kind) 0] }

section Jam

variable {a : Act} {h : TxHead} {late : Bool}

theorem Act.jamEnd_closed (head : a.link.head = some h) (access : h.access = .jamming late)
    (gate : a.link.gateOpen = false) (draw : Nat) :
    a.jamEnd draw = ({ a with link := (a.link.collided late).advance }).answerTx h.entry .closed := by
  simp [Act.jamEnd, head, access, gate, Link.collided, bump]

theorem Act.jamEnd_last (head : a.link.head = some h) (access : h.access = .jamming late)
    (gate : a.link.gateOpen = true) (last : 12 ≤ h.attempts) (draw : Nat) :
    a.jamEnd draw = (a.discarded late h.entry).answerTx h.entry .discarded := by
  cases roof : h.entry.isStateRoof <;>
    simp [Act.jamEnd, Act.discarded, Act.log, Act.entry, head, access, gate, last, roof, Link.collided, bump]

theorem Act.jamEnd_waits (head : a.link.head = some h) (access : h.access = .jamming late)
    (gate : a.link.gateOpen = true) (early : h.attempts < 12) (draw : Nat) :
    a.jamEnd draw = { a with link := { a.link.collided late with head := some { h with
      access := if backoffSlots h.attempts draw = 0 then .deferring
        else .backoff (backoffSlots h.attempts draw) } } } := by
  simp [Act.jamEnd, head, access, gate, Nat.not_le.mpr early, Link.collided, Link.setHead, bump]

/-- A jam's end writes transmit lane, reports and records only. -/
theorem Act.jamEnd_frame (draw : Nat) (a : Act) : ∃ k x l,
    a.jamEnd draw = { a with link := k, inbox := x, logs := l } := by
  unfold Act.jamEnd
  split
  · split
    · dsimp only
      split
      · exact ⟨_, _, _, (Act.answerTx_reports ..).frame⟩
      · split
        · split
          · exact ⟨_, _, _, (Act.answerTx_reports ..).frame⟩
          · exact ⟨_, _, _, (Act.answerTx_reports ..).frame⟩
        · exact ⟨_, _, _, rfl⟩
    · exact ⟨_, _, _, rfl⟩
  · exact ⟨_, _, _, rfl⟩

end Jam

/-- Settles O35. -/
theorem jamEnd : Obligations.JamEnd := by
  refine ⟨?_, fun n => ⟨fun draw => Nat.mod_lt _ (Nat.two_pow_pos _), fun r range => ⟨r, Nat.mod_eq_of_lt range⟩⟩⟩
  intro s h late head access k k1 next
  have moved : (k.collided late).advance = next := Link.advance_eq _
  obtain ⟨l, x, w, framed⟩ := s.act.jamEnd_frame (Config.backoffDraw k.seed s.freeIndex)
  refine ⟨s.jamEnded, rfl, rfl, (congrArg Act.slots framed :), (congrArg Act.bids framed :), fun gate => ?_,
    fun gate last => ?_, rfl, fun gate early => ⟨Nat.mod_lt _ (Nat.two_pow_pos _),
      congrArg Act.link (Act.jamEnd_waits head access gate early _)⟩⟩
  · have closed := Act.jamEnd_closed head access gate (Config.backoffDraw k.seed s.freeIndex)
    have reported := (Act.answerTx_reports h.entry .closed { s.act with link := (k.collided late).advance }).frame
    refine ⟨(congrArg Act.link (closed.trans reported)).trans moved, fun m asked => ?_⟩
    show (s.act.jamEnd (Config.backoffDraw k.seed s.freeIndex)).Tells _
    rw [closed]
    exact Act.answerTx_tells asked ..
  · have discarded := Act.jamEnd_last head access gate last (Config.backoffDraw k.seed s.freeIndex)
    have reported := (Act.answerTx_reports h.entry .discarded (s.act.discarded late h.entry)).frame
    refine ⟨(congrArg Act.link (discarded.trans reported)).trans ?_, congrArg Act.logs (discarded.trans reported),
      fun m asked => ?_⟩
    · exact congrArg (fun j : Link => { j with discards := min 65535 (k.discards + 1) }) moved
    · show (s.act.jamEnd (Config.backoffDraw k.seed s.freeIndex)).Tells _
      rw [discarded]
      exact Act.answerTx_tells asked ..

end Sys2Proof.Machine

namespace Sys2Proof.Machine

/-! ## Frames that are discarded, and the own address heard (R57, R66 to R68, R166) -/

/-! ### Line activity (R57, R66) -/

theorem State.hear_listening {s : State} (h : s.act.link.readback = false) (k : State → State) : s.hear k = k s :=
  if_neg (by simp [h])

theorem State.receiveBytes_short {s : State} (listening : s.act.link.readback = false) {bytes : List Byte}
    (short : bytes.length < 4) : s.receiveBytes bytes = s := by
  unfold State.receiveBytes
  rw [State.hear_listening listening]
  split
  · simp only [List.length_cons] at short
    omega
  · rfl

section Activity

variable {s : State} {dst src kind len : Byte} {rest : List Byte}

/-- R66: activity of a length that no payload has, or that ends before its last CRC bit. -/
theorem State.receiveBytes_cut (listening : s.act.link.readback = false)
    (cut : 56 < len.toNat ∨ rest.length < len.toNat + 2) :
    s.receiveBytes (dst :: src :: kind :: len :: rest) = s.countCrc := by
  unfold State.receiveBytes
  rw [State.hear_listening listening]
  exact if_pos cut

/-- R57, R66: activity of a whole frame's length is a frame where its CRC is right. -/
theorem State.receiveBytes_whole (listening : s.act.link.readback = false) {payload : List Byte} {c0 c1 : Byte}
    (fits : len.toNat ≤ 56) (length : payload.length = len.toNat) :
    s.receiveBytes (dst :: src :: kind :: len :: (payload ++ [c0, c1])) =
      if le16 (crc ([dst, src, kind, len] ++ payload)) = [c0, c1] then s.receiveRaw dst src kind payload
      else s.countCrc := by
  unfold State.receiveBytes State.receiveRaw
  rw [State.hear_listening listening, State.hear_listening listening]
  dsimp only
  rw [if_neg (by simp [length]; omega), List.take_left' length, List.drop_left' length]
  rfl

/-! ### The checks (R67, R68) -/

/-- R67: no frame is checked before the address is set. -/
theorem State.receiveRaw_unaddressed (listening : s.act.link.readback = false) (unset : s.act.link.address = none)
    (payload : List Byte) : s.receiveRaw dst src kind payload = s := by
  unfold State.receiveRaw State.checkFrame
  rw [State.hear_listening listening, unset]

variable {own : Nat}

/-- R67: an address field out of its range. -/
theorem State.receiveRaw_range (listening : s.act.link.readback = false) (address : s.act.link.address = some own)
    (out : src.toNat = 0 ∨ 15 < src.toNat ∨ 15 < dst.toNat) (payload : List Byte) :
    s.receiveRaw dst src kind payload = s.countUnknown := by
  unfold State.receiveRaw State.checkFrame
  rw [State.hear_listening listening, address]
  exact if_pos out

/-- R68: a frame whose kind, length or fields will not do. -/
theorem State.receiveRaw_undecoded (h : s.Hears own dst src) {payload : List Byte}
    (undecoded : decodeFrame kind.toNat payload = none) : s.receiveRaw dst src kind payload = s.countUnknown := by
  obtain ⟨listening, address, ⟨low, high⟩, destination, other⟩ := h
  unfold State.receiveRaw State.checkFrame
  rw [State.hear_listening listening, address, undecoded]
  dsimp only
  rw [if_neg (by omega), if_neg other]
  rfl

/-- R67, R166: a frame from the own address. -/
theorem State.receiveRaw_own (listening : s.act.link.readback = false) (address : s.act.link.address = some own)
    (low : 1 ≤ src.toNat) (high : src.toNat ≤ 15) (destination : dst.toNat ≤ 15) (same : src.toNat = own)
    (payload : List Byte) :
    s.receiveRaw dst src kind payload = s.onAct fun e a => a.duplicateHeard e kind.toNat := by
  unfold State.receiveRaw State.checkFrame
  rw [State.hear_listening listening, address]
  dsimp only
  rw [if_neg (by omega), if_pos same]

end Activity

/-! ### What writes the queue of the transmit lane only (R59 to R61) -/

/-- `b` has behind the reports and the records of `a` more of them, and of the transmit lane another queue; the Start-up
Controller is as it was. -/
structure Act.Queues (a b : Act) : Prop extends Act.Appends a b where
  link : b.link = { a.link with head := b.link.head, waiting := b.link.waiting }
  startup : b.startup = a.startup

namespace Act.Queues

variable {a0 a b : Act} {e : Env}

theorem refl (a : Act) : Act.Queues a a := ⟨.of_eq, rfl, rfl⟩

theorem trans {c : Act} (h : Act.Queues a b) (k : Act.Queues b c) : Act.Queues a c :=
  ⟨h.toAppends.trans k.toAppends, by rw [k.link, h.link], k.startup.trans h.startup⟩

theorem linkTo {k : Link} (queue : k = { a.link with head := k.head, waiting := k.waiting }) (h : Act.Queues a0 a) :
    Act.Queues a0 { a with link := k } := h.trans ⟨.of_eq, queue, rfl⟩

theorem bidsTo {x : BidUnit} (h : Act.Queues a0 a) : Act.Queues a0 { a with bids := x } := h.trans ⟨.of_eq, rfl, rfl⟩

theorem evalDue (h : Act.Queues a0 a) : Act.Queues a0 a.evalDue := h.trans ⟨.of_eq, rfl, rfl⟩

theorem log {k : EventCode} {x : Nat} {d : Half} {y : Word} (h : Act.Queues a0 a) : Act.Queues a0 (a.log k x d y) :=
  h.trans ⟨⟨⟨[], (List.append_nil _).symm, nofun⟩, ⟨_, rfl⟩, id⟩, rfl, rfl⟩

theorem push {r : Report} (plain : r.Plain := by nofun) (h : Act.Queues a0 a) : Act.Queues a0 (a.push r) := by
  unfold Act.push
  split
  · exact h
  · exact h.trans ⟨⟨⟨[r], rfl, fun _ m => List.mem_singleton.mp m ▸ plain⟩, ⟨[], (List.append_nil _).symm⟩, id⟩,
      rfl, rfl⟩

theorem offerTail {f : Frame} {r : TxRequester} (h : Act.Queues a0 a) : Act.Queues a0 (a.offerTail f r).2 := by
  unfold Act.offerTail Link.enqueue
  split
  · exact h
  · split
    · split <;> exact h.linkTo rfl
    · exact h.log

theorem offerStateRoof {r : TxRequester} (h : Act.Queues a0 a) : Act.Queues a0 (a.offerStateRoof r e).2 := by
  unfold Act.offerStateRoof
  dsimp only
  split
  · exact h
  · split
    · rename_i k place
      refine h.linkTo ?_
      unfold Link.replaceInPlace at place
      split at place
      · split at place
        · cases place
          rfl
        · obtain ⟨w, -, rfl⟩ := Option.map_eq_some_iff.mp place
          rfl
      · cases place
    · exact h.offerTail

/-- R61. -/
theorem withdrawBid {n : Nat} {k : Link} (withdrawn : a.link.withdrawBid n = some k) (h : Act.Queues a0 a) :
    Act.Queues a0 { a with link := k } := by
  refine h.linkTo ?_
  unfold Link.withdrawBid at withdrawn
  split at withdrawn
  · cases withdrawn
    rfl
  · split at withdrawn
    · split at withdrawn
      · cases withdrawn
      · cases withdrawn
        rw [Link.advance_eq]
    · cases withdrawn
      rfl

/-- R102. -/
theorem cedeFor {x : HeldBid} {n : Nat} (h : Act.Queues a0 a) : Act.Queues a0 (a.cedeFor x n) := by
  unfold Act.cedeFor
  cases x.phase with
  | offered =>
    dsimp only
    split
    · exact (h.withdrawBid ‹_›).bidsTo.log.push.evalDue
    · exact h.bidsTo.bidsTo.log.push.evalDue
  | window => exact h.offerTail.bidsTo.log.push.evalDue
  | committed => exact h.offerTail.bidsTo.log.push.evalDue

/-- R108. -/
theorem bidsEnd (h : Act.Queues a0 a) : Act.Queues a0 (a.bidsEnd e) := by
  unfold Act.bidsEnd Act.cede
  split
  · split
    · split
      · split
        · exact h.cedeFor
        · exact h
      · exact h
    · exact h.bidsTo.push
  · exact h

end Act.Queues

end Sys2Proof.Machine
namespace Sys2Proof.Machine

/-! ### Entries that close no gate (R166, R167) -/

/-- No entry of the queue carries a final STATE_ROOF. -/
structure Link.Unfinal (k : Link) : Prop where
  head : ∀ h, k.head = some h → .final ∉ h.entry.requesters
  waiting : ∀ x ∈ k.waiting, .final ∉ x.requesters

namespace Link.Unfinal

variable {k : Link} {f : Frame}

/-- Another head or other waiting entries. -/
theorem headTo {h : TxHead} (fresh : .final ∉ h.entry.requesters) (u : k.Unfinal) :
    Link.Unfinal { k with head := some h } := ⟨fun _ same => Option.some.inj same ▸ fresh, u.waiting⟩

theorem waitingTo {l : List TxEntry} (fresh : ∀ x ∈ l, .final ∉ x.requesters) (u : k.Unfinal) :
    Link.Unfinal { k with waiting := l } := ⟨u.head, fresh⟩

theorem enqueue {x : TxEntry} (fresh : .final ∉ x.requesters) (u : k.Unfinal) : (k.enqueue x).Unfinal := by
  unfold Link.enqueue
  split
  · exact u.headTo fresh
  · refine u.waitingTo fun y m => (List.mem_append.mp m).elim (u.waiting y) fun m => ?_
    rw [List.mem_singleton.mp m]
    exact fresh

theorem replaceStateRoof {l m : List TxEntry} (place : replaceStateRoof f .other l = some m)
    (u : ∀ x ∈ l, .final ∉ x.requesters) : ∀ x ∈ m, .final ∉ x.requesters := by
  induction l generalizing m with
  | nil => cases place
  | cons y l ih =>
    have rest : ∀ x ∈ l, .final ∉ x.requesters := fun x h => u x (List.mem_cons_of_mem _ h)
    unfold Machine.replaceStateRoof at place
    split at place
    · cases place
      refine List.forall_mem_cons.mpr ⟨?_, rest⟩
      simpa using u y List.mem_cons_self
    · obtain ⟨w, hw, rfl⟩ := Option.map_eq_some_iff.mp place
      exact List.forall_mem_cons.mpr ⟨u y List.mem_cons_self, ih hw rest⟩

theorem replaceInPlace {m : Link} (place : k.replaceInPlace f .other = some m) (u : k.Unfinal) : m.Unfinal := by
  unfold Link.replaceInPlace at place
  split at place
  · rename_i h head
    split at place
    · cases place
      exact u.headTo (by simpa using u.head h head)
    · obtain ⟨w, hw, rfl⟩ := Option.map_eq_some_iff.mp place
      exact u.waitingTo (replaceStateRoof hw u.waiting)
  · cases place

theorem offerTail {a : Act} (u : a.link.Unfinal) : (a.offerTail f .other).2.link.Unfinal := by
  unfold Act.offerTail
  split
  · exact u
  · split
    · exact u.enqueue (by simp)
    · exact u

theorem offerStateRoof {a : Act} {e : Env} (u : a.link.Unfinal) : (a.offerStateRoof .other e).2.link.Unfinal := by
  unfold Act.offerStateRoof
  dsimp only
  split
  · exact u
  · split
    · exact u.replaceInPlace ‹_›
    · exact u.offerTail

end Link.Unfinal

/-! ### The own address heard (R166) -/

/-- R166: the mode becomes SAFE, and a close that waits is cancelled. -/
def Act.duplicateSafe (e : Env) (kind : Nat) (a : Act) : Act :=
  let b := (a.log .duplicateAddress a.station (n16 kind) (n32 a.startup.mode.code)).setMode e .safe
  (b.setStartup { b.startup with listenTimer := none, joinTimer := none }).cancelClose

/-- R166: a CLOSED gate is opened. -/
def Act.reopened (e : Env) (a : Act) : Act := if a.link.gateOpen then a else a.openGate e

theorem Act.duplicateHeard_eq {a : Act} (safe : a.startup.mode ≠ .safe) (start : a.startup.mode ≠ .start) (e : Env)
    (kind : Nat) : a.duplicateHeard e kind = ((a.duplicateSafe e kind).reopened e).alert .duplicate none := by
  unfold Act.duplicateHeard
  split
  · rfl
  · rfl
  · rfl
  · rfl
  · rfl
  · exact absurd ‹_› safe
  · exact absurd ‹_› start

theorem Act.duplicateHeard_safe {a : Act} (safe : a.startup.mode = .safe) (e : Env) (kind : Nat) :
    a.duplicateHeard e kind = a := by
  unfold Act.duplicateHeard
  rw [safe]

/-- What the way to SAFE leaves. -/
structure Act.MadeSafe (kind : Nat) (a b : Act) : Prop where
  startup : b.startup = { a.startup with mode := .safe, listenTimer := none, joinTimer := none, pendingClose := false }
  link : b.link = { a.link with head := b.link.head, waiting := b.link.waiting }
  unfinal : b.link.Unfinal
  logs : ∃ l, b.logs = a.logs ++ a.entry .duplicateAddress a.station (n16 kind) (n32 a.startup.mode.code) :: l
  tells : b.Tells .modeChanged
  first : a.inbox.reports = [] → ∃ l, b.inbox.reports = .modeChanged :: l ∧ ∀ r ∈ l, r.Plain

theorem Act.cancelClose_unfinal (a : Act) : a.cancelClose.link.Unfinal := by
  refine ⟨fun h head => ?_, fun x waits => ?_⟩
  · obtain ⟨g, -, rfl⟩ := Option.map_eq_some_iff.mp head
    simp
  · obtain ⟨y, -, rfl⟩ := List.mem_map.mp waits
    simp

theorem Act.duplicateSafe_spec (e : Env) (kind : Nat) (a : Act) : Act.MadeSafe kind a (a.duplicateSafe e kind) := by
  let warned := a.log .duplicateAddress a.station (n16 kind) (n32 a.startup.mode.code)
  let mode := (warned.setStartup { warned.startup with mode := .safe }).log .mode 255
    (n16 (bytes2 Mode.safe.code warned.startup.mode.code)) 0
  let told := (mode.push .modeChanged).evalDue
  have ended : Act.Queues told (told.bidsEnd e) := (Act.Queues.refl _).bidsEnd
  have startup : told.startup = { a.startup with mode := .safe } := Act.push_startup ..
  have link : told.link = a.link := Act.push_link ..
  have logs : told.logs = mode.logs := Act.push_logs ..
  refine ⟨?_, ?_, Act.cancelClose_unfinal _, ?_, ended.tells (mode.push_tells .modeChanged), fun empty => ?_⟩
  · have kept := ended.startup.trans startup
    exact congrArg (fun x : Startup => { x with listenTimer := none, joinTimer := none, pendingClose := false }) kept
  · have queued := ended.link
    rw [link] at queued
    exact congrArg (fun k : Link => { k with
      head := (a.duplicateSafe e kind).link.head, waiting := (a.duplicateSafe e kind).link.waiting }) queued
  · obtain ⟨l, written⟩ := ended.logs
    rw [logs] at written
    rw [show mode.logs = a.logs ++ [_] ++ [_] from rfl, List.append_assoc, List.append_assoc] at written
    exact ⟨_, written⟩
  · obtain ⟨l, sent, plain⟩ := ended.reports
    have one : told.inbox.reports = [.modeChanged] := by
      show (mode.push .modeChanged).inbox.reports = _
      rw [Act.push_inbox, show mode.inbox.reports = [] from empty]
      rfl
    exact ⟨l, sent.trans (by rw [one]; rfl), plain⟩

/-- R58, R166: the gate is OPEN, and seed and STATE timer are of its opening, or as they were behind an OPEN gate. -/
structure Act.Reopened (own now : Nat) (a b : Act) : Prop extends Act.Appends a b where
  startup : b.startup = a.startup
  link : b.link = { a.link with
    gateOpen := true
    seed := if a.link.gateOpen then a.link.seed else some (own, now)
    stateTimer := if a.link.gateOpen then a.link.stateTimer else some 50
    head := b.link.head, waiting := b.link.waiting }
  unfinal : a.link.Unfinal → b.link.Unfinal

theorem Act.reopened_spec {a : Act} {own : Nat} (address : a.link.address = some own) (e : Env) :
    Act.Reopened own e.now a (a.reopened e) := by
  unfold Act.reopened
  split
  · rename_i gate
    refine ⟨.of_eq, rfl, ?_, id⟩
    simp only [gate, if_true]
    rw [← gate]
  · rename_i gate
    let opened : Act := { a with link := { a.link with
      gateOpen := true, seed := some (own, e.now), stateTimer := some 50 } }
    have offered : a.openGate e = (opened.offerStateRoof .other e).2 := by
      unfold Act.openGate
      rw [address]
    have queues : Act.Queues opened (opened.offerStateRoof .other e).2 := (Act.Queues.refl _).offerStateRoof
    rw [offered]
    refine ⟨Act.Appends.trans (b := opened) .of_eq queues.toAppends, queues.startup, ?_, fun u =>
      Link.Unfinal.offerStateRoof (a := opened) ⟨u.head, u.waiting⟩⟩
    simp only [gate]
    exact queues.link

/-- R59, R71: an offered ALERT is taken, or the queue has no room for it. -/
def Act.AlertOutcome (x : Alert) (a b : Act) : Prop :=
  b.link.lastAlert = some x
    ∧ (b.link.head.map TxHead.entry = some { frame := .alert x, requesters := [.other] }
      ∨ ({ frame := .alert x, requesters := [.other] } : TxEntry) ∈ b.link.waiting)
  ∨ b.link.lastAlert = a.link.lastAlert ∧ 8 ≤ b.link.length
    ∧ ∃ l, b.logs = l ++ [b.entry .txFull 255 5 (n32 b.link.length)]

/-- What an ALERT that is offered behind an OPEN gate leaves. -/
structure Act.Warned (x : Alert) (a b : Act) : Prop extends Act.Appends a b where
  startup : b.startup = a.startup
  link : b.link = { a.link with lastAlert := b.link.lastAlert, head := b.link.head, waiting := b.link.waiting }
  unfinal : a.link.Unfinal → b.link.Unfinal
  outcome : Act.AlertOutcome x a b

theorem Act.alert_warned {a : Act} (gate : a.link.gateOpen = true) (c : AlertCode) (i : Option Slot) :
    Act.Warned { code := c, slot := i } a (a.alert c i) := by
  by_cases room : a.link.length < 8
  · have taken := a.alert_alerted c i
    unfold Link.Alerted at taken
    rw [if_pos ⟨gate, room⟩] at taken
    have run : a.alert c i =
        { a with link := { a.link.enqueue { frame := .alert { code := c, slot := i }, requesters := [.other] } with
          lastAlert := some { code := c, slot := i } } } := by
      simp [Act.alert, Act.offerTail, gate, room]
    rw [run] at taken ⊢
    refine ⟨.of_eq, rfl, ?_, fun u => ?_, .inl taken⟩
    · dsimp only
      unfold Link.enqueue
      split <;> rfl
    · have queued := u.enqueue (x := { frame := .alert { code := c, slot := i }, requesters := [.other] }) (by simp)
      exact ⟨queued.head, queued.waiting⟩
  · have run : a.alert c i = a.log .txFull 255 5 (n32 a.link.length) := by
      simp [Act.alert, Act.offerTail, gate, room, Frame.kind, n16]
    rw [run]
    exact ⟨((Act.Queues.refl a).log).toAppends, rfl, rfl, id, .inr ⟨rfl, Nat.not_lt.mp room, _, rfl⟩⟩

/-! ### The commands -/

/-- R166: what a frame from the own address brings about in a mode other than SAFE and START. -/
structure Act.DuplicateHeard (own now kind : Nat) (a b : Act) : Prop where
  startup : b.startup = { a.startup with mode := .safe, listenTimer := none, joinTimer := none, pendingClose := false }
  link : b.link = { a.link with
    gateOpen := true
    seed := if a.link.gateOpen then a.link.seed else some (own, now)
    stateTimer := if a.link.gateOpen then a.link.stateTimer else some 50
    lastAlert := b.link.lastAlert, head := b.link.head, waiting := b.link.waiting }
  unfinal : b.link.Unfinal
  logs : ∃ l, b.logs = a.logs ++ a.entry .duplicateAddress own (n16 kind) (n32 a.startup.mode.code) :: l
  tells : b.Tells .modeChanged
  first : a.inbox.reports = [] → ∃ l, b.inbox.reports = .modeChanged :: l ∧ ∀ r ∈ l, r.Plain
  outcome : Act.AlertOutcome { code := .duplicate, slot := none } a b

theorem Act.duplicateHeard_spec {a : Act} {own : Nat} (address : a.link.address = some own)
    (safe : a.startup.mode ≠ .safe) (start : a.startup.mode ≠ .start) (e : Env) (kind : Nat) :
    Act.DuplicateHeard own e.now kind a (a.duplicateHeard e kind) := by
  have made := a.duplicateSafe_spec e kind
  have opened := Act.reopened_spec ((congrArg Link.address made.link).trans address) e
  have warned := Act.alert_warned (congrArg Link.gateOpen opened.link) .duplicate none
  rw [← Act.duplicateHeard_eq safe start] at warned
  have appends := opened.toAppends.trans warned.toAppends
  obtain ⟨sent, reports, plain⟩ := appends.reports
  obtain ⟨written, logs⟩ := appends.logs
  have station : a.station = own := congrArg (Option.getD · 0) address
  refine ⟨warned.startup.trans (opened.startup.trans made.startup), ?_, warned.unfinal (opened.unfinal made.unfinal),
    ?_, appends.tells made.tells, fun empty => ?_, ?_⟩
  · have link := warned.link
    rw [opened.link, made.link] at link
    exact link
  · obtain ⟨l, first⟩ := made.logs
    rw [station] at first
    exact ⟨l ++ written, by rw [logs, first, List.append_assoc, List.cons_append]⟩
  · obtain ⟨l, first, calm⟩ := made.first empty
    exact ⟨l ++ sent, by rw [reports, first, List.cons_append],
      fun r m => (List.mem_append.mp m).elim (calm r) (plain r)⟩
  · have outcome := warned.outcome
    unfold Act.AlertOutcome at outcome
    rw [opened.link, made.link] at outcome
    exact outcome

/-- What the end of the event keeps of Start-up Controller and transmit lane. -/
theorem State.finish_kept (s : State) :
    Startup.Kept s.act.startup s.finish.act.startup ∧ Link.Kept s.act.link s.finish.act.link := by
  obtain ⟨b, settled, finished⟩ := s.finish_settles
  rw [finished]
  exact ⟨settled.startup, settled.link⟩

/-- Settles O36. -/
theorem framesDiscarded : Obligations.FramesDiscarded := by
  refine ⟨?_, ?_⟩
  · intro s dst src kind len rest listening counted
    have cut (h : 56 < len.toNat ∨ rest.length < len.toNat + 2) :
        exec (.framingError (dst :: src :: kind :: len :: rest)) s = .next counted.finish :=
      congrArg (fun u => Host.Outcome.next (State.finish u)) (State.receiveBytes_cut listening h)
    refine ⟨fun bytes short => ?_, fun h => ⟨cut h, fun quiet => ?_⟩, fun payload c0 c1 fits length parts => ?_⟩
    · exact congrArg (fun u => Host.Outcome.next (State.finish u)) (State.receiveBytes_short listening short)
    · rw [cut h, State.Quiet.finish (s := counted) quiet]
    · subst parts
      have whole := State.receiveBytes_whole (dst := dst) (src := src) (kind := kind) (c0 := c0) (c1 := c1) listening
        fits length
      exact ⟨fun bad => congrArg (fun u => Host.Outcome.next (State.finish u)) (whole.trans (if_neg bad)),
        fun good => congrArg (fun u => Host.Outcome.next (State.finish u)) (whole.trans (if_pos good))⟩
  · intro s dst src kind payload listening counted
    have raw {t : State} (h : s.receiveRaw dst src kind payload = t) :
        exec (.unknownKind dst src kind payload) s = .next t.finish :=
      congrArg (fun u => Host.Outcome.next (State.finish u)) h
    refine ⟨fun unset => raw (State.receiveRaw_unaddressed listening unset payload), fun own address =>
      ⟨fun out => ?_, fun h undecoded => raw (State.receiveRaw_undecoded h undecoded),
        fun low high destination same safe start => ?_, fun low high destination same safe => ?_⟩⟩
    · have run := raw (State.receiveRaw_range listening address out payload)
      exact ⟨run, fun quiet => run.trans (congrArg _ (State.Quiet.finish (s := counted) quiet))⟩
    · let b : State := s.onAct fun e a => a.duplicateHeard e kind.toNat
      have heard : Act.DuplicateHeard own s.env.now kind.toNat s.act b.act :=
        Act.duplicateHeard_spec address safe start s.env kind.toNat
      have mode : b.act.startup.mode = .safe := congrArg Startup.mode heard.startup
      obtain ⟨startup, link⟩ := b.finish_kept
      refine ⟨b, b.finish, raw (State.receiveRaw_own listening address low high destination same payload), rfl,
        heard.tells, fun quiet => ?_, heard.logs, congrArg Link.gateOpen heard.link, fun gate => ⟨?_, ?_⟩,
        fun gate => ⟨?_, ?_⟩, congrArg Startup.pendingClose heard.startup, heard.unfinal.head, heard.unfinal.waiting,
        heard.outcome, rfl, ?_, ?_, ?_, ?_⟩
      · obtain ⟨l, reports, plain⟩ := heard.first (congrArg Inbox.reports quiet.1)
        exact State.finish_dormant reports (.inr ⟨rfl, by rw [mode]; nofun⟩) fun v q m => plain _ m v q rfl
      · exact (congrArg Link.seed heard.link).trans (if_pos gate)
      · exact (congrArg Link.stateTimer heard.link).trans (if_pos gate)
      · exact (congrArg Link.seed heard.link).trans (if_neg (by simp [gate]))
      · exact (congrArg Link.stateTimer heard.link).trans (if_neg (by simp [gate]))
      · rcases startup.mode with kept | ⟨muting, -⟩
        · exact kept.trans mode
        · rw [mode] at muting
          cases muting
      · exact startup.listenTimer.trans (congrArg Startup.listenTimer heard.startup)
      · exact startup.joinTimer.trans (congrArg Startup.joinTimer heard.startup)
      · exact link.unknownKinds.trans (congrArg Link.unknownKinds heard.link :)
    · refine raw ((State.receiveRaw_own listening address low high destination same payload).trans ?_)
      unfold State.onAct
      dsimp only
      rw [Act.duplicateHeard_safe safe]

end Sys2Proof.Machine

namespace Sys2Proof.Machine

/-! ## What every step keeps of the Peer View (R75, R77, R79, R82, R83, R86)

`State.Tabled` is what must hold when the authority is recomputed, and `State.Tabled.reauthorize` makes the invariant of it. A
change of the table that leaves the owning cabs needs no recomputation (`State.PeersInv.retabled`). -/

/-- `State.PeersInv` but for authority, conflict flag and the PRESENT hold, which a recomputation sets. -/
structure State.Tabled (s : State) : Prop where
  table : TableInv s.env.pv.table
  holding : s.env.pv.hold = .holding ↔ s.env.pv.holdTimer.isSome = true
  speed : s.env.pv.geometry.speed ≤ 4000
  length : s.env.pv.geometry.length ≤ 8000
  own : ∀ p ∈ s.env.pv.table, s.act.link.address ≠ some p.address
  unset : s.act.link.address = none → s.env.pv.table = []
  start : s.act.startup.mode = .start → s.act.link.address = none

theorem State.PeersInv.tabled {s : State} (h : s.PeersInv) : s.Tabled :=
  ⟨h.view.table, h.view.holding, h.view.speed, h.view.length, h.own, h.unset, h.start⟩

/-- What these invariants read of the reacting blocks stays. -/
structure Act.StationKept (a b : Act) : Prop where
  address : b.link.address = a.link.address
  start : b.startup.mode = .start → a.startup.mode = .start

theorem Act.StationKept.trans {a b c : Act} (h : Act.StationKept a b) (k : Act.StationKept b c) : Act.StationKept a c :=
  ⟨k.address.trans h.address, fun x => h.start (k.start x)⟩

theorem Act.StationKept.of_holds {a b : Act} (h : Act.Holds a b) : Act.StationKept a b := ⟨h.address, h.start⟩

theorem State.Tabled.aside {s t : State} (h : s.Tabled) (k : Act.StationKept s.act t.act) (pv : t.env.pv = s.env.pv) :
    t.Tabled where
  table := pv ▸ h.table
  holding := pv ▸ h.holding
  speed := pv ▸ h.speed
  length := pv ▸ h.length
  own := by rw [pv, k.address]; exact h.own
  unset := by rw [pv, k.address]; exact h.unset
  start := fun x => k.address.trans (h.start (k.start x))

theorem State.PeersInv.aside {s t : State} (h : s.PeersInv) (k : Act.StationKept s.act t.act) (pv : t.env.pv = s.env.pv) :
    t.PeersInv := by
  have tabled := h.tabled.aside k pv
  exact ⟨pv ▸ h.view, tabled.own, tabled.unset, tabled.start⟩

/-- R82, R83: a recomputation makes authority, conflict flag and hold follow the table. -/
theorem State.Tabled.reauthorize {s : State} (h : s.Tabled) : s.reauthorize.PeersInv := by
  obtain ⟨table, -⟩ := s.env.pv.reauthorize_rest
  rw [State.reauthorize_eq]
  refine ⟨PeerView.reauthorize_inv h.table h.holding h.speed h.length, ?_, ?_, h.start⟩
  · dsimp only
    rw [table]
    exact h.own
  · dsimp only
    rw [table]
    exact h.unset

/-- A table whose owning cabs are the same needs no recomputation. -/
theorem State.PeersInv.retabled {s t : State} (h : s.PeersInv) (k : t.Tabled) (pv : t.env.pv =
    { s.env.pv with table := t.env.pv.table }) (owners : t.env.pv.owners = s.env.pv.owners) : t.PeersInv where
  view := ⟨k.table.order, k.table.range, k.table.aging, k.table.bids,
    by rw [owners, pv]; exact h.view.authority, by rw [owners, pv]; exact h.view.conflict,
    by rw [pv]; exact h.view.present, k.holding, k.speed, k.length⟩
  own := k.own
  unset := k.unset
  start := k.start

/-! ### Changes of the table -/

/-- R75, R76: an entry of another node is put in place. -/
theorem State.Tabled.put {s : State} {p : Peer} (h : s.Tabled) (set : s.act.link.address ≠ none)
    (other : s.act.link.address ≠ some p.address) (range : 1 ≤ p.address ∧ p.address ≤ 15)
    (aging : p.ageTimer.isSome = p.fresh ∧ p.removalTimer.isSome = !p.fresh) (bids : p.bidTimer.isSome = p.bid.isSome) :
    (s.setPv (s.env.pv.put p)).Tabled where
  table := h.table.upsert range aging bids
  holding := h.holding
  speed := h.speed
  length := h.length
  own := fun x m => (upsert_mem m).elim (fun k => k ▸ other) (h.own x)
  unset := fun none => absurd none set
  start := h.start

/-- An entry that is there is put anew, under its address. -/
theorem State.Tabled.replace {s : State} {a : Nat} {p q : Peer} (h : s.Tabled) (found : s.env.pv.entry a = some p)
    (address : q.address = p.address) (aging : q.ageTimer.isSome = q.fresh ∧ q.removalTimer.isSome = !q.fresh)
    (bids : q.bidTimer.isSome = q.bid.isSome) : (s.setPv (s.env.pv.put q)).Tabled := by
  have m := PeerView.entry_mem found
  refine h.put (fun none => ?_) (address ▸ h.own p m) (address ▸ h.table.range p m) aging bids
  rw [h.unset none] at m
  cases m

theorem State.Tabled.drop {s : State} (h : s.Tabled) (n : Nat) : (s.setPv (s.env.pv.drop n)).Tabled where
  table := h.table.filter
  holding := h.holding
  speed := h.speed
  length := h.length
  own := fun x m => h.own x (List.mem_of_mem_filter m)
  unset := fun none => congrArg (List.filter _) (h.unset none)
  start := h.start

/-- R82: a roof owns nothing, nor does an entry that is not FRESH. -/
theorem ownsAs_roof {p : Peer} (h : p.last.isRoof = true) : ownsAs p = none := by
  unfold ownsAs
  cases k : p.last with
  | roof x => rfl
  | cab x => rw [k] at h; cases h

/-- What a BID, a CEDE, an ALERT or a bid timer may do to an entry. -/
structure Peer.Noted (p q : Peer) : Prop where
  address : q.address = p.address
  last : q.last = p.last
  fresh : q.fresh = p.fresh
  ageTimer : q.ageTimer = p.ageTimer
  removalTimer : q.removalTimer = p.removalTimer
  bids : p.bidTimer.isSome = p.bid.isSome → q.bidTimer.isSome = q.bid.isSome

theorem Peer.Noted.owns {p q : Peer} (h : Peer.Noted p q) : ownsAs q = ownsAs p := by
  unfold ownsAs
  rw [h.last, h.fresh, h.address]

/-- R79: a bid that is cleared takes its timer with it. -/
theorem Peer.clearBid_noted (p : Peer) : Peer.Noted p { p.clearBid with address := p.address, last := p.last } :=
  ⟨rfl, rfl, rfl, rfl, rfl, fun _ => rfl⟩

theorem State.PeersInv.noted {s : State} {a : Nat} {p q : Peer} (h : s.PeersInv) (found : s.env.pv.entry a = some p)
    (noted : Peer.Noted p q) : (s.setPv (s.env.pv.put q)).PeersInv := by
  have m := PeerView.entry_mem found
  have address : q.address = a := noted.address.trans (PeerView.entry_address found)
  refine h.retabled (h.tabled.replace found noted.address ?_ (noted.bids (h.view.bids p m))) rfl
    (owners_put h.view.order (fun r here => ?_) fun none => ?_)
  · rw [noted.ageTimer, noted.removalTimer, noted.fresh]
    exact h.view.aging p m
  · rw [address, found] at here
    cases here
    exact noted.owns.symm
  · rw [address, found] at none
    cases none

/-! ### Geometry (R86 to R88) -/

theorem State.PeersInv.regeometry {s : State} {g : Geometry} (h : s.PeersInv) (speed : g.speed ≤ 4000)
    (length : g.length ≤ 8000) : (s.setPv { s.env.pv with geometry := g }).PeersInv :=
  ⟨⟨h.view.order, h.view.range, h.view.aging, h.view.bids, h.view.authority, h.view.conflict, h.view.present,
    h.view.holding, speed, length⟩, h.own, h.unset, h.start⟩

/-- R86: speed and length are clamped, or stay as they were. -/
theorem Geometry.take_ranges {g : Geometry} (speed : g.speed ≤ 4000) (length : g.length ≤ 8000) (now : Nat)
    (c : CabPayload) : (g.take now c).1.speed ≤ 4000 ∧ (g.take now c).1.length ≤ 8000 := by
  cases known : g.known with
  | false =>
    rw [Geometry.take_unknown now c known]
    exact ⟨Nat.min_le_left .., Nat.min_le_left ..⟩
  | true =>
    by_cases same : c.direction = g.direction
    · rw [Geometry.take_onward now c known same]
      exact ⟨Nat.min_le_left .., Nat.min_le_left ..⟩
    · by_cases stands : c.speed.toNat = 0
      · rw [Geometry.take_turned now c known same stands]
        exact ⟨Nat.zero_le _, Nat.min_le_left ..⟩
      · rw [Geometry.take_refused now c known same stands]
        exact ⟨speed, length⟩

end Sys2Proof.Machine

namespace Sys2Proof.Machine

/-! ### A STATE frame that is stored (R76, R78) -/

/-- R82: the authority is recomputed where the frame is a cab's or the entry it finds is. -/
def StatePayload.concernsCabs (x : StatePayload) (old : Option Peer) : Bool :=
  !x.isRoof || (match old with | some p => !p.last.isRoof | none => false)

/-- R76, R78: a STATE frame is stored in its sender's entry, with its record, and a change of the view is told. -/
def State.storePeer (src : Nat) (x : StatePayload) (s : State) : State :=
  let old := s.env.pv.entry src
  let t := (s.setPv (s.env.pv.put (heardPeer s.env.now src x old))).onAct fun _ a => a.notePeer src x (seenAs x old)
  if x.isRoof || (match old with | some p => p.last.isRoof | none => false) then t.onAct fun _ a => a.viewChanged else t

/-- R76, R82: and the authority is recomputed where cabs are concerned. -/
def State.placePeer (src : Nat) (x : StatePayload) (s : State) : State :=
  if x.concernsCabs (s.env.pv.entry src) then (s.storePeer src x).reauthorize else s.storePeer src x

theorem State.stateHeard_placed_roof (src : Nat) (p : RoofPayload) (s : State) : s.stateHeard src (.roof p) =
    (s.placePeer src (.roof p)).onAct fun e a => a.controlsChanged s.env.pv e := rfl

theorem State.stateHeard_placed_cab (src : Nat) (c : CabPayload) (s : State) : s.stateHeard src (.cab c) =
    let t := s.placePeer src (.cab c)
    if t.env.pv.authority = some src then
      (t.takeGeometry c).onAct fun e a => (a.controlsChanged s.env.pv e).cabTaken e
    else t.onAct fun e a => a.controlsChanged s.env.pv e := rfl

/-- R76: the record of a STATE frame. -/
def Act.peerRecords (src : Nat) (x : StatePayload) (seen : Seen) (a : Act) : List LogEntry :=
  match seen with
  | .joined => [a.entry .peerJoined src (n16 x.kindCode) 0]
  | .moved => [a.entry .peerMoved src (n16 x.kindCode) (n32 x.dAs)]
  | .refreshed => []

theorem Act.notePeer_records (src : Nat) (x : StatePayload) (seen : Seen) (a : Act) :
    a.notePeer src x seen = { a with logs := a.logs ++ a.peerRecords src x seen } := by
  cases seen with
  | joined | moved => rfl
  | refreshed => exact congrArg (fun l => { a with logs := l }) (List.append_nil _).symm

/-- What storing a STATE frame makes of the part. -/
structure State.PeerStored (src : Nat) (x : StatePayload) (s t : State) : Prop where
  rest : t = { s with
    env := { s.env with pv := s.env.pv.put (heardPeer s.env.now src x (s.env.pv.entry src)) }, act := t.act }
  act : t.act = { s.act with
    inbox := t.act.inbox, logs := s.act.logs ++ s.act.peerRecords src x (seenAs x (s.env.pv.entry src)) }

theorem State.storePeer_stored (src : Nat) (x : StatePayload) (s : State) :
    State.PeerStored src x s (s.storePeer src x) := by
  have viewed {t : State} {p : Prop} [Decidable p] (h : State.PeerStored src x s t) :
      State.PeerStored src x s (if p then t.onAct fun _ a => a.viewChanged else t) := by
    split
    · exact ⟨congrArg (State.onAct fun _ a => a.viewChanged) h.rest, congrArg Act.viewChanged h.act⟩
    · exact h
  refine viewed ⟨rfl, ?_⟩
  rw [State.onAct_act, State.setPv_act, Act.notePeer_records]

section
variable {src : Nat} {x : StatePayload} {s t : State}

theorem State.PeerStored.stationKept (h : State.PeerStored src x s t) : Act.StationKept s.act t.act := by
  rw [h.act]
  exact ⟨rfl, id⟩

theorem State.PeerStored.pv (h : State.PeerStored src x s t) :
    t.env.pv = s.env.pv.put (heardPeer s.env.now src x (s.env.pv.entry src)) := by rw [h.rest]

/-- R75: the frame's sender is another node with an address of its own. -/
theorem State.PeerStored.tabled {own : Nat} (h : State.PeerStored src x s t) (i : s.Tabled)
    (address : s.act.link.address = some own) (range : 1 ≤ src ∧ src ≤ 15) (other : src ≠ own) : t.Tabled := by
  have timed := heardPeer_timers (now := s.env.now) (a := src) (x := x) (old := s.env.pv.entry src)
    fun p found => i.table.bids p (PeerView.entry_mem found)
  obtain ⟨sender, -, fresh, age, removal, bids⟩ := timed
  refine (i.put (p := heardPeer s.env.now src x (s.env.pv.entry src)) (by simp [address])
    (by rw [address, sender]; simpa using Ne.symm other) (by rw [sender]; exact range) ?_ bids).aside h.stationKept h.pv
  rw [fresh, age, removal]
  exact ⟨rfl, rfl⟩

end

/-- R82: a roof stored anew, or in place of a roof, leaves the owning cabs. -/
theorem owners_put_roof {v : PeerView} (order : Ordered v.table) {src : Nat} {x : StatePayload} {now : Nat}
    (roofs : x.concernsCabs (v.entry src) = false) (address : (heardPeer now src x (v.entry src)).address = src)
    (last : (heardPeer now src x (v.entry src)).last = x) :
    (v.put (heardPeer now src x (v.entry src))).owners = v.owners := by
  unfold StatePayload.concernsCabs at roofs
  obtain ⟨roof, old⟩ := Bool.or_eq_false_iff.mp roofs
  have new : ownsAs (heardPeer now src x (v.entry src)) = none := ownsAs_roof (by rw [last]; simpa using roof)
  refine owners_put order (fun q found => ?_) fun _ => new
  rw [address] at found
  rw [found] at old
  rw [new, ownsAs_roof (by simpa using old)]

theorem State.placePeer_inv {src own : Nat} {x : StatePayload} {s : State} (i : s.PeersInv)
    (address : s.act.link.address = some own) (range : 1 ≤ src ∧ src ≤ 15) (other : src ≠ own) :
    (s.placePeer src x).PeersInv := by
  have stored := s.storePeer_stored src x
  have tabled := stored.tabled i.tabled address range other
  unfold State.placePeer
  split
  · exact tabled.reauthorize
  · rename_i roofs
    obtain ⟨sender, last, -⟩ := heardPeer_timers (now := s.env.now) (a := src) (x := x) (old := s.env.pv.entry src)
      fun p found => i.view.bids p (PeerView.entry_mem found)
    have owners := owners_put_roof i.view.order (Bool.eq_false_iff.mpr roofs) sender last
    exact i.retabled tabled (by rw [stored.pv]; rfl) (by rw [stored.pv]; exact owners)

end Sys2Proof.Machine

namespace Sys2Proof.Machine

/-! ### Entering a mode (R163, R165) -/

/-- R165: a mode that is entered is the one asked for, or one that a reaction to it enters, which is never START. -/
theorem Act.setMode_entered {m : Mode} (k : m ≠ .start) (e : Env) (a : Act) : (a.setMode e m).startup.mode ≠ .start := by
  have kept : Act.Keeps e (a.setStartup { a.startup with mode := m }) (a.setMode e m) := by
    unfold Act.setMode
    dsimp only
    split
    · exact (Act.Keeps.refl _).log.push.evalDue
    · exact (Act.Keeps.refl _).log.push.evalDue.bidsEnd
  exact fun start => k (kept.start start)

theorem Act.acceptLoad_entered (e : Env) (c : Loaded) (n : Nat) (a : Act) : (a.acceptLoad e c n).startup.mode ≠ .start :=
  Act.setMode_entered (m := .listen) nofun e _

theorem Startup.attempt_start {x : Startup} {n : Nat} (h : x.attempt = some n) : x.mode = .start := by
  unfold Startup.attempt at h
  split at h
  · assumption
  · cases h

/-! ### What each command keeps -/

theorem State.reportArming_address (dst src : Nat) (s : State) :
    (s.reportArming dst src).act.link.address = s.act.link.address :=
  (Act.Keeps.refl (e := s.env) s.act).armingFrame.address

/-- The invariant of the Peer View passes from `s` to `t`. -/
def State.KeepsPeers (s t : State) : Prop := s.PeersInv → t.PeersInv

namespace State.KeepsPeers

variable {s s0 t : State}

theorem refl (s : State) : State.KeepsPeers s s := id

theorem trans {u : State} (h : State.KeepsPeers s t) (k : State.KeepsPeers t u) : State.KeepsPeers s u := fun i => k (h i)

/-- A write beside view, address and mode. -/
theorem aside (h : State.KeepsPeers s0 s) (k : Act.StationKept s.act t.act := by exact ⟨rfl, id⟩)
    (pv : t.env.pv = s.env.pv := by rfl) : State.KeepsPeers s0 t := fun i => (h i).aside k pv

theorem ite {p : Prop} [Decidable p] {u : State} (h : State.KeepsPeers s t) (k : State.KeepsPeers s u) :
    State.KeepsPeers s (if p then t else u) := by split <;> assumption

theorem onAct {f : Env → Act → Act} (k : ∀ e a, Act.Keeps e a (f e a)) (h : State.KeepsPeers s0 s) :
    State.KeepsPeers s0 (s.onAct f) := h.aside (.of_holds (k s.env s.act).toHolds)

/-- The passing of time leaves addresses and freshness, and every timer that runs runs on. -/
theorem elapse (n : Nat) : State.KeepsPeers s (s.elapse n) := by
  intro i
  refine ⟨PeerView.elapse_inv i.view n, fun p m => ?_, fun none => congrArg (List.map _) (i.unset none), i.start⟩
  obtain ⟨q, here, rfl⟩ := List.mem_map.mp m
  exact i.own q here

theorem onExpiry {k : State → State} (g : ∀ u, State.KeepsPeers u (k u)) (timer : Timer) :
    State.KeepsPeers s (s.onExpiry timer k) := by
  cases timer with
  | none => exact .refl s
  | some n => exact (elapse n).trans (g _)

theorem onPeerExpiry {k : State → State} (g : ∀ u, State.KeepsPeers u (k u)) (address : Nat) (timer : Peer → Timer) :
    State.KeepsPeers s (s.onPeerExpiry address timer k) := by
  unfold State.onPeerExpiry
  split
  · exact onExpiry g _
  · exact refl s

/-- The end of the event. -/
theorem finish (h : State.KeepsPeers s0 s) : State.KeepsPeers s0 s.finish := by
  obtain ⟨b, settled, finished⟩ := s.finish_settles
  rw [finished]
  exact h.aside ((Act.StationKept.of_holds (Act.Keeps.of_settles settled).toHolds).trans ⟨rfl, id⟩)

/-! ### Resets and the load -/

/-- R92: after a reset the table is empty. -/
theorem of_reset {now : Nat} (pv : t.env.pv = PeerView.reset now)
    (start : t.act.startup.mode = .start → t.act.link.address = none) : State.KeepsPeers s t := by
  have empty : t.env.pv.table = [] := congrArg PeerView.table pv
  refine fun _ => ⟨?_, fun p m => ?_, fun _ => empty, start⟩
  · rw [pv]
    exact PeerView.reset_inv now
  · rw [empty] at m
    cases m

theorem afterReset (e : Env) (x : Startup) (slots : Pair SlotRec) (address : Option Nat) (logs : List LogEntry) :
    (Act.afterReset e x slots address logs).link.address = address
    ∧ ((Act.afterReset e x slots address logs).startup.mode = .start → x.mode = .start) := by
  have kept : ∃ b, Act.Keeps e b (Act.afterReset e x slots address logs) ∧ b.link.address = address ∧ b.startup = x :=
    ⟨_, (Act.Keeps.resetSwitchgear _).takeReading, rfl, rfl⟩
  obtain ⟨b, k, at_, mode⟩ := kept
  exact ⟨k.address.trans at_, fun start => mode ▸ k.start start⟩

theorem powerOn {pins : Pins} : State.KeepsPeers s (s.powerOn pins) := of_reset rfl fun _ => (afterReset ..).1

theorem linkReset {src : Nat} {x : Int} : State.KeepsPeers s (s.linkReset src x) :=
  of_reset rfl fun start => absurd ((afterReset ..).2 start) nofun

/-- R165: the address is set in START, where the table is empty. -/
theorem attemptEnded {buffer : List Byte} : State.KeepsPeers s (s.attemptEnded buffer) := by
  unfold State.attemptEnded
  split
  · rename_i n attempt
    dsimp only
    split
    · split
      · exact (refl s).onAct fun _ a => (Act.Keeps.refl a).startupTo (by exact id)
      · exact (refl s).onAct fun _ a => (Act.Keeps.refl a).rejectLoad
    · split
      · exact (refl s).onAct fun _ a => (Act.Keeps.refl a).rejectLoad
      · intro i
        have empty := i.unset (i.start (Startup.attempt_start attempt))
        obtain ⟨-, -, -, -, address⟩ := Act.Keeps.acceptLoad
          (e := { s.env with cfg := some (readBlock (blockOf buffer)) }) (a := s.act)
          (c := readBlock (blockOf buffer)) (n := n)
        refine ⟨i.view, fun p m => ?_, fun _ => empty, fun start => ?_⟩
        · have none : p ∈ s.env.pv.table := m
          rw [empty] at none
          cases none
        · exact absurd start (Act.acceptLoad_entered _ _ _ _)
  · exact refl s

/-! ### Line Classifier and Peer View -/

theorem classifier {f : Classifier → Classifier × List ClsRecord} : State.KeepsPeers s (s.classifier f) := by
  have logged (e : Env) := (Act.Keeps.refl (e := e) s.act).logClassifier (l := (f s.env.cls).2)
  rw [State.classifier_eq]
  split
  · exact (refl s).aside (.of_holds (logged s.env).toHolds)
  · exact (refl s).aside (.of_holds (logged _).confirmedChanged.toHolds)

theorem viewChanged (h : State.KeepsPeers s0 s) : State.KeepsPeers s0 (s.onAct fun _ a => a.viewChanged) :=
  h.onAct fun _ a => (Act.Keeps.refl a).viewChanged

theorem controlsChanged {v : PeerView} (h : State.KeepsPeers s0 s) :
    State.KeepsPeers s0 (s.onAct fun e a => a.controlsChanged v e) :=
  h.onAct fun _ a => (Act.Keeps.refl a).controlsChanged

theorem takeGeometry {c : CabPayload} : State.KeepsPeers s (s.takeGeometry c) := by
  intro i
  obtain ⟨rest, taken⟩ := s.takeGeometry_taken c
  obtain ⟨speed, length⟩ := Geometry.take_ranges i.view.speed i.view.length s.env.now c
  refine (i.regeometry speed length).aside ?_ (by rw [rest]; rfl)
  rw [taken.frame]
  exact ⟨rfl, id⟩

theorem stateHeard {src own : Nat} {x : StatePayload} (address : s.act.link.address = some own)
    (range : 1 ≤ src ∧ src ≤ 15) (other : src ≠ own) : State.KeepsPeers s (s.stateHeard src x) := by
  have placed : State.KeepsPeers s (s.placePeer src x) := fun i => State.placePeer_inv i address range other
  cases x with
  | roof p =>
    rw [State.stateHeard_placed_roof]
    exact placed.controlsChanged
  | cab c =>
    rw [State.stateHeard_placed_cab]
    exact ite ((placed.trans takeGeometry).onAct fun _ a => (Act.Keeps.refl a).controlsChanged.cabTaken)
      placed.controlsChanged

theorem updatePeer {address : Nat} {f : Peer → Peer}
    (g : ∀ p, Peer.Noted p { f p with address := p.address, last := p.last }) :
    State.KeepsPeers s (s.updatePeer address f) := by
  unfold State.updatePeer
  split
  · exact refl s
  · rename_i p found
    have put : State.KeepsPeers s (s.setPv (s.env.pv.put { f p with address := p.address, last := p.last })) :=
      fun i => i.noted found (g p)
    exact put.viewChanged.ite put

theorem bidHeard {src : Nat} {b : BidPayload} : State.KeepsPeers s (s.bidHeard src b) := by
  unfold State.bidHeard
  refine State.KeepsPeers.onAct (fun _ a => (Act.Keeps.refl a).bidDelivered) (updatePeer fun p => ?_)
  exact ⟨rfl, rfl, rfl, rfl, rfl, fun _ => rfl⟩

theorem cedeHeard {src : Nat} {n : Byte} : State.KeepsPeers s (s.cedeHeard src n) := by
  refine (updatePeer fun p => ?_).onAct fun _ a => (Act.Keeps.refl a).evalDue
  unfold Peer.ceded
  split
  · split
    · exact Peer.clearBid_noted p
    · exact ⟨rfl, rfl, rfl, rfl, rfl, id⟩
  · exact ⟨rfl, rfl, rfl, rfl, rfl, id⟩

theorem alertHeard {src : Nat} {x : Alert} : State.KeepsPeers s (s.alertHeard src x) := by
  have dropped {u : State} (h : State.KeepsPeers s u) :
      State.KeepsPeers s (if x.code = .dropped then u.onAct fun e a => a.peerDropped e else u) :=
    (h.onAct fun _ a => (Act.Keeps.refl a).peerDropped).ite h
  unfold State.alertHeard
  refine dropped ?_
  split
  · rename_i p found
    exact fun i => i.noted found ⟨rfl, rfl, rfl, rfl, rfl, id⟩
  · exact refl s

/-- R77, R82: an entry of the table has changed or left; a cab's gives the authority anew. -/
theorem peerChanged {u : State} {v : PeerView} {p : Peer} (tabled : s.PeersInv → u.Tabled)
    (roof : s.PeersInv → p.last.isRoof = true → u.PeersInv) :
    State.KeepsPeers s (if p.last.isRoof then u.onAct fun _ a => a.viewChanged
      else u.reauthorize.onAct fun e a => a.controlsChanged v e) := by
  split
  · rename_i isRoof
    exact viewChanged fun i => roof i isRoof
  · exact controlsChanged fun i => (tabled i).reauthorize

theorem peerAged {address : Nat} : State.KeepsPeers s (s.peerAged address) := by
  unfold State.peerAged
  split
  · exact refl s
  · rename_i p found
    let q : Peer := { p with fresh := false, ageTimer := none, removalTimer := some 9850 }
    have tabled (i : s.PeersInv) : (s.setPv (s.env.pv.put q)).Tabled :=
      i.tabled.replace found rfl ⟨rfl, rfl⟩ (i.view.bids p (PeerView.entry_mem found))
    have roof (i : s.PeersInv) (isRoof : p.last.isRoof = true) : (s.setPv (s.env.pv.put q)).PeersInv := by
      refine i.retabled (tabled i) rfl (owners_put i.view.order (fun r here => ?_) fun _ => ownsAs_roof isRoof)
      have same := here.symm.trans (PeerView.entry_address found ▸ found)
      cases same
      exact (ownsAs_roof isRoof).trans (ownsAs_roof (p := q) isRoof).symm
    exact peerChanged (fun i => (tabled i).aside ⟨rfl, id⟩ rfl) fun i isRoof => (roof i isRoof).aside ⟨rfl, id⟩ rfl

theorem peerRemoved {address : Nat} : State.KeepsPeers s (s.peerRemoved address) := by
  unfold State.peerRemoved
  split
  · exact refl s
  · rename_i p found
    have tabled (i : s.PeersInv) : (s.setPv (s.env.pv.drop address)).Tabled := i.tabled.drop address
    have roof (i : s.PeersInv) (isRoof : p.last.isRoof = true) : (s.setPv (s.env.pv.drop address)).PeersInv := by
      refine i.retabled (tabled i) rfl (owners_drop fun r m at_ => ownsAs_roof ?_)
      have same := found.symm.trans (at_ ▸ i.view.table.order.entry m)
      cases same
      exact isRoof
    exact peerChanged (fun i => (tabled i).aside ⟨rfl, id⟩ rfl) fun i isRoof => (roof i isRoof).aside ⟨rfl, id⟩ rfl

/-- R83: the hold that is lost leaves the absent authority. -/
theorem holdExpired : State.KeepsPeers s s.holdExpired := by
  unfold State.holdExpired
  split
  · rename_i holding
    refine State.KeepsPeers.onAct
      (fun _ a => (Act.Keeps.refl a).log.lower.lower.push.bidsEnd.evalDue) fun i => ?_
    have absent : s.env.pv.authority.isSome = true → False := fun some => by
      have present := i.view.present.mpr some
      rw [holding] at present
      cases present
    exact ⟨⟨i.view.order, i.view.range, i.view.aging, i.view.bids, i.view.authority, i.view.conflict,
      ⟨nofun, fun some => (absent some).elim⟩, ⟨nofun, nofun⟩, i.view.speed, i.view.length⟩, i.own, i.unset, i.start⟩
  · exact refl s
  · exact refl s

theorem odometerStale : State.KeepsPeers s s.odometerStale := by
  unfold State.odometerStale
  exact State.KeepsPeers.onAct (fun _ a => (Act.Keeps.refl a).log.push)
    fun i => i.regeometry (g := { s.env.pv.geometry with odoStale := true }) i.view.speed i.view.length

theorem capReached : State.KeepsPeers s s.capReached := (refl s).ite ((elapse _).trans odometerStale)

/-! ### Frames -/

theorem reportArming {dst src : Nat} : State.KeepsPeers s (s.reportArming dst src) :=
  (refl s).onAct fun _ a => (Act.Keeps.refl a).armingFrame

theorem obey {dst src : Nat} {v : Verb} {mask : Byte} : State.KeepsPeers s (s.obey dst src v mask) := by
  unfold State.obey
  cases v with
  | lock => exact (refl s).onAct fun _ a => (Act.Keeps.refl a).lockOrder
  | unlock => exact (refl s).onAct fun _ a => (Act.Keeps.refl a).unlockOrder
  | clearFault => exact (refl s).onAct fun _ a => (Act.Keeps.refl a).clearFaultOrder
  | prefer => exact (refl s).onAct fun _ a => (Act.Keeps.refl a).preferOrder
  | resume => exact (refl s).onAct fun _ a => (Act.Keeps.refl a).resumeOrder
  | mute => exact (refl s).onAct fun _ a => (Act.Keeps.refl a).muteOrder
  | unmute => exact (refl s).onAct fun _ a => (Act.Keeps.refl a).unmuteOrder
  | resetArm => exact refl s
  | reset => exact refl s

theorem whenAdmitted {k : State → State} (g : ∀ u, State.KeepsPeers u (k u)) {dst src kind verb : Nat} {source : Bool} :
    State.KeepsPeers s (s.whenAdmitted dst src kind verb source k) := by
  unfold State.whenAdmitted
  exact (refl s).ite ((g s).ite ((refl s).onAct fun _ a => (Act.Keeps.refl a).log))

theorem acceptOrder {dst src : Nat} {v : Verb} {mask : Byte} {t : Int} :
    State.KeepsPeers s (s.acceptOrder dst src v mask t) := by
  unfold State.acceptOrder State.armOrder State.resetOrder
  have all {x : Verb} : State.KeepsPeers s (s.onAct fun _ a => a.armingForAll src x) :=
    (refl s).onAct fun _ a => (Act.Keeps.refl a).armingForAll
  refine ((all.ite ?_).ite (all.ite (linkReset.ite ?_))).ite (reportArming.trans (whenAdmitted fun _ => obey))
  · exact (refl s).onAct fun _ a => (Act.Keeps.refl a).arm
  · exact (refl s).onAct fun _ a => (Act.Keeps.refl a).log

/-- R67: a frame is accepted from another node only. -/
theorem accept {dst src own : Nat} {f : Frame} {t : Int} (valid : frameValid f = true)
    (address : s.act.link.address = some own) (range : 1 ≤ src ∧ src ≤ 15) (other : src ≠ own) :
    State.KeepsPeers s (s.accept dst src f t) := by
  have heard {x : StatePayload} : State.KeepsPeers s ((s.reportArming dst src).stateHeard src x) :=
    reportArming.trans (stateHeard ((State.reportArming_address ..).trans address) range other)
  unfold State.accept
  cases f with
  | order v mask arg => exact acceptOrder
  | stateRoof p => exact heard
  | stateCab p => exact heard
  | bid b => exact reportArming.trans bidHeard
  | cede n => exact reportArming.trans cedeHeard
  | alert x => exact reportArming.trans alertHeard
  | route n =>
    have named : n.id ≠ 0 := by simpa [frameValid] using valid
    exact reportArming.trans (whenAdmitted fun u => (refl u).onAct fun _ a => (Act.Keeps.refl a).routeTaken named)
  | cancel id =>
    exact reportArming.trans (whenAdmitted fun u => (refl u).onAct fun _ a => (Act.Keeps.refl a).cancelTaken)

theorem checkFrame {dst src kind : Nat} {f : Option Frame} {t : Int} :
    State.KeepsPeers s (s.checkFrame dst src kind f t) := by
  have counted : State.KeepsPeers s s.countUnknown := (refl s).aside
  unfold State.checkFrame
  split
  · exact refl s
  · rename_i own address
    split
    · exact counted
    · rename_i fields
      split
      · exact (refl s).onAct fun _ a => (Act.Keeps.refl a).duplicateHeard
      · rename_i other
        split
        · rename_i valid
          exact accept (Option.filter_eq_some_iff.mp valid).2 address (by omega) other
        · exact counted

theorem hear {k : State → State} (g : ∀ u, State.KeepsPeers u (k u)) : State.KeepsPeers s (s.hear k) := by
  unfold State.hear
  exact (refl s).ite (g s)

theorem receive {dst src : Byte} {f : Frame} {t : Int} : State.KeepsPeers s (s.receive dst src f t) :=
  hear fun _ => checkFrame

theorem receiveBytes {bytes : List Byte} : State.KeepsPeers s (s.receiveBytes bytes) := by
  refine hear fun u => ?_
  have counted : State.KeepsPeers u u.countCrc := (refl u).aside
  split
  · exact counted.ite (checkFrame.ite counted)
  · exact refl u

/-! ### Contacts and the service port -/

theorem setPins {p : Pins} : State.KeepsPeers s (s.setPins p) := (refl s).aside

theorem endSwitchShows {p : Position} {closed : Bool} : State.KeepsPeers s (s.endSwitchShows p closed) := by
  unfold State.endSwitchShows
  exact setPins.onAct fun _ a => (Act.Keeps.refl a).endSwitch

theorem isolatorShows {i : Slot} {c : Contact} : State.KeepsPeers s (s.isolatorShows i c) := by
  unfold State.isolatorShows
  exact setPins.onAct fun _ a => (Act.Keeps.refl a).isolatorContact

theorem breakerShows {closed : Bool} : State.KeepsPeers s (s.breakerShows closed) := by
  unfold State.breakerShows
  exact setPins.onAct fun _ a => (Act.Keeps.refl a).breakerContact

theorem travelEnded : State.KeepsPeers s s.travelEnded := by
  unfold State.travelEnded
  split
  · exact endSwitchShows
  all_goals exact refl s

theorem takeCommand {code : Byte} {arg : Half} : State.KeepsPeers s (s.takeCommand code arg) := by
  unfold State.takeCommand
  split <;> exact (refl s).aside

theorem judge {b0 c1 c2 d0 d1 : Byte} : State.KeepsPeers s (s.judge b0 c1 c2 d0 d1) := takeCommand.ite (refl s).aside

theorem gather {b : Byte} : State.KeepsPeers s (s.gather b) := by
  unfold State.gather
  split
  · exact judge
  · exact (refl s).aside

theorem command {f : State → State} (g : ∀ u, State.KeepsPeers u (f u)) : State.KeepsPeers s (s.command f) :=
  (refl s).ite (g s)

end State.KeepsPeers

/-- Every command has a next state, and keeps the invariant of the Peer View. -/
theorem exec_keepsPeers (c : Instr) (s : State) : ∃ t, exec c s = .next t ∧ State.KeepsPeers s t := by
  have reacts {f : Env → Act → Act} (g : ∀ e a, Act.Keeps e a (f e a)) (u : State) : State.KeepsPeers u (u.onAct f) :=
    (State.KeepsPeers.refl u).onAct g
  have expires {k : State → State} (g : ∀ u, State.KeepsPeers u (k u)) (timer : Timer) :
      State.KeepsPeers s (State.finish (s.onExpiry timer k)) := (State.KeepsPeers.onExpiry g timer).finish
  cases c
  -- the Peer View's own commands, the resets and the load
  case powerOnReset => exact ⟨_, rfl, State.KeepsPeers.powerOn.finish⟩
  case configAttemptEnd => exact ⟨_, rfl, State.KeepsPeers.attemptEnded.finish⟩
  case lock | unlock | clearFaultSlots | clearFaultSwitchgear | prefer | resume | mute | unmute | resetArm | reset
      | stateRoof | stateCab | bid | cede | alert | route | cancel =>
    exact ⟨_, rfl, State.KeepsPeers.receive.finish⟩
  case framingError => exact ⟨_, rfl, State.KeepsPeers.receiveBytes.finish⟩
  case unknownKind => exact ⟨_, rfl, (State.KeepsPeers.hear fun _ => .checkFrame).finish⟩
  case peerAgeExpiry => exact ⟨_, rfl, (State.KeepsPeers.onPeerExpiry (fun _ => .peerAged) _ _).finish⟩
  case peerRemovalExpiry => exact ⟨_, rfl, (State.KeepsPeers.onPeerExpiry (fun _ => .peerRemoved) _ _).finish⟩
  case peerBidTimerExpiry =>
    exact ⟨_, rfl, (State.KeepsPeers.onPeerExpiry
      (fun _ => .updatePeer Peer.clearBid_noted) _ _).finish⟩
  case authorityHoldExpiry => exact ⟨_, rfl, expires (fun _ => .holdExpired) _⟩
  case odoStale => exact ⟨_, rfl, State.KeepsPeers.capReached.finish⟩
  case moderationCountEnd => exact ⟨_, rfl, (State.KeepsPeers.elapse _).finish⟩
  -- commands of the other blocks
  case sampleFrame => exact ⟨_, rfl, State.KeepsPeers.classifier.finish⟩
  case lossTimerExpiry | silenceTimerExpiry | surgeMaskExpiry => exact ⟨_, rfl, expires (fun _ => .classifier) _⟩
  case selectorTravelEnd => exact ⟨_, rfl, State.KeepsPeers.travelEnded.finish⟩
  case selectorEndSwitchChange => exact ⟨_, rfl, State.KeepsPeers.endSwitchShows.finish⟩
  case isolatorClosed | isolatorOpened | isolatorContactConflict => exact ⟨_, rfl, State.KeepsPeers.isolatorShows.finish⟩
  case breakerOpened | breakerContactConflict | breakerTrip => exact ⟨_, rfl, State.KeepsPeers.breakerShows.finish⟩
  case breakerClosed =>
    exact ⟨_, rfl, (State.KeepsPeers.setPins.onAct fun _ a => (Act.Keeps.refl a).breakerCloses).finish⟩
  case slotUp => exact ⟨_, rfl, (State.KeepsPeers.setPins.onAct fun _ a => (Act.Keeps.refl a).upSwitch).finish⟩
  case slotDown => exact ⟨_, rfl, (State.KeepsPeers.setPins.onAct fun _ a => (Act.Keeps.refl a).downSwitch).finish⟩
  case slotDropped => exact ⟨_, rfl, (State.KeepsPeers.setPins.onAct fun _ a => (Act.Keeps.refl a).addContact).finish⟩
  case selectorTravelTimeout => exact ⟨_, rfl, expires (reacts fun _ a => (Act.Keeps.refl a).travelTimeout) _⟩
  case isolatorTimeout => exact ⟨_, rfl, expires (reacts fun _ a => (Act.Keeps.refl a).isolatorTimeout) _⟩
  case breakerCloseTimeout => exact ⟨_, rfl, expires (reacts fun _ a => (Act.Keeps.refl a).breakerCloseTimeout) _⟩
  case breakerOpenTimeout => exact ⟨_, rfl, expires (reacts fun _ a => (Act.Keeps.refl a).breakerOpenTimeout) _⟩
  case riseTimeout => exact ⟨_, rfl, expires (reacts fun _ a => (Act.Keeps.refl a).riseTimeout) _⟩
  case lowerTimeout => exact ⟨_, rfl, expires (reacts fun _ a => (Act.Keeps.refl a).lowerTimeout) _⟩
  case armingTimerExpiry => exact ⟨_, rfl, expires (reacts fun _ a => (Act.Keeps.refl a).disarm) _⟩
  case listenTimerExpiry => exact ⟨_, rfl, expires (reacts fun _ a => (Act.Keeps.refl a).listenExpired) _⟩
  case joinTimerExpiry => exact ⟨_, rfl, expires (reacts fun _ a => (Act.Keeps.refl a).joinExpired) _⟩
  case stateTimerExpiry => exact ⟨_, rfl, expires (reacts fun _ a => (Act.Keeps.refl a).stateTimerExpired) _⟩
  case bidWindowExpiry => exact ⟨_, rfl, expires (reacts fun _ a => (Act.Keeps.refl a).windowExpired) _⟩
  case bidSpacingExpiry => exact ⟨_, rfl, expires (reacts fun _ a => (Act.Keeps.refl a).spacingExpired) _⟩
  case noticeReviewTimerExpiry => exact ⟨_, rfl, expires (reacts fun _ a => (Act.Keeps.refl a).noticeReview) _⟩
  case seqRetryExpiry => exact ⟨_, rfl, expires (reacts fun _ a => (Act.Keeps.refl a).retryExpired) _⟩
  case testRetryExpiry => exact ⟨_, rfl, expires (reacts fun _ a => (Act.Keeps.refl a).testRetryExpired) _⟩
  case powerlessTimerExpiry => exact ⟨_, rfl, expires (reacts fun _ a => (Act.Keeps.refl a).powerlessExpired) _⟩
  case noSupplyTimerExpiry => exact ⟨_, rfl, expires (reacts fun _ a => (Act.Keeps.refl a).noSupplyExpired) _⟩
  case recloseHoldExpiry => exact ⟨_, rfl, expires (reacts fun _ a => (Act.Keeps.refl a).recloseHoldExpired) _⟩
  case seqReviewTimerExpiry => exact ⟨_, rfl, expires (reacts fun _ a => (Act.Keeps.refl a).seqReview) _⟩
  case iceReviewTimerExpiry => exact ⟨_, rfl, expires (reacts fun _ a => (Act.Keeps.refl a).iceReviewExpired) _⟩
  case iceIntervalEnd =>
    exact ⟨_, rfl, expires (fun _ => State.KeepsPeers.setPins.onAct fun _ a => (Act.Keeps.refl a).intervalEnd) _⟩
  case roofTestCompletion => exact ⟨_, rfl, (reacts (fun _ a => (Act.Keeps.refl a).completeTest) s).finish⟩
  case attemptStart => exact ⟨_, rfl, (reacts (fun _ a => (Act.Keeps.refl a).attemptStart) s).finish⟩
  case collision => exact ⟨_, rfl, (reacts (fun _ a => (Act.Keeps.refl a).collide) s).finish⟩
  case jamEnd => exact ⟨_, rfl, (reacts (fun _ a => (Act.Keeps.refl a).jamEnd) s).aside.finish⟩
  case backoffExpiry => exact ⟨_, rfl, (reacts (fun _ a => (Act.Keeps.refl a).backoffEnd) s).finish⟩
  case frameSent => exact ⟨_, rfl, (reacts (fun _ a => (Act.Keeps.refl a).frameSent) s).finish⟩
  case arcPulse => exact ⟨_, rfl, (reacts (fun _ a => (Act.Keeps.refl a).arcPulse) s).finish⟩
  case status | events | ack | peers | notices | config | counters =>
    exact ⟨_, rfl, (State.KeepsPeers.command fun u => (State.KeepsPeers.refl u).aside).finish⟩
  case badFrame => exact ⟨_, rfl, (State.KeepsPeers.command fun _ => .judge).finish⟩
  case unknownCommand => exact ⟨_, rfl, (State.KeepsPeers.command fun _ => .takeCommand).finish⟩
  case serviceByte => exact ⟨_, rfl, (State.KeepsPeers.command fun _ => .gather).finish⟩
  case serviceByteGapExpiry => exact ⟨_, rfl, expires (fun u => (State.KeepsPeers.refl u).aside) _⟩
  case serviceReplyEnd => exact ⟨_, rfl, (State.KeepsPeers.refl s).aside.finish⟩

/-- Settles O45: time passes on an empty queue, and a command keeps what `exec_keepsPeers` says. -/
theorem peerViewKept : Obligations.PeerViewKept := by
  intro s t i h
  cases q : s.pending with
  | nil =>
    simp only [step, q] at h
    cases h
    exact State.KeepsPeers.elapse 1 i
  | cons c rest =>
    simp only [step, q] at h
    obtain ⟨u, run, kept⟩ := exec_keepsPeers c { s with pending := rest }
    rw [run] at h
    cases h
    exact ((State.KeepsPeers.refl s).aside.trans kept) i

end Sys2Proof.Machine

namespace Sys2Proof.Machine

/-! ## Train geometry (R87, R89, R90) -/

/-- R90. -/
theorem Geometry.lead_eq (g : Geometry) :
    g.lead = if 500 ≤ g.speed * 3000 / 3600 then g.speed * 3000 / 3600 else 500 := by
  unfold Geometry.lead
  split <;> omega

/-- R89: the Dfront with end A leading. -/
theorem Geometry.dfront_aLeads {g : Geometry} (h : g.direction = .aLeads) (dA : Nat) :
    g.dfront dA = if g.length < dA then g.length else dA := by
  unfold Geometry.dfront
  rw [h]
  dsimp only
  split <;> omega

/-- R89: the Dfront with end B leading. -/
theorem Geometry.dfront_bLeads {g : Geometry} (h : g.direction = .bLeads) (dA : Nat) :
    g.dfront dA = if g.length < dA then 0 else g.length - dA := by
  unfold Geometry.dfront
  rw [h]
  dsimp only
  split <;> omega

theorem Geometry.dfront_le (g : Geometry) (dA : Nat) : g.dfront dA ≤ g.length := by
  unfold Geometry.dfront
  split
  · exact Nat.min_le_right ..
  · exact Nat.sub_le ..

/-- R87: the extrapolation stops at 1,000 ms. -/
theorem Geometry.age_eq (g : Geometry) (now : Nat) :
    g.age now = if now - g.baseTime < 1000 then now - g.baseTime else 1000 := by
  unfold Geometry.age
  split <;> omega

/-- R87: within 32 bits the front odometer is base and extrapolation together. -/
theorem Geometry.front_within {g : Geometry} {now : Nat}
    (h : g.baseOdometer + g.speed * g.age now / 3600 < 4294967296) :
    g.front now = g.baseOdometer + g.speed * g.age now / 3600 := if_pos h

/-- Settles O44. -/
theorem leadAndPositions : Obligations.LeadAndPositions := by
  have at_speed {g : Geometry} {v : Nat} (h : g.speed = v) :
      g.lead = if 500 ≤ v * 3000 / 3600 then v * 3000 / 3600 else 500 := h ▸ g.lead_eq
  refine ⟨fun g => ⟨g.lead_eq, at_speed, at_speed, at_speed, at_speed, at_speed, at_speed⟩,
    fun g dA => ⟨fun a => Geometry.dfront_aLeads a dA, fun b => Geometry.dfront_bLeads b dA, g.dfront_le dA⟩,
    fun e dA => ⟨fun beyond => ?_, fun within => ?_⟩, fun g now => ?_⟩
  · exact Nat.sub_eq_zero_of_le (Nat.le_of_lt beyond)
  · exact Nat.sub_add_cancel within
  · intro x within
    have age : g.age now = x := g.age_eq now
    rw [← age] at within ⊢
    exact Geometry.front_within within

/-! ## The expiry of a timer that is not running (R3, R77, R87, R174; log 2) -/

/-- Where what a command does leaves the part, its event is the end of the event alone. -/
theorem State.event_idle {f : State → State} {s : State} (h : f s = s) :
    Host.Outcome.next (φ := Fault) (ρ := Refusal) (s.event f) = .next s.finish :=
  congrArg (fun t => Host.Outcome.next (State.finish t)) h

theorem State.onExpiry_stopped {timer : Timer} (h : timer = none) (k : State → State) (s : State) :
    s.onExpiry timer k = s := by rw [h, State.onExpiry_none]

theorem State.onPeerExpiry_absent {s : State} {a : Nat} (h : s.env.pv.entry a = none) (timer : Peer → Timer)
    (k : State → State) : s.onPeerExpiry a timer k = s := by
  unfold State.onPeerExpiry
  rw [h]

theorem State.onPeerExpiry_present {s : State} {a : Nat} {p : Peer} (h : s.env.pv.entry a = some p)
    (timer : Peer → Timer) (k : State → State) : s.onPeerExpiry a timer k = s.onExpiry (timer p) k := by
  unfold State.onPeerExpiry
  rw [h]

theorem State.capReached_stale {s : State} (h : s.env.pv.geometry.odoStale = true) : s.capReached = s := if_pos h

theorem Timer.elapse_zero (t : Timer) : Timer.elapse 0 t = t := by cases t <;> rfl

theorem Peer.elapse_zero (p : Peer) : Peer.elapse 0 p = p := by simp only [Peer.elapse, Timer.elapse_zero]

theorem Env.elapse_zero (e : Env) : e.elapse 0 = e := by
  have table : e.pv.table.map (Peer.elapse 0) = e.pv.table := by
    rw [funext Peer.elapse_zero]
    exact List.map_id _
  simp only [Env.elapse, Classifier.elapse, PeerView.elapse, Timer.elapse_zero, table, Nat.add_zero]

theorem Act.elapse_zero (a : Act) : a.elapse 0 = a := by
  simp only [Act.elapse, Isolator.elapse, SlotRec.elapse, Sequencer.elapse, Timer.elapse_zero]

/-- R174: with the line asserted where records are held and the counter at 0. -/
theorem Ring.elapse_zero {r : Ring} (attended : r.records ≠ [] → r.busy = true) :
    r.elapse 0 = r := by
  show Ring.attend r = r
  unfold Ring.attend
  split
  · rename_i held
    rw [← attended held.1]
  · rfl

theorem State.moderationEnds_idle {s : State} (h : s.ring.moderation = 0)
    (attended : s.ring.records ≠ [] → s.ring.busy = true) : s.moderationEnds = s := by
  unfold State.moderationEnds State.elapse
  rw [h, Env.elapse_zero, Act.elapse_zero, Ring.elapse_zero attended, Timer.elapse_zero]

/-- Settles O5. -/
theorem stoppedTimersDoNothing : Obligations.StoppedTimersDoNothing := by
  intro s
  have idle {timer : Timer} {k : State → State} (stopped : timer = none) :
      Host.Outcome.next (φ := Fault) (ρ := Refusal) (State.finish (s.onExpiry timer k)) = .next s.finish :=
    State.event_idle (State.onExpiry_stopped stopped k s)
  have absent {a : Nat} {timer : Peer → Timer} {k : State → State} (none : s.env.pv.entry a = none) :
      Host.Outcome.next (φ := Fault) (ρ := Refusal) (State.finish (s.onPeerExpiry a timer k)) = .next s.finish :=
    State.event_idle (State.onPeerExpiry_absent none timer k)
  have still {a : Nat} {p : Peer} {timer : Peer → Timer} {k : State → State} (found : s.env.pv.entry a = some p)
      (stopped : timer p = none) :
      Host.Outcome.next (φ := Fault) (ρ := Refusal) (State.finish (s.onPeerExpiry a timer k)) = .next s.finish :=
    State.event_idle ((State.onPeerExpiry_present found timer k).trans (State.onExpiry_stopped stopped k s))
  exact ⟨idle, idle, idle, idle, fun _ => idle, fun h => ⟨idle h, idle h⟩, fun _ => idle, fun _ => idle, idle, idle,
    fun _ none => ⟨absent none, absent none, absent none⟩,
    fun _ _ found => ⟨still found, still found, still found⟩, idle,
    fun stale => State.event_idle (State.capReached_stale stale), idle, idle, idle, idle, idle, idle, idle, idle, idle,
    fun _ => idle, idle, idle, idle, fun h attended => State.event_idle (State.moderationEnds_idle h attended), idle⟩

end Sys2Proof.Machine

namespace Sys2Proof.Machine

/-! ## BID, CEDE and ALERT in the sender's entry (R79 to R81) -/

/-- What the change of one entry in place makes of the part, before other blocks learn of it. -/
structure State.PeerUpdated (a : Nat) (g : Peer → Peer) (s t : State) : Prop where
  rest : t = { s with env := { s.env with pv := { s.env.pv with table := t.env.pv.table } }, act := t.act }
  entry : t.env.pv.entry a = (s.env.pv.entry a).map g
  others : ∀ b, b ≠ a → t.env.pv.entry b = s.env.pv.entry b
  logs : t.act.logs = s.act.logs

section
variable {s : State} {a : Nat} {g : Peer → Peer}

theorem State.PeerUpdated.absent (h : s.env.pv.entry a = none) : State.PeerUpdated a g s s :=
  ⟨rfl, by rw [h]; rfl, fun _ _ => rfl, rfl⟩

theorem State.PeerUpdated.put {p : Peer} (h : s.env.pv.entry a = some p) (address : (g p).address = p.address) :
    State.PeerUpdated a g s (s.setPv (s.env.pv.put (g p))) := by
  have here : (g p).address = a := address.trans (PeerView.entry_address h)
  refine ⟨rfl, ?_, fun b other => ?_, rfl⟩
  · exact (PeerView.entry_put ..).trans (by rw [if_pos here.symm, h]; rfl)
  · exact (PeerView.entry_put ..).trans (if_neg (by rw [here]; exact other))

end

/-- R78, R79: an entry changed in place, with its address and its last payload. -/
theorem State.updatePeer_updated (a : Nat) (f : Peer → Peer) (s : State) :
    State.PeerUpdated a (fun p => { f p with address := p.address, last := p.last }) s (s.updatePeer a f) := by
  unfold State.updatePeer
  split
  · exact .absent ‹_›
  · rename_i p found
    have put := State.PeerUpdated.put (g := fun p => { f p with address := p.address, last := p.last }) found rfl
    dsimp only at put ⊢
    split
    · exact ⟨rfl, put.entry, put.others, rfl⟩
    · exact put

/-- R81: an ALERT is kept in its sender's entry. -/
def State.keepAlert (src : Nat) (x : Alert) (s : State) : State :=
  match s.env.pv.entry src with
  | some p => s.setPv (s.env.pv.put { p with alert := some (x, s.env.now) })
  | none => s

theorem State.keepAlert_updated (src : Nat) (x : Alert) (s : State) :
    State.PeerUpdated src (fun p => { p with alert := some (x, s.env.now) }) s (s.keepAlert src x) := by
  unfold State.keepAlert
  split
  · exact .put (g := fun p => { p with alert := some (x, s.env.now) }) ‹_› rfl
  · exact .absent ‹_›

/-- R153: what a DROPPED brings about is no matter of the view. -/
theorem State.alertHeard_env (src : Nat) (x : Alert) (s : State) :
    (s.alertHeard src x).env = (s.keepAlert src x).env := by
  unfold State.alertHeard
  dsimp only
  split <;> rfl

/-- R80: an entry whose pending bid has the number. -/
theorem Peer.ceded_named {p : Peer} {b : PeerBid} {n : Byte} (h : p.bid = some b) (named : b.bid.number = n) :
    p.ceded n = { p with bid := none, bidTimer := none } := by
  unfold Peer.ceded
  rw [h]
  exact if_pos named

/-- R80: any other entry. -/
theorem Peer.ceded_other {p : Peer} {n : Byte} (h : ∀ b, p.bid = some b → b.bid.number ≠ n) : p.ceded n = p := by
  unfold Peer.ceded
  split
  · exact if_neg (h _ ‹_›)
  · rfl

/-- What a frame does that changes one entry of the view in place: the end of its event leaves the view. -/
theorem State.finish_updated {a : Nat} {g : Peer → Peer} {s t u : State} (h : State.PeerUpdated a g s u)
    (env : t.env = u.env) :
    t.finish.env = { s.env with pv := { s.env.pv with table := u.env.pv.table } }
    ∧ t.finish.env.pv.entry a = (s.env.pv.entry a).map g
    ∧ ∀ b, b ≠ a → t.finish.env.pv.entry b = s.env.pv.entry b := by
  rw [State.finish_env, env]
  exact ⟨by rw [h.rest], h.entry, h.others⟩

/-- Settles O43. -/
theorem bidCedeAlertHeard : Obligations.BidCedeAlertHeard := by
  intro s own dst src hears same old
  have heard {f : Frame} {g : Peer → Peer} {t u : State} (valid : frameValid f = true)
      (run : s.accept dst.toNat src.toNat f s.env.pins.temperature = t)
      (updated : State.PeerUpdated src.toNat g (s.reportArming dst.toNat src.toNat) u) (env : t.env = u.env) :
      State.finish (s.receive dst src f s.env.pins.temperature) = t.finish ∧ same t.finish
      ∧ t.finish.env.pv.entry src.toNat = old.map g := by
    obtain ⟨frame, entry, others⟩ := State.finish_updated updated env
    refine ⟨by rw [State.receive_heard hears valid, run], ⟨?_, ?_, ?_, ?_, others⟩, entry⟩
    all_goals
      rw [frame]
      rfl
  refine ⟨fun b fits => ?_, fun number => ?_, fun x fits => ?_⟩
  · obtain ⟨run, kept, entry⟩ := heard (f := .bid b) (decide_eq_true fits) rfl
      (State.updatePeer_updated ..) rfl
    exact ⟨_, congrArg Host.Outcome.next run, kept, entry⟩
  · obtain ⟨run, kept, entry⟩ := heard (f := .cede number) rfl rfl (State.updatePeer_updated ..) rfl
    refine ⟨_, congrArg Host.Outcome.next run, kept, fun p b found pending named => ?_, fun p found others => ?_,
      fun none => ?_⟩
    · rw [entry, found, Option.map_some, Peer.ceded_named pending named]
    · rw [entry, found, Option.map_some, Peer.ceded_other others]
    · rw [entry, none]
      rfl
  · obtain ⟨run, kept, entry⟩ := heard (f := .alert x) fits rfl (State.keepAlert_updated ..)
      (State.alertHeard_env ..)
    exact ⟨_, congrArg Host.Outcome.next run, kept, entry⟩

end Sys2Proof.Machine

namespace Sys2Proof.Machine

/-! ## A STATE_ROOF or STATE_CAB in its sender's entry (R76, R78, R80) -/

/-! ### The controls that the view gives (R85) -/

/-- R85: the controls that an entry shows. -/
def shownBy : Option Peer → Option CabPayload
  | some p => match p.last with
    | .cab x => some x
    | .roof _ => none
  | none => none

theorem PeerView.controls_eq (v : PeerView) : v.controls =
    match v.hold, v.authority with
    | .present, some c => shownBy (v.entry c)
    | _, _ => none := rfl

theorem shownBy_last {p q : Peer} (h : q.last = p.last) : shownBy (some q) = shownBy (some p) := by
  unfold shownBy
  dsimp only
  rw [h]

theorem shownBy_roof {p : Peer} (h : p.last.isRoof = true) : shownBy (some p) = none := by
  unfold shownBy
  dsimp only
  split
  · rename_i cab
    rw [cab] at h
    cases h
  · rfl

/-- Views with one hold, one authority, and entries that show the same have one permit, expected system and ice mode. -/
structure PeerView.SameControls (v w : PeerView) : Prop where
  authority : w.authority = v.authority
  controls : w.controls = v.controls

theorem PeerView.SameControls.of_shown {v w : PeerView} (authority : w.authority = v.authority) (hold : w.hold = v.hold)
    (shown : ∀ c, shownBy (w.entry c) = shownBy (v.entry c)) : PeerView.SameControls v w := by
  refine ⟨authority, ?_⟩
  rw [PeerView.controls_eq, PeerView.controls_eq, hold, authority]
  split
  · exact shown _
  · rfl

theorem PeerView.SameControls.permit {v w : PeerView} (h : PeerView.SameControls v w) : w.permit = v.permit := by
  unfold PeerView.permit
  rw [h.controls]

/-- R82, R85: where nothing of it changes no block is told. -/
theorem Act.controlsChanged_same {old : PeerView} {e : Env} (h : PeerView.SameControls old e.pv) (a : Act) :
    a.controlsChanged old e = a := by
  have expected : e.pv.expected = old.expected := by
    unfold PeerView.expected
    rw [h.controls]
  have iceMode : e.pv.iceMode = old.iceMode := by
    unfold PeerView.iceMode
    rw [h.controls]
  unfold Act.controlsChanged
  simp [h.authority, h.permit, expected, iceMode]

/-! ### The entry that a STATE frame leaves (R76, R80) -/

/-- R76: an entry for what is heard, with no pending bid and no alert. -/
def newPeer (now address : Nat) (x : StatePayload) : Peer :=
  { address := address, last := x, fresh := true, heard := now, ageTimer := some 150, removalTimer := none
    bid := none, bidTimer := none, alert := none }

/-- R76: an entry of the same node kind keeps its pending bid and its alert, until R80 is asked. -/
def Peer.refreshed (now address : Nat) (x : StatePayload) (p : Peer) : Peer :=
  { newPeer now address x with bid := p.bid, bidTimer := p.bidTimer, alert := p.alert }

section
variable {now a : Nat} {x : StatePayload} {p : Peer}

theorem heardPeer_joined : heardPeer now a x none = newPeer now a x := rfl

/-- R76: an entry that changes its node kind begins anew. -/
theorem heardPeer_changed (h : p.last.isRoof ≠ x.isRoof) : heardPeer now a x (some p) = newPeer now a x := if_neg h

theorem heardPeer_refreshed (h : p.last.isRoof = x.isRoof) : heardPeer now a x (some p) =
    (p.refreshed now a x).heed x := if_pos h

/-- R80: a STATE_ROOF may clear the pending bid, and nothing else of the entry. -/
theorem Peer.heed_cases (x : StatePayload) (p : Peer) : p.heed x = p ∨ p.heed x = p.clearBid := by
  unfold Peer.heed
  split
  · split
    · exact .inr rfl
    · split
      · exact .inr rfl
      · exact .inl rfl
  · exact .inl rfl

theorem Peer.heed_cab (c : CabPayload) (p : Peer) : p.heed (.cab c) = p := rfl

/-- R80: a bid that is still shown in WINDOW. -/
theorem Peer.heed_shown {r : RoofPayload} {b : PeerBid} {o : OpenBid} (h : p.bid = some b) (shown : r.bid = some o)
    (window : o.committed = false) (number : o.number = b.bid.number) : p.heed (.roof r) = p := by
  unfold Peer.heed
  simp [h, shown, window, number]

/-- R80: a bid that is shown no longer, or not in WINDOW. -/
theorem Peer.heed_cleared {r : RoofPayload} {b : PeerBid} (h : p.bid = some b)
    (gone : ∀ o, r.bid = some o → o.committed = true ∨ o.number ≠ b.bid.number) : p.heed (.roof r) = p.clearBid := by
  unfold Peer.heed
  rw [h]
  dsimp only
  split
  · rfl
  · exact if_pos (gone _ ‹_›)

/-- R76, R77: the entry is its sender's, FRESH and with its age timer started. -/
structure Peer.Heard (now a : Nat) (x : StatePayload) (q : Peer) : Prop where
  address : q.address = a
  last : q.last = x
  fresh : q.fresh = true
  heard : q.heard = now
  ageTimer : q.ageTimer = some 150
  removalTimer : q.removalTimer = none

theorem heardPeer_heard (now a : Nat) (x : StatePayload) (old : Option Peer) :
    Peer.Heard now a x (heardPeer now a x old) := by
  cases old with
  | none => exact ⟨rfl, rfl, rfl, rfl, rfl, rfl⟩
  | some p =>
    by_cases same : p.last.isRoof = x.isRoof
    · rw [heardPeer_refreshed same]
      obtain kept | cleared := (p.refreshed now a x).heed_cases x
      · rw [kept]
        exact ⟨rfl, rfl, rfl, rfl, rfl, rfl⟩
      · rw [cleared]
        exact ⟨rfl, rfl, rfl, rfl, rfl, rfl⟩
    · rw [heardPeer_changed same]
      exact ⟨rfl, rfl, rfl, rfl, rfl, rfl⟩

/-- R81: a STATE frame of the same node kind leaves the alert. -/
theorem heardPeer_alert (h : p.last.isRoof = x.isRoof) : (heardPeer now a x (some p)).alert = p.alert := by
  rw [heardPeer_refreshed h]
  obtain kept | cleared := (p.refreshed now a x).heed_cases x
  · rw [kept]
    rfl
  · rw [cleared]
    rfl

end

/-! ### Its record (R76, R91) -/

/-- R76: what makes an entry MOVED. -/
def StatePayload.moves (x : StatePayload) (p : Peer) : Prop :=
  p.last.isRoof ≠ x.isRoof ∨ ∃ o r, p.last = .roof o ∧ x = .roof r
    ∧ (o.slots.zero.dA ≠ r.slots.zero.dA ∨ o.slots.one.dA ≠ r.slots.one.dA)

theorem seenAs_moved {x : StatePayload} {p : Peer} (h : x.moves p) : seenAs x (some p) = .moved := by
  unfold seenAs
  dsimp only
  rcases h with kind | ⟨o, r, last, rfl, dA⟩
  · cases last : p.last <;> cases x <;> simp_all [StatePayload.isRoof]
  · rw [last]
    exact if_neg (not_and_or.mpr dA)

theorem seenAs_refreshed {x : StatePayload} {p : Peer} (h : ¬ x.moves p) : seenAs x (some p) = .refreshed := by
  unfold StatePayload.moves at h
  obtain ⟨kind, dA⟩ := not_or.mp h
  unfold seenAs
  dsimp only
  cases last : p.last with
  | roof o =>
    cases x with
    | roof r =>
      have same : o.slots.zero.dA = r.slots.zero.dA ∧ o.slots.one.dA = r.slots.one.dA := by
        by_contra other
        exact dA ⟨o, r, last, rfl, not_and_or.mp other⟩
      exact if_pos same
    | cab c => exact absurd (by rw [last]; nofun) kind
  | cab o =>
    cases x with
    | roof r => exact absurd (by rw [last]; nofun) kind
    | cab c => rfl

/-- R82: a roof where there is none, or in place of a roof, concerns no cab. -/
theorem StatePayload.concernsCabs_roofs {x : StatePayload} {old : Option Peer} (roof : x.isRoof = true)
    (roofs : ∀ p, old = some p → p.last.isRoof = true) : x.concernsCabs old = false := by
  unfold StatePayload.concernsCabs
  rw [roof]
  cases old with
  | none => rfl
  | some p => simp [roofs p rfl]

/-! ### The frame's own effect, and what it brings about -/

/-- What a STATE frame that is heard makes of the part, up to the end of its event: its sender's entry, its record, and behind
it the records of the other blocks, which a roof's does not call for. -/
structure State.FrameStored (src : Nat) (x : StatePayload) (s b : State) : Prop where
  rest : b = { s with env := { s.env with pv := b.env.pv }, act := b.act }
  table : b.env.pv.table = upsert (heardPeer s.env.now src x (s.env.pv.entry src)) s.env.pv.table
  logs : ∃ fs, b.act.logs = s.act.logs ++ s.act.peerRecords src x (seenAs x (s.env.pv.entry src)) ++ fs
    ∧ (x.concernsCabs (s.env.pv.entry src) = false → fs = [])

section
variable {src : Nat} {x : StatePayload} {s b c : State}

theorem State.FrameStored.entry (h : State.FrameStored src x s b) (a : Nat) : b.env.pv.entry a =
    if a = src then some (heardPeer s.env.now src x (s.env.pv.entry src)) else s.env.pv.entry a := by
  have put := s.env.pv.entry_put (heardPeer s.env.now src x (s.env.pv.entry src)) a
  rw [(heardPeer_heard ..).address] at put
  rw [← put]
  unfold PeerView.entry
  rw [h.table]
  rfl

/-- What other blocks do behind it, where cabs are concerned. -/
theorem State.FrameStored.after (h : State.FrameStored src x s b)
    (rest : c = { b with env := { b.env with pv := c.env.pv }, act := c.act })
    (table : c.env.pv.table = b.env.pv.table) (cabs : x.concernsCabs (s.env.pv.entry src) = true)
    (logs : ∃ l, c.act.logs = b.act.logs ++ l) : State.FrameStored src x s c := by
  obtain ⟨fs, written, -⟩ := h.logs
  obtain ⟨l, more⟩ := logs
  refine ⟨?_, table.trans h.table, fs ++ l, by rw [more, written, List.append_assoc], fun none => ?_⟩
  · rw [rest, h.rest]
  · rw [cabs] at none
    cases none

end

theorem State.placePeer_stored (src : Nat) (x : StatePayload) (s : State) :
    State.FrameStored src x s (s.placePeer src x) := by
  have stored := s.storePeer_stored src x
  have kept : State.FrameStored src x s (s.storePeer src x) := by
    refine ⟨?_, ?_, [], ?_, fun _ => rfl⟩
    · rw [stored.pv]
      exact stored.rest
    · rw [stored.pv]
      rfl
    · rw [stored.act, List.append_nil]
  unfold State.placePeer
  split
  · rename_i cabs
    have eq := (s.storePeer src x).reauthorize_eq
    exact kept.after (by rw [eq]) (by rw [eq]; exact (PeerView.reauthorize_rest _).1) cabs ⟨_, by rw [eq]⟩
  · exact kept

/-- Where no cab is concerned the controls stay. -/
theorem State.placePeer_sameControls {src : Nat} {x : StatePayload} {s : State}
    (h : x.concernsCabs (s.env.pv.entry src) = false) :
    PeerView.SameControls s.env.pv (s.placePeer src x).env.pv := by
  have stored := s.placePeer_stored src x
  have put : (s.placePeer src x).env.pv = s.env.pv.put (heardPeer s.env.now src x (s.env.pv.entry src)) := by
    unfold State.placePeer
    rw [if_neg (by rw [h]; nofun)]
    exact (s.storePeer_stored src x).pv
  unfold StatePayload.concernsCabs at h
  obtain ⟨roof, old⟩ := Bool.or_eq_false_iff.mp h
  refine .of_shown (by rw [put]; rfl) (by rw [put]; rfl) fun a => ?_
  rw [stored.entry]
  split
  · rename_i sender
    subst sender
    rw [shownBy_roof (by rw [(heardPeer_heard ..).last]; simpa using roof)]
    cases found : s.env.pv.entry a with
    | none => rfl
    | some p =>
      rw [found] at old
      exact (shownBy_roof (by simpa using old)).symm
  · rfl

theorem State.controlsChanged_stored {src : Nat} {x : StatePayload} {s t : State} (h : State.FrameStored src x s t)
    (same : x.concernsCabs (s.env.pv.entry src) = false → PeerView.SameControls s.env.pv t.env.pv) :
    State.FrameStored src x s (t.onAct fun e a => a.controlsChanged s.env.pv e) := by
  cases cabs : x.concernsCabs (s.env.pv.entry src) with
  | true => exact h.after rfl rfl cabs (t.act.controlsChanged_adjusts s.env.pv t.env).1.logs
  | false =>
    have idle : (t.onAct fun e a => a.controlsChanged s.env.pv e) = t := by
      unfold State.onAct
      dsimp only
      rw [Act.controlsChanged_same (same cabs)]
    rw [idle]
    exact h

theorem State.stateHeard_stored (src : Nat) (x : StatePayload) (s : State) :
    State.FrameStored src x s (s.stateHeard src x) := by
  have placed := s.placePeer_stored src x
  have told := State.controlsChanged_stored placed fun h => State.placePeer_sameControls h
  cases x with
  | roof p =>
    rw [State.stateHeard_placed_roof]
    exact told
  | cab c =>
    rw [State.stateHeard_placed_cab]
    dsimp only
    split
    · obtain ⟨rest, taken⟩ := (s.placePeer src (.cab c)).takeGeometry_taken c
      have geometry := placed.after (c := (s.placePeer src (.cab c)).takeGeometry c) (by rw [rest]; rfl)
        (by rw [rest]; rfl) rfl ⟨_, congrArg Act.logs taken.frame⟩
      have controls := (Act.controlsChanged_adjusts s.env.pv ((s.placePeer src (.cab c)).takeGeometry c).env
        ((s.placePeer src (.cab c)).takeGeometry c).act).1
      exact geometry.after rfl rfl rfl (controls.toAppends.trans (Act.cabTaken_spec ..).1.toAppends).logs
    · exact told

/-- And with the frame's report for arming (R169), whose record stands before the frame's own. -/
structure State.FrameHeard (src : Nat) (x : StatePayload) (s b : State) : Prop where
  rest : b = { s with env := { s.env with pv := b.env.pv }, act := b.act }
  entry : ∀ a, b.env.pv.entry a =
    if a = src then some (heardPeer s.env.now src x (s.env.pv.entry src)) else s.env.pv.entry a
  logs : ∃ es fs, b.act.logs = s.act.logs ++ es ++ s.act.peerRecords src x (seenAs x (s.env.pv.entry src)) ++ fs
    ∧ (s.Unarmed → es = []) ∧ (x.concernsCabs (s.env.pv.entry src) = false → fs = [])

theorem State.stateHeard_frame (dst src : Nat) (x : StatePayload) (s : State) :
    State.FrameHeard src x s ((s.reportArming dst src).stateHeard src x) := by
  have stored := (s.reportArming dst src).stateHeard_stored src x
  obtain ⟨fs, logs, roofs⟩ := stored.logs
  obtain ⟨y, es, armed, -, calm⟩ := s.act.armingFrame_frame dst src
  have records : (s.act.armingFrame dst src).peerRecords src x (seenAs x (s.env.pv.entry src)) =
      s.act.peerRecords src x (seenAs x (s.env.pv.entry src)) := by
    unfold Act.peerRecords
    simp only [Act.armingFrame_entry]
  refine ⟨stored.rest, stored.entry, es, fs, ?_, fun unarmed => (calm unarmed).2, roofs⟩
  rw [logs, ← records]
  exact congrArg (· ++ _ ++ fs) (congrArg Act.logs armed)

/-- Settles O40. -/
theorem stateFramesHeard : Obligations.StateFramesHeard := by
  intro s own dst src hears old recorded stored
  have heard {x : StatePayload} {f : Frame} (valid : frameValid f = true)
      (run : ∀ t, s.accept dst.toNat src.toNat f t = (s.reportArming dst.toNat src.toNat).stateHeard src.toNat x) :
      ∃ b t, Host.Outcome.next (φ := Fault) (ρ := Refusal)
          (State.finish (s.receive dst src f s.env.pins.temperature)) = .next t
        ∧ stored b t x (heardPeer s.env.now src.toNat x old) := by
    have frame := s.stateHeard_frame dst.toNat src.toNat x
    have entry := heardPeer_heard s.env.now src.toNat x old
    have run := (State.receive_heard hears valid s.env.pins.temperature).trans (run _)
    generalize (s.reportArming dst.toNat src.toNat).stateHeard src.toNat x = b at frame run
    have env : b.finish.env = { s.env with pv := b.env.pv } := congrArg State.env frame.rest
    refine ⟨b, b.finish, by rw [run], rfl, ?_, (frame.entry _).trans (if_pos rfl), entry.last, entry.fresh, entry.heard,
      entry.ageTimer, entry.removalTimer, fun a other => (frame.entry a).trans (if_neg other), ?_, ?_, ?_, ?_,
      by rw [State.finish_port, frame.rest], fun none => ?_, fun p found changed => ?_, fun p found same => ?_⟩
    · obtain ⟨es, fs, logs, calm, roofs⟩ := frame.logs
      have listed {l : List LogEntry} (h : s.act.peerRecords src.toNat x (seenAs x old) = l) :
          ∃ es fs, b.act.logs = s.act.logs ++ es ++ l ++ fs ∧ (s.Unarmed → es = [])
            ∧ (x.isRoof = true → (∀ p, old = some p → p.last.isRoof = true) → fs = []) :=
        ⟨es, fs, h ▸ logs, calm, fun roof others => roofs (StatePayload.concernsCabs_roofs roof others)⟩
      refine ⟨fun none => listed ?_, fun moved => listed ?_, fun present stays => listed ?_⟩
      · rw [none]
        cases x <;> rfl
      · obtain ⟨p, found, moves⟩ := moved
        rw [found, seenAs_moved moves]
        cases x <;> rfl
      · obtain ⟨p, found⟩ := Option.ne_none_iff_exists'.mp present
        rw [found, seenAs_refreshed fun moves => stays ⟨p, found, moves⟩]
        rfl
    iterate 4
      · rw [env]
    · rw [none, heardPeer_joined]
      exact ⟨rfl, rfl, rfl⟩
    · rw [found, heardPeer_changed changed]
      exact ⟨rfl, rfl, rfl⟩
    · rw [found, heardPeer_alert same]
  refine ⟨fun p valid => ?_, fun c => ?_⟩
  · obtain ⟨b, t, run, kept⟩ := heard (x := .roof p) (f := .stateRoof p) valid fun _ => rfl
    refine ⟨b, t, _, run, kept, fun r x found roof pending => ?_⟩
    rw [found, heardPeer_refreshed roof]
    let q := r.refreshed s.env.now src.toNat (.roof p)
    have bid : q.bid = some x := pending
    refine ⟨fun shown => ?_, fun gone => ?_⟩
    · obtain ⟨o, shows, window, number⟩ := shown
      rw [Peer.heed_shown bid shows window number]
      exact ⟨pending, rfl⟩
    · rw [Peer.heed_cleared bid gone]
      exact ⟨rfl, rfl⟩
  · obtain ⟨b, t, run, kept⟩ := heard (x := .cab c) (f := .stateCab c) rfl fun _ => rfl
    refine ⟨b, t, _, run, kept, fun r found cab => ?_⟩
    rw [found, heardPeer_refreshed cab, Peer.heed_cab]
    exact ⟨rfl, rfl⟩

end Sys2Proof.Machine

namespace Sys2Proof.Machine

/-! ## The timers of the Peer View (R77, R80, R82, R83, R85, R87) -/

/-! ### An entry that ages or goes (R77, R82) -/

/-- R78, R82: what follows a change of an entry at a timer: a roof's changes the view, a cab's the authority. -/
def State.peerFollows (old : PeerView) (p : Peer) (s : State) : State :=
  if p.last.isRoof then s.onAct fun _ a => a.viewChanged
  else s.reauthorize.onAct fun e a => a.controlsChanged old e

/-- R77: an entry of the table lapses with its record, which leaves the view `w`. -/
def State.peerLapses (c : EventCode) (a : Nat) (p : Peer) (w : PeerView) (s : State) : State :=
  ((s.setPv w).onAct fun _ x => x.log c a (n16 p.last.kindCode) (n32 p.heard)).peerFollows s.env.pv p

/-- R77: the entry as its age timer's expiry leaves it. -/
def Peer.stale (p : Peer) : Peer := { p with fresh := false, ageTimer := none, removalTimer := some 9850 }

section
variable {s : State} {a : Nat} {p : Peer}

theorem State.peerAged_present (h : s.env.pv.entry a = some p) :
    s.peerAged a = s.peerLapses .peerStale a p (s.env.pv.put p.stale) := by
  unfold State.peerAged
  rw [h]
  rfl

theorem State.peerRemoved_present (h : s.env.pv.entry a = some p) :
    s.peerRemoved a = s.peerLapses .peerRemoved a p (s.env.pv.drop a) := by
  unfold State.peerRemoved
  rw [h]
  rfl

end

/-- What the lapse of an entry makes of the part, up to the end of its event. -/
structure State.PeerLapsed (c : EventCode) (a : Nat) (p : Peer) (w : PeerView) (s b : State) : Prop where
  now : b.env.now = s.env.now
  table : b.env.pv.table = w.table
  logs : ∃ fs, b.act.logs = s.act.logs ++ s.act.entry c a (n16 p.last.kindCode) (n32 p.heard) :: fs
    ∧ (p.last.isRoof = true → fs = [])
    ∧ (p.last.isRoof = false → ∃ gs, fs = s.act.authorityRecords s.env.pv b.env.pv ++ gs)
  roof : p.last.isRoof = true → PeerView.SameControls s.env.pv b.env.pv
  cab : p.last.isRoof = false → PeerView.Reauthorized s.env.pv b.env.pv
  told : b.env.pv.permit ≠ s.env.pv.permit ∨ b.env.pv.authority ≠ s.env.pv.authority →
    ∃ x : Act, x.inbox = s.act.inbox ∧ Act.Appends (x.push .permitChanged) b.act

/-- R82, R85: a recomputation writes its records, and the changes of the controls are told behind them. -/
theorem State.reauthorize_told (old : PeerView) (s : State) :
    ∃ x : Act, x.inbox = s.act.inbox
      ∧ x.logs = s.act.logs ++ s.act.authorityRecords s.env.pv s.env.pv.reauthorize
      ∧ Act.Appends x (s.reauthorize.onAct fun e a => a.controlsChanged old e).act
      ∧ (s.env.pv.reauthorize.permit ≠ old.permit ∨ s.env.pv.reauthorize.authority ≠ old.authority →
        Act.Appends (x.push .permitChanged) (s.reauthorize.onAct fun e a => a.controlsChanged old e).act) := by
  obtain ⟨adjusts, told⟩ := s.reauthorize.act.controlsChanged_adjusts old s.reauthorize.env
  refine ⟨s.reauthorize.act, ?_, ?_, adjusts.toAppends, told⟩ <;> rw [State.reauthorize_eq]

/-- R77, R82, R85: a roof's lapse leaves the controls; a cab's has the authority recomputed. -/
theorem State.peerLapses_lapsed {s : State} {p : Peer} {w : PeerView} (c : EventCode) (a : Nat)
    (table : w = { s.env.pv with table := w.table })
    (roofs : p.last.isRoof = true → ∀ x, shownBy (w.entry x) = shownBy (s.env.pv.entry x)) :
    State.PeerLapsed c a p w s (s.peerLapses c a p w) := by
  have hold : w.hold = s.env.pv.hold := by rw [table]
  have timer : w.holdTimer = s.env.pv.holdTimer := by rw [table]
  have authority : w.authority = s.env.pv.authority := by rw [table]
  unfold State.peerLapses State.peerFollows
  cases kind : p.last.isRoof with
  | true =>
    have same : PeerView.SameControls s.env.pv w := .of_shown authority hold (roofs kind)
    exact ⟨rfl, rfl, ⟨[], rfl, fun _ => rfl, fun cab => absurd (kind.symm.trans cab) nofun⟩, fun _ => same,
      fun cab => absurd (kind.symm.trans cab) nofun,
      fun changed => absurd changed (not_or.mpr ⟨not_not_intro same.permit, not_not_intro same.authority⟩)⟩
  | false =>
    let logged : State := (s.setPv w).onAct fun _ x => x.log c a (n16 p.last.kindCode) (n32 p.heard)
    obtain ⟨x, inbox, written, appends, told⟩ := logged.reauthorize_told s.env.pv
    obtain ⟨gs, logs⟩ := appends.logs
    have records : logged.act.authorityRecords w w.reauthorize = s.act.authorityRecords s.env.pv w.reauthorize := by
      rw [table]
      rfl
    have spec := w.reauthorize_spec
    refine ⟨rfl, w.reauthorize_rest.1, ⟨_, logs.trans ?_, fun roof => absurd (kind.symm.trans roof) nofun,
      fun _ => ⟨gs, rfl⟩⟩, fun roof => absurd (kind.symm.trans roof) nofun,
      fun _ => ⟨spec.authority, spec.conflict, hold ▸ spec.present, hold ▸ timer ▸ spec.absent⟩,
      fun changed => ⟨x, inbox, told changed⟩⟩
    rw [written]
    show s.act.logs ++ [_] ++ logged.act.authorityRecords w w.reauthorize ++ gs = _
    rw [records, List.append_assoc, List.append_assoc]
    rfl

section
variable {c : EventCode} {a n : Nat} {p : Peer} {w : PeerView} {s b : State}

/-- What time passing leaves of the controls. -/
theorem PeerView.elapse_sameControls (v : PeerView) (n : Nat) : PeerView.SameControls v (v.elapse n) := by
  refine .of_shown rfl rfl fun x => ?_
  rw [PeerView.entry_elapse]
  cases v.entry x with
  | none => rfl
  | some p => exact shownBy_last rfl

theorem State.PeerLapsed.entry (h : State.PeerLapsed c a p w s b) (x : Nat) : b.env.pv.entry x = w.entry x := by
  unfold PeerView.entry
  rw [h.table]

theorem State.PeerLapsed.tells (h : State.PeerLapsed c a p w s b)
    (changed : b.env.pv.permit ≠ s.env.pv.permit ∨ b.env.pv.authority ≠ s.env.pv.authority) :
    b.Tells .permitChanged := by
  obtain ⟨x, -, appends⟩ := h.told changed
  exact appends.tells (Act.push_tells ..)

/-- R85, R125: the loss of the permit is the oldest report of its event, which ends in DORMANT. -/
theorem State.PeerLapsed.dormant (h : State.PeerLapsed c a p w s b) (empty : s.act.inbox.reports = [])
    (granted : s.env.pv.permit = true) (lost : b.env.pv.permit = false) : b.finish.act.seq.state = .dormant := by
  obtain ⟨x, inbox, appends⟩ := h.told (.inl (by rw [granted, lost]; nofun))
  obtain ⟨l, first, plain⟩ := appends.permitFirst (by rw [inbox]; exact empty)
  exact State.finish_dormant first (.inl ⟨rfl, lost⟩) fun v q m => plain _ m v q rfl

end

/-- R77, log 2: the expiry of a running timer of an entry lets the milliseconds pass that it had left. -/
theorem State.onPeerExpiry_running {s : State} {a n : Nat} {p : Peer} {timer : Peer → Timer}
    (found : s.env.pv.entry a = some p) (running : timer p = some n) (k : State → State) :
    s.onPeerExpiry a timer k = k (s.elapse n) := by
  rw [State.onPeerExpiry_present found, running, State.onExpiry_some]

section
variable {s : State} {a n : Nat} {p : Peer}

theorem State.elapse_entry (found : s.env.pv.entry a = some p) :
    (s.elapse n).env.pv.entry a = some (Peer.elapse n p) := by
  show (s.env.pv.elapse n).entry a = _
  rw [PeerView.entry_elapse, found]
  rfl

theorem State.peerAged_lapsed {s : State} (found : s.env.pv.entry a = some p) :
    State.PeerLapsed .peerStale a p (s.env.pv.put p.stale) s (s.peerAged a) := by
  rw [State.peerAged_present found]
  refine State.peerLapses_lapsed _ _ rfl fun _ x => ?_
  rw [PeerView.entry_put]
  split
  · rename_i here
    rw [here, show s.env.pv.entry p.stale.address = some p from PeerView.entry_address found ▸ found]
    exact shownBy_last rfl
  · rfl

theorem State.peerRemoved_lapsed {s : State} (found : s.env.pv.entry a = some p) :
    State.PeerLapsed .peerRemoved a p (s.env.pv.drop a) s (s.peerRemoved a) := by
  rw [State.peerRemoved_present found]
  refine State.peerLapses_lapsed _ _ rfl fun roof x => ?_
  rw [PeerView.entry_drop]
  split
  · rename_i here
    rw [here, found, shownBy_roof roof]
    rfl
  · rfl

end

/-! ### The hold timer and the extrapolation's cap (R83, R87) -/

/-- R43: a lower request leaves its slot neither RISING nor UP. -/
theorem Act.lower_rests (e : Env) (i : Slot) (w : List Requester) (a : Act) : ¬ ((a.lower e i w).slots.get i).Raised := by
  have stays (k : (a.slots.get i).lift = .down ∨ (a.slots.get i).lift = .dropped) :
      ¬ ((a.lower e i w).slots.get i).Raised := by
    rw [Act.lower_met k, (Act.answerAll_reports ..).frame]
    rintro (up | up) <;> rcases k with k | k <;> cases k.symm.trans up
  cases lift : (a.slots.get i).lift with
  | down => exact stays (.inl lift)
  | dropped => exact stays (.inr lift)
  | lowering p =>
    rw [Act.lower_joined lift, Act.setSlot_slots, Pair.get_set, if_pos rfl]
    rintro (up | up) <;> cases lift.symm.trans up
  | rising | up =>
    rw [Act.lower_raised (by simp [SlotRec.Raised, lift])]
    rintro (up | up) <;> rcases a.startDown_lift e i w with k | ⟨p, k⟩ <;> cases k.symm.trans up

/-- R83: what the loss of the hold asks of the blocks, before the Bid Unit and the Roof Sequencer. -/
def Act.holdLapses (e : Env) (a : Act) : Act :=
  ((a.log .authorityLost 255 0 0).lower e .zero [.peerView]).lower e .one [.peerView]

theorem State.holdExpired_holding {s : State} (h : s.env.pv.hold = .holding) : s.holdExpired =
    (s.setPv { s.env.pv with hold := .lost, holdTimer := none }).onAct fun e a =>
      (((a.holdLapses e).push .holdLost).bidsEnd e).evalDue := by
  unfold State.holdExpired
  rw [h]
  rfl

/-- R83: both slots are on their way down or rest. -/
theorem Act.holdLapses_rests (e : Env) (a : Act) (i : Slot) : ¬ ((a.holdLapses e).slots.get i).Raised := by
  cases i with
  | zero =>
    have second := (Act.Settles.refl (e := e) ((a.log .authorityLost 255 0 0).lower e .zero [.peerView])).lower
      (i := .one) (w := [.peerView])
    exact (second.slots .zero).resting (Act.lower_rests _ _ _ _)
  | one => exact Act.lower_rests _ _ _ _

/-- What the loss of the hold makes of the part, up to the end of its event. -/
structure State.HoldLost (s b : State) : Prop where
  env : b.env = { s.env with pv := { s.env.pv with hold := .lost, holdTimer := none } }
  tells : b.Tells .holdLost
  logs : ∃ l, b.act.logs = s.act.logs ++ s.act.entry .authorityLost 255 0 0 :: l
  rests : ∀ i, ¬ (b.act.slots.get i).Raised
  slots : ∀ i, SlotRec.Kept (s.act.slots.get i) (b.act.slots.get i)

/-- R83: the Bid Unit's way out of the hold leaves report, records and slots. -/
theorem State.holdExpired_lost {s : State} (h : s.env.pv.hold = .holding) : State.HoldLost s s.holdExpired := by
  rw [State.holdExpired_holding h]
  let e : Env := { s.env with pv := { s.env.pv with hold := .lost, holdTimer := none } }
  let lowered : Act := s.act.holdLapses e
  let told : Act := lowered.push .holdLost
  have ended : Act.Queues told (told.bidsEnd e).evalDue := (Act.Queues.refl _).bidsEnd.evalDue
  have logged : Act.Settles e (s.act.log .authorityLost 255 0 0) (told.bidsEnd e).evalDue :=
    (Act.Settles.refl _).lower.lower.push.bidsEnd.evalDue
  have behind : Act.Settles e lowered (told.bidsEnd e).evalDue := (Act.Settles.refl _).push.bidsEnd.evalDue
  refine ⟨rfl, ended.tells (Act.push_tells ..), ?_, fun i => (behind.slots i).resting (Act.holdLapses_rests _ _ _),
    logged.slots⟩
  obtain ⟨l, logs⟩ := logged.logs
  exact ⟨l, logs.trans (by rw [Act.log_entry, List.append_assoc]; rfl)⟩

/-- R87: the cap is reached 1,000 ms after the base time. -/
theorem State.capReached_running {s : State} (h : s.env.pv.geometry.odoStale = false) :
    s.capReached = (s.elapse (1000 - s.env.pv.geometry.age s.env.now)).odometerStale := if_neg (by rw [h]; nofun)

/-- Settles O42. -/
theorem peerViewTimers : Obligations.PeerViewTimers := by
  refine ⟨fun s a n p found => ?_, fun s => ⟨fun n holding timer => ?_, fun running past => ?_⟩⟩
  · intro others authority
    have here := State.elapse_entry (n := n) found
    have same := s.env.pv.elapse_sameControls n
    have lapsed {c : EventCode} {w : PeerView} {b : State}
        (h : State.PeerLapsed c a (Peer.elapse n p) w (s.elapse n) b) : authority c b b.finish := by
      have kind : n16 p.last.kindCode = if p.last.isRoof = true then 0 else 1 := by cases p.last <;> rfl
      refine ⟨rfl, ?_, fun changed => h.tells ?_, fun quiet granted lost => h.dormant ?_ ?_ lost, fun cab => ?_⟩
      · rw [← kind]
        exact h.logs
      · exact changed.imp (fun x y => x (y.trans same.permit)) id
      · exact congrArg Inbox.reports quiet.1
      · exact same.permit.trans granted
      · have view := h.cab cab
        refine ⟨view.authority, fun present none => ?_⟩
        obtain ⟨hold, timer⟩ := (view.absent none).1 present
        refine ⟨hold, timer, ?_⟩
        show PeerView.permit b.env.pv = false
        unfold PeerView.permit
        rw [PeerView.controls_absent (by rw [hold]; nofun)]
    have elsewhere {b : State} (now : b.env.now = s.env.now + n)
        (kept : ∀ x, x ≠ a → b.env.pv.entry x = (s.env.pv.elapse n).entry x) : others b.finish :=
      ⟨now, fun x other => (kept x other).trans (PeerView.entry_elapse ..)⟩
    refine ⟨fun running => ?_, fun running => ?_, fun running => ?_⟩
    · have h := State.peerAged_lapsed here
      have address : (Peer.elapse n p).stale.address = a :=
        show (Peer.elapse n p).address = a from PeerView.entry_address here
      refine ⟨_, _, congrArg (fun t => Host.Outcome.next (State.finish t)) (State.onPeerExpiry_running found running _),
        lapsed h, elsewhere h.now fun x other => ?_, ?_⟩
      · rw [h.entry, PeerView.entry_put, if_neg (by rw [address]; exact other)]
        rfl
      · rw [State.finish_env, h.entry, PeerView.entry_put, if_pos address.symm]
        rfl
    · have h := State.peerRemoved_lapsed here
      refine ⟨_, _, congrArg (fun t => Host.Outcome.next (State.finish t)) (State.onPeerExpiry_running found running _),
        lapsed h, elsewhere h.now fun x other => ?_, ?_⟩
      · rw [h.entry, PeerView.entry_drop, if_neg other]
        rfl
      · rw [State.finish_env, h.entry, PeerView.entry_drop, if_pos rfl]
    · have h := (s.elapse n).updatePeer_updated a Peer.clearBid
      refine ⟨_, _, congrArg (fun t => Host.Outcome.next (State.finish t)) (State.onPeerExpiry_running found running _),
        rfl, h.logs, elsewhere (by rw [State.peerBidExpired, h.rest]; rfl) h.others, h.entry.trans ?_⟩
      rw [here]
      rfl
  · have lapse : exec .authorityHoldExpiry s = .next (State.finish (s.elapse n).holdExpired) := by
      have expired : s.onExpiry s.env.pv.holdTimer State.holdExpired = (s.elapse n).holdExpired := by
        rw [timer, State.onExpiry_some]
      exact congrArg (fun t => Host.Outcome.next (State.finish t)) expired
    have lost := State.holdExpired_lost (s := s.elapse n) holding
    generalize (s.elapse n).holdExpired = b at lapse lost
    obtain ⟨c, settled, finished⟩ := b.finish_settles
    refine ⟨b, b.finish, lapse, rfl, lost.tells, lost.logs, by rw [State.finish_env, lost.env]; rfl,
      by rw [State.finish_env, lost.env], by rw [State.finish_env, lost.env], by rw [State.finish_env, lost.env]; rfl,
      fun i => ?_⟩
    have kept := (lost.slots i).trans (settled.slots i)
    have slot : (s.act.elapse n).slots.get i = (s.act.slots.get i).elapse n := by cases i <;> rfl
    rw [State.elapse_act, slot] at kept
    rw [finished]
    exact ⟨(settled.slots i).resting (lost.rests i), kept.locked, kept.latch⟩
  · let g := s.env.pv.geometry
    let n := 1000 - g.age s.env.now
    have now : s.env.now + n = max s.env.now (g.baseTime + 1000) := by
      have past : g.baseTime ≤ s.env.now := past
      have age : g.age s.env.now = min 1000 (s.env.now - g.baseTime) := rfl
      omega
    refine ⟨_, _, congrArg (fun t => Host.Outcome.next (State.finish t)) (State.capReached_running running), rfl,
      Act.push_tells .., ?_, now, rfl⟩
    rw [State.odometerStale, State.onAct_act, Act.push_logs, Act.log_entry]
    rfl

end Sys2Proof.Machine

namespace Sys2Proof.Machine

/-! ## Bid Unit: the active profile (R52, R95) -/

/-- R95, rule 1. -/
theorem Sequencer.gapBeyond_eq_some (q : Sequencer) (y : Supply) : q.gapBeyond = some y ↔
    ((∃ g, q.state = .gap g) ∨ q.state = .raising ∨ q.state = .connecting)
    ∧ ∃ h, q.notice = some h ∧ h.notice.kind = .systemGap ∧ h.notice.beyond = some y := by
  unfold Sequencer.gapBeyond
  cases q.notice with
  | none => cases q.state <;> simp
  | some h => cases q.state <;> simp

section
variable {e : Env} {a : Act}

theorem Act.chosenProfile_unloaded (h : e.cfg = none) : a.chosenProfile e = none := by simp [Act.chosenProfile, h]

theorem Act.chosenProfile_beyond {c : Loaded} {y : Supply} (loaded : e.cfg = some c) (h : a.seq.gapBeyond = some y) :
    a.chosenProfile e = some y := by simp [Act.chosenProfile, loaded, h]

theorem Act.chosenProfile_confirmed {c : Loaded} {y : Supply} (loaded : e.cfg = some c) (h : a.seq.gapBeyond = none)
    (system : e.cls.confirmed = .system y) : a.chosenProfile e = some y := by
  simp [Act.chosenProfile, loaded, h, system]

theorem Act.chosenProfile_expected {c : Loaded} (loaded : e.cfg = some c) (h : a.seq.gapBeyond = none)
    (system : ∀ y, e.cls.confirmed ≠ .system y) : a.chosenProfile e = e.pv.expected := by
  unfold Act.chosenProfile
  rw [loaded, h]
  cases confirmed : e.cls.confirmed with
  | system y => exact absurd confirmed (system y)
  | noSystem | indeterminate => rfl

/-- R95: the new profile is set and recorded. -/
def Act.profileTo (new : Option Supply) (a : Act) : Act :=
  ({ a with bids := { a.bids with profile := new } } : Act).log .activeProfile 255 (n16 (optSupplyCode new))
    (n32 (optSupplyCode a.bids.profile))

theorem Act.recomputeProfile_same (h : a.chosenProfile e = a.bids.profile) : a.recomputeProfile e = a := if_pos h

/-- R52, R95: a change is recorded, the setpoints follow it, and it is reported. -/
theorem Act.recomputeProfile_changed (h : a.chosenProfile e ≠ a.bids.profile) : a.recomputeProfile e =
    ((((a.profileTo (a.chosenProfile e)).recompute e).push .profileChanged).iceDue).evalDue := by
  refine (if_neg h).trans ?_
  dsimp only
  split
  · rfl
  · rename_i none
    rw [Act.recompute_inactive]
    · rfl
    · show e.profile (a.chosenProfile e) = _
      rw [Option.not_isSome_iff_eq_none.mp none]
      rfl

theorem Act.recomputeProfile_profile (e : Env) (a : Act) : (a.recomputeProfile e).bids.profile = a.chosenProfile e := by
  by_cases h : a.chosenProfile e = a.bids.profile
  · rw [Act.recomputeProfile_same h, h]
  · rw [Act.recomputeProfile_changed h, Act.evalDue_bids, Act.iceDue_bids, Act.push_bids,
      ((Act.Drives.refl _).recompute).frame]
    rfl

end

/-- Settles O48. -/
theorem activeProfile : Obligations.ActiveProfile := by
  intro e a inGap beyond now
  have chosen : now = a.chosenProfile e := a.recomputeProfile_profile e
  have first (y : Supply) : a.seq.gapBeyond = some y ↔ beyond y := by
    rw [Sequencer.gapBeyond_eq_some, ← or_assoc, or_assoc]
  refine ⟨fun unloaded => chosen.trans (Act.chosenProfile_unloaded unloaded), fun c loaded => ⟨fun y passed => ?_,
    fun passes => ?_⟩, fun same => Act.recomputeProfile_same (chosen.symm.trans same), fun changed => ?_⟩
  · exact chosen.trans (Act.chosenProfile_beyond loaded ((first y).mpr passed))
  · have none : a.seq.gapBeyond = none := Option.eq_none_iff_forall_ne_some.mpr fun y h => passes y ((first y).mp h)
    exact ⟨fun y system => chosen.trans (Act.chosenProfile_confirmed loaded none system),
      fun system => chosen.trans (Act.chosenProfile_expected loaded none system)⟩
  · rw [Act.recomputeProfile_changed (chosen ▸ changed), ← chosen]
    have drives : Act.Drives (a.profileTo now) ((a.profileTo now).recompute e) := (Act.Drives.refl _).recompute
    refine ⟨?_, Act.push_tells .., fun none => ?_, fun y c system loaded i => ?_⟩
    · rw [Act.evalDue_logs, Act.iceDue_logs, Act.push_logs, drives.logs]
      rfl
    · rw [Act.evalDue_slots, Act.iceDue_slots, Act.push_slots, Act.recompute_inactive (by rw [none]; rfl)]
      rfl
    · have profile : (a.profileTo now).bids.profile = some y := system
      have active : (a.profileTo now).active e = some (c.profile y) := by
        rw [Act.active, profile, Env.profile, loaded]
        rfl
      rw [Act.evalDue_slots, Act.iceDue_slots, Act.push_slots, Act.recompute_slots profile active]
      rfl

/-! ## Bid Unit: the window and spacing timers (R41, R103, R105) -/

/-! ### What a raise writes (R41, R42, R45) -/

theorem Act.drop_lifts (e : Env) (i : Slot) (a : Act) : Act.Lifts a (a.drop e i) := by
  have opens : Act.Lifts a (a.dropOpens e i) := by
    refine Act.Lifts.switches (Act.openIsolator_switches ..) ?_
    have timers : Act.Lifts a (a.setSlot i { a.slots.get i with riseTimer := none, lowerTimer := none }) :=
      (Act.Lifts.refl a).drives (Act.Drives.refl a).setSlot
    split
    · exact timers.switches ((Act.Switches.refl _).opens (Act.Opens.refl _).openBreaker)
    · exact timers
  rw [Act.drop_eq]
  exact (opens.drives (Act.Drives.refl _).clearDuty.updateSlot.answerRaise.answerLower).switches
    (Act.Switches.refl _).log.alert

theorem Act.raise_lifts (e : Env) (i : Slot) (d : Duty) (a : Act) : Act.Lifts a (a.raise e i d) := by
  by_cases ready : (a.slots.get i).lift = .down ∧ (a.slots.get i).locked = false ∧ (a.slots.get i).latch = false
  · have starts : Act.Lifts a (a.startRaise e i d) := (Act.Lifts.refl a).drives (a.startRaise_drives e i d)
    rw [Act.raise_taken ready]
    split
    · exact starts.trans (Act.drop_lifts ..)
    · split
      · exact starts.drives (Act.Drives.refl _).updateSlot.answerRaise
      · exact starts
  · rw [Act.raise_refused ready]
    exact (Act.Lifts.refl a).drives ((Act.Drives.refl a).reports (Act.push_reports ..))

theorem Act.Lifts.bids {a b : Act} (h : Act.Lifts a b) : b.bids = a.bids := by rw [h.frame]

/-! ### The window's end (R103) -/

/-- R100, condition 1, and R101, condition 4. -/
theorem Act.slotRaisable_iff (i : Slot) (a : Act) : a.slotRaisable i = true ↔
    (a.slots.get i).locked = false ∧ (a.slots.get i).latch = false ∧ (a.slots.get i).lift = .down := by
  simp [Act.slotRaisable, and_assoc]

/-- R103: the bid becomes COMMITTED. -/
def Act.commits (b : HeldBid) (a : Act) : Act :=
  { a with bids := { a.bids with bid := some { b with phase := .committed }, windowTimer := none } }

/-- R103: the record of a bid that is won. -/
def Act.wonEntry (b : HeldBid) (a : Act) : LogEntry :=
  a.entry .bidWon b.slot.code (n16 (b.kind.code + 256 * b.number)) (n32 b.dfront)

section
variable {e : Env} {a : Act} {b : HeldBid}

theorem Act.windowExpired_fails (held : a.bids.bid = some b) (phase : b.phase = .window)
    (fails : (a.mayBid e && a.admissible e b.kind b.slot e.pv.pendings) = false) : a.windowExpired e =
      ({ a with bids := { a.bids with bid := none, windowTimer := none } } : Act).push (.outcome b.kind .lapsed) := by
  unfold Act.windowExpired
  dsimp only
  rw [held]
  exact (if_pos phase).trans (if_neg (Bool.eq_false_iff.mp fails))

theorem Act.windowExpired_passes (held : a.bids.bid = some b) (phase : b.phase = .window)
    (passes : (a.mayBid e && a.admissible e b.kind b.slot e.pv.pendings) = true) : a.windowExpired e =
      (((a.commits b).push (.outcome b.kind .won)).raise e b.slot b.kind.duty).log .bidWon b.slot.code
        (n16 (bytes2 b.kind.code b.number)) (n32 b.dfront) := by
  unfold Act.windowExpired
  dsimp only
  rw [held]
  exact (if_pos phase).trans (if_pos passes)

/-- What a bid that is won makes of the Bid Unit, its requester and the records. -/
structure Act.Won (b : HeldBid) (a c : Act) : Prop where
  bid : c.bids.bid = some { b with phase := .committed }
  timer : c.bids.windowTimer = none
  tells : c.Tells (.outcome b.kind .won)
  logs : ∃ l, c.logs = a.logs ++ l ++ [a.wonEntry b]

theorem Act.windowExpired_won (held : a.bids.bid = some b) (phase : b.phase = .window)
    (passes : (a.mayBid e && a.admissible e b.kind b.slot e.pv.pendings) = true) :
    Act.Won b a (a.windowExpired e) := by
  rw [Act.windowExpired_passes held phase passes]
  have told : Act.Lifts (a.commits b) ((a.commits b).push (.outcome b.kind .won)) :=
    (Act.Lifts.refl _).drives ((Act.Drives.refl _).reports (Act.push_reports ..))
  have raised := Act.raise_lifts e b.slot b.kind.duty ((a.commits b).push (.outcome b.kind .won))
  have lifts := told.trans raised
  obtain ⟨l, logs⟩ := lifts.logs
  refine ⟨?_, ?_, raised.tells _ (Act.push_tells ..), l, ?_⟩
  · rw [Act.log_bids, lifts.bids]
    rfl
  · rw [Act.log_bids, lifts.bids]
    rfl
  · rw [Act.log_entry, logs, lifts.entry]
    rfl

/-- R41: where neither contact ends the rise at once, the slot is RISING with the bid's duty. -/
theorem Act.windowExpired_rises (held : a.bids.bid = some b) (phase : b.phase = .window)
    (passes : (a.mayBid e && a.admissible e b.kind b.slot e.pv.pendings) = true)
    (add : e.pins.add.get b.slot = false) (up : e.pins.up.get b.slot = false) :
    Act.Moves b.slot ((a.slots.get b.slot).rises b.kind.duty) a (a.windowExpired e)
    ∧ (a.windowExpired e).logs = a.logs ++ [a.wonEntry b] := by
  obtain ⟨-, admissible⟩ := Bool.and_eq_true_iff.mp passes
  obtain ⟨raisable, -⟩ := Bool.and_eq_true_iff.mp admissible
  obtain ⟨locked, latch, lift⟩ := (a.slotRaisable_iff b.slot).mp raisable
  let told := (a.commits b).push (.outcome b.kind .won)
  have slots : told.slots = a.slots := Act.push_slots ..
  have raised : told.raise e b.slot b.kind.duty = told.startRaise e b.slot b.kind.duty := by
    rw [Act.raise_taken (by rw [slots]; exact ⟨lift, locked, latch⟩), if_neg (by rw [add]; nofun),
      if_neg (by rw [up]; nofun)]
  have starts := told.startRaise_drives e b.slot b.kind.duty
  have moves := told.startRaise_moves e b.slot b.kind.duty
  rw [Act.windowExpired_passes held phase passes, show (a.commits b).push _ = told from rfl, raised]
  refine ⟨?_, ?_⟩
  · rw [Act.Moves, slots] at moves
    exact moves
  · rw [Act.log_entry, starts.logs, ((Act.Lifts.refl told).drives starts).entry, Act.push_logs,
      ((Act.Lifts.refl (a.commits b)).drives ((Act.Drives.refl _).reports (Act.push_reports ..))).entry]
    rfl

end

/-- Settles O47. -/
theorem bidTimers : Obligations.BidTimers := by
  intro s n e a
  refine ⟨fun b timer bid phase => ?_, fun timer => ?_⟩
  · intro passes won
    have held : a.bids.bid = some b := bid
    have lapse : exec .bidWindowExpiry s = .next (State.finish ((s.elapse n).onAct fun e a => a.windowExpired e)) := by
      have expired : s.onExpiry s.act.bids.windowTimer (fun s => s.onAct fun e a => a.windowExpired e) =
          (s.elapse n).onAct fun e a => a.windowExpired e := by rw [timer, State.onExpiry_some]
      exact congrArg (fun t => Host.Outcome.next (State.finish t)) expired
    refine ⟨fun fails => ⟨_, lapse, ?_⟩, fun passes => ⟨_, lapse, rfl, ?_⟩,
      fun passes add up => ⟨_, lapse, rfl, ?_⟩⟩
    · have ends := Act.windowExpired_fails held phase fails
      refine ⟨?_, show (a.windowExpired e).Tells _ by rw [ends]; exact Act.push_tells ..⟩
      rw [State.onAct, State.elapse_act, State.elapse_env, ends, (Act.push_reports ..).frame]
      rfl
    · obtain ⟨bid, timer, tells, l, logs⟩ := Act.windowExpired_won held phase passes
      exact ⟨bid, timer, tells, logs ▸ List.mem_append_right _ (List.mem_singleton.mpr rfl)⟩
    · obtain ⟨bid, timer, tells, -⟩ := Act.windowExpired_won held phase passes
      obtain ⟨moves, logs⟩ := Act.windowExpired_rises held phase passes add up
      obtain ⟨lift, duty⟩ := moves.other
      obtain ⟨slot, -⟩ := moves
      refine ⟨bid, timer, tells, logs, congrArg SlotRec.lift slot, congrArg SlotRec.duty slot,
        congrArg SlotRec.riseTimer slot, congrArg SlotRec.raiseWaiting slot, lift.trans ?_, duty.trans ?_⟩
      all_goals cases b.slot <;> rfl
  · have expired : s.onExpiry s.act.bids.spacingTimer (fun s => s.onAct fun _ a => a.spacingExpired) =
        (s.elapse n).onAct fun _ a => a.spacingExpired := by rw [timer, State.onExpiry_some]
    exact congrArg (fun t => Host.Outcome.next (State.finish t)) expired

end Sys2Proof.Machine

namespace Sys2Proof.Machine

/-! ## Bid Unit: precedence, admission and the life of a bid (R97 to R108) -/

/-! ### Precedence (R97) -/

/-- R97: the place of a bid in the order of precedence, the least first: COLLECT before SCRAPE, of collectors the rearmost, of
scrapers the frontmost, then the lower address, then slot 0. -/
def bidRank (x : BidKind × Placed) : ℕ ×ₗ ℤ ×ₗ ℕ ×ₗ ℕ :=
  toLex (x.1.code, toLex ((match x.1 with | .collect => -(x.2.dfront : ℤ) | .scrape => x.2.dfront),
    toLex (x.2.address, x.2.slot.code)))

theorem Placed.tieBefore_iff (x y : Placed) : x.tieBefore y = true ↔
    toLex (x.address, x.slot.code) < toLex (y.address, y.slot.code) := by
  simp [Placed.tieBefore, Prod.Lex.toLex_lt_toLex]

theorem Placed.outranks_iff (k : BidKind) (x y : Placed) : x.outranks k y = true ↔ bidRank (k, x) < bidRank (k, y) := by
  have lower (p q : ℤ) (same : x.dfront = y.dfront ↔ p = q) :
      (if x.dfront = y.dfront then x.tieBefore y else decide (p < q)) = true ↔
        p < q ∨ p = q ∧ toLex (x.address, x.slot.code) < toLex (y.address, y.slot.code) := by
    by_cases tie : x.dfront = y.dfront
    · rw [if_pos tie, Placed.tieBefore_iff, same.mp tie]
      simp
    · rw [if_neg tie]
      simp [mt same.mpr tie]
  cases k with
  | collect =>
    simpa [Placed.outranks, bidRank, Prod.Lex.toLex_lt_toLex] using lower (-x.dfront) (-y.dfront) (by omega)
  | scrape => simpa [Placed.outranks, bidRank, Prod.Lex.toLex_lt_toLex] using lower x.dfront y.dfront (by omega)

theorem bidOutranks_iff (x y : BidKind × Placed) : bidOutranks x y = true ↔ bidRank x < bidRank y := by
  obtain ⟨k, x⟩ := x
  obtain ⟨l, y⟩ := y
  cases k with
  | collect => cases l with
    | collect => exact x.outranks_iff .collect y
    | scrape => simp [bidOutranks, bidRank, BidKind.code, Prod.Lex.toLex_lt_toLex]
  | scrape => cases l with
    | collect => simp [bidOutranks, bidRank, BidKind.code, Prod.Lex.toLex_lt_toLex]
    | scrape => exact x.outranks_iff .scrape y

theorem BidKind.code_injective : Function.Injective BidKind.code := by
  intro k l same
  rw [← Option.some_inj, ← bidKindOfCode_code k, same, bidKindOfCode_code]

theorem Slot.code_injective : Function.Injective Slot.code := by
  intro i j same
  rw [← Option.some_inj, ← slotOfCode_code i, same, slotOfCode_code]

theorem bidRank_injective : Function.Injective bidRank := by
  rintro ⟨k, dx, ax, sx⟩ ⟨l, dy, ay, sy⟩ same
  obtain ⟨kind, dfront, address, slot⟩ : k.code = l.code ∧ _ = _ ∧ ax = ay ∧ sx.code = sy.code := by
    simpa [bidRank] using same
  obtain rfl := BidKind.code_injective kind
  obtain rfl := Slot.code_injective slot
  cases k <;> simp_all

theorem bidOutranks_irrefl (x : BidKind × Placed) : bidOutranks x x = false :=
  Bool.eq_false_iff.mpr fun h => lt_irrefl _ ((bidOutranks_iff x x).mp h)

theorem bidOutranks_trans (x y z : BidKind × Placed) (h : bidOutranks x y = true) (k : bidOutranks y z = true) :
    bidOutranks x z = true :=
  (bidOutranks_iff x z).mpr (((bidOutranks_iff x y).mp h).trans ((bidOutranks_iff y z).mp k))

theorem bidOutranks_total (x y : BidKind × Placed) (other : x ≠ y) :
    bidOutranks x y = true ∨ bidOutranks y x = true := by
  rw [bidOutranks_iff, bidOutranks_iff]
  exact lt_or_gt_of_ne fun same => other (bidRank_injective same)

theorem bidOutranks_collect_scrape (x y : Placed) : bidOutranks (.collect, x) (.scrape, y) = true := rfl

theorem bidOutranks_rearmost {x y : Placed} (behind : y.dfront < x.dfront) :
    bidOutranks (.collect, x) (.collect, y) = true := (if_neg (Nat.ne_of_gt behind)).trans (decide_eq_true behind)

theorem bidOutranks_frontmost {x y : Placed} (ahead : x.dfront < y.dfront) :
    bidOutranks (.scrape, x) (.scrape, y) = true := (if_neg (Nat.ne_of_lt ahead)).trans (decide_eq_true ahead)

theorem bidOutranks_tie {k : BidKind} {x y : Placed} (tie : x.dfront = y.dfront) (lower : x.address < y.address) :
    bidOutranks (k, x) (k, y) = true := by
  have before : x.tieBefore y = true := (x.tieBefore_iff y).mpr (Prod.Lex.toLex_lt_toLex.mpr (.inl lower))
  cases k <;> exact (if_pos tie).trans before

/-! ### What counts in the view (R97) -/

section
variable {e : Env} {a : Act} {i : Slot} {d : Duty}

theorem Act.ownPlaced_eq_nil_iff : a.ownPlaced e d = [] ↔ ∀ j, (a.slots.get j).duty ≠ d := by
  unfold Act.ownPlaced placedSlots
  rw [List.filterMap_eq_nil_iff]
  exact ⟨fun h j => by simpa using h j (by cases j <;> simp), fun h j _ => if_neg (h j)⟩

/-- At most one slot of a station holds a duty; it is placed as a bid for it would be. -/
theorem Act.ownPlaced_eq_singleton (own : (a.slots.get i).duty = d) (other : (a.slots.get i.other).duty ≠ d) :
    a.ownPlaced e d = [a.bidPlace e i] := by
  cases i <;> simp_all [Act.ownPlaced, placedSlots, Slot.other, Act.bidPlace]

/-! ### Admission (R100, R101) -/

/-- R100: the pending COLLECT bids that outrank the own. -/
def pendingAbove (pending : List (BidKind × Placed)) (own : Placed) : List Placed :=
  (pending.filter fun b => decide (b.1 = .collect) && b.2.outranks .collect own).map Prod.snd

/-- R100, conditions 2 to 6. -/
theorem Act.collectFits_iff (p : Profile) (pending : List (BidKind × Placed)) : a.collectFits e p i pending = true ↔
    p.heads.permits (a.slots.get i).head = true
    ∧ (∀ j, (a.slots.get j).duty ≠ .collect)
    ∧ (a.inView e .collect).length + (pendingAbove pending (a.bidPlace e i)).length < p.maxCollect
    ∧ (∀ x ∈ a.inView e .collect ++ pendingAbove pending (a.bidPlace e i),
        p.minSpacing ≤ x.distance (a.bidPlace e i))
    ∧ ∀ x ∈ a.inView e .scrape, x.dfront + p.scrapeSpacing ≤ (a.bidPlace e i).dfront := by
  unfold Act.collectFits
  simp only [Bool.and_eq_true, decide_eq_true_eq, List.all_eq_true, List.isEmpty_iff, Act.ownPlaced_eq_nil_iff, and_assoc]
  rfl

/-- R101, conditions 1 to 3, 5 and 6. -/
theorem Act.scrapeFits_iff (p : Profile) (pending : List (BidKind × Placed)) : a.scrapeFits e p i pending = true ↔
    p.scrapeAllowed = true ∧ a.ice.level = 3 ∧ a.link.address.map (fun n => (n, i)) = a.ice.candidate
    ∧ a.inView e .scrape = []
    ∧ (∀ b ∈ pending, b.1 = .scrape → b.2.outranks .scrape (a.bidPlace e i) = false)
    ∧ ∀ x, (x ∈ a.inView e .collect ∨ (BidKind.collect, x) ∈ pending) →
        (a.bidPlace e i).dfront + p.scrapeSpacing ≤ x.dfront := by
  have collects (x : Placed) : x ∈ (pending.filter fun b => decide (b.1 = .collect)).map (·.2) ↔
      (BidKind.collect, x) ∈ pending := by
    simp
  have outranked (b : BidKind × Placed) :
      (!(decide (b.1 = .scrape) && b.2.outranks .scrape (a.bidPlace e i))) = true ↔
        (b.1 = .scrape → b.2.outranks .scrape (a.bidPlace e i) = false) := by
    simp [← imp_iff_not_or]
  unfold Act.scrapeFits
  simp only [Bool.and_eq_true, decide_eq_true_eq, List.all_eq_true, List.isEmpty_iff, List.mem_append, collects,
    outranked, and_assoc]

/-- R100 and R101 without the slot's own state, under a profile. -/
def Act.fitsUnder (e : Env) (k : BidKind) (p : Profile) (i : Slot) (pending : List (BidKind × Placed)) (a : Act) : Bool :=
  match k with
  | .collect => a.collectFits e p i pending
  | .scrape => a.scrapeFits e p i pending

theorem Act.fits_iff (k : BidKind) (pending : List (BidKind × Placed)) : a.fits e k i pending = true ↔
    ∃ p, a.active e = some p ∧ a.fitsUnder e k p i pending = true := by
  unfold Act.fits Act.fitsUnder
  cases a.active e with
  | none => simp
  | some p => cases k <;> simp

theorem Act.admissible_iff (k : BidKind) (pending : List (BidKind × Placed)) : a.admissible e k i pending = true ↔
    ∃ p, a.active e = some p ∧ (a.slots.get i).locked = false ∧ (a.slots.get i).latch = false
      ∧ (a.slots.get i).lift = .down ∧ a.fitsUnder e k p i pending = true := by
  rw [Act.admissible, Bool.and_eq_true, Act.slotRaisable_iff, Act.fits_iff]
  exact ⟨fun ⟨⟨locked, latch, lift⟩, p, active, fits⟩ => ⟨p, active, locked, latch, lift, fits⟩,
    fun ⟨p, active, locked, latch, lift, fits⟩ => ⟨⟨locked, latch, lift⟩, p, active, fits⟩⟩

end

/-! ### Offers at the tail (R59) -/

section
variable {a : Act} {f : Frame} {r : TxRequester}

theorem Act.offerTail_taken (gate : a.link.gateOpen = true) (room : a.link.length < 8) :
    a.offerTail f r = (true, { a with link := a.link.enqueue { frame := f, requesters := [r] } }) := by
  simp [Act.offerTail, gate, room]

theorem Act.offerTail_refused (h : a.link.gateOpen = false ∨ 8 ≤ a.link.length) : a.offerTail f r =
    (false, { a with
      logs := a.logs ++ if a.link.gateOpen then [a.entry .txFull 255 (n16 f.kind) (n32 a.link.length)] else [] }) := by
  unfold Act.offerTail
  cases gate : a.link.gateOpen with
  | false => simp
  | true =>
    have full : ¬ a.link.length < 8 := by simpa [gate] using h
    simp [full, Act.log, Act.entry]

/-- An offer writes the queue, or the record that it is full. -/
theorem Act.offerTail_frame (f : Frame) (r : TxRequester) (a : Act) : (a.offerTail f r).2 =
    { a with link := (a.offerTail f r).2.link, logs := (a.offerTail f r).2.logs } := by
  unfold Act.offerTail
  split
  · rfl
  · split <;> rfl

end

/-! ### Opening a bid (R98) -/

section
variable {e : Env} {a : Act} {k : BidKind} {i : Slot}

/-- R98: the conditions for opening a bid for a request. -/
def Act.MayOpen (e : Env) (k : BidKind) (i : Slot) (a : Act) : Prop :=
  a.bids.bid = none ∧ a.bids.spacingTimer = none ∧ a.bids.request k = some i ∧ a.startup.mode = .ready
  ∧ e.pv.permit = true ∧ a.admissible e k i e.pv.pendings = true

theorem Act.tryRequest_opens (h : a.MayOpen e k i) : a.tryRequest e k = a.openBid e k i := by
  obtain ⟨bid, spacing, request, ready, permit, admissible⟩ := h
  simp [Act.tryRequest, bid, spacing, request, Act.mayBid, ready, permit, admissible]

theorem Act.tryRequest_idle (h : ∀ i, ¬ a.MayOpen e k i) : a.tryRequest e k = a := by
  unfold Act.tryRequest
  split
  · rename_i i bid spacing request
    refine if_neg fun may => h i ?_
    simp only [Act.mayBid, Bool.and_eq_true, decide_eq_true_eq] at may
    obtain ⟨⟨ready, permit⟩, admissible⟩ := may
    exact ⟨bid, spacing, request, ready, permit, admissible⟩
  · rfl

/-- R98: the bid that is opened, OFFERED, with the next number. -/
def Act.offers (e : Env) (k : BidKind) (i : Slot) (a : Act) : Act :=
  { a with
    link :=
      a.link.enqueue
        { frame := .bid { kind := k, slot := i, dfront := n16 (a.dfront e i), number := n8 a.bids.nextNumber }
          requesters := [.bid a.bids.nextNumber] }
    bids :=
      { a.bids with
        bid := some { kind := k, slot := i, dfront := a.dfront e i, number := a.bids.nextNumber, phase := .offered }
        nextNumber := (a.bids.nextNumber + 1) % 256 }
    logs := a.logs ++
      [a.entry .bidOpened i.code (n16 (k.code + 256 * a.bids.nextNumber)) (n32 (a.dfront e i))] }

theorem Act.openBid_taken (gate : a.link.gateOpen = true) (room : a.link.length < 8) :
    a.openBid e k i = (a.offers e k i).push (.outcome k .opened) := by
  unfold Act.openBid
  dsimp only
  rw [Act.offerTail_taken gate room]
  rfl

theorem Act.openBid_refused (h : a.link.gateOpen = false ∨ 8 ≤ a.link.length) : a.openBid e k i =
    ({ a with
      logs := a.logs ++ if a.link.gateOpen then [a.entry .txFull 255 (n16 3) (n32 a.link.length)] else [] } : Act).push
        (.outcome k .notOpened) := by
  unfold Act.openBid
  dsimp only
  rw [Act.offerTail_refused h]
  rfl

end

/-! ### The transmit queue's answers (R99) -/

/-- R99: no CEDE is owed any more. -/
def Act.paysCede (a : Act) : Act := { a with bids := { a.bids with owedCede := none } }

/-- R99: the answer for a BID whose CEDE is owed. -/
def Act.cedeAnswered (n : Nat) (ans : TxAnswer) (a : Act) : Act :=
  if a.bids.owedCede = some n then
    match ans with
    | .sent => (a.paysCede.offerTail (.cede (n8 n)) .other).2
    | .discarded | .closed => a.paysCede
    | .withdrawn => a
  else a

section
variable {a : Act} {n : Nat} {h : HeldBid}

theorem Act.bidTxAnswered_sent (held : a.bids.bid = some h) (phase : h.phase = .offered) (number : h.number = n) :
    a.bidTxAnswered n .sent =
      { a with bids := { a.bids with bid := some { h with phase := .window }, windowTimer := some 150 } } := by
  simp [Act.bidTxAnswered, held, phase, number]

theorem Act.bidTxAnswered_gone {ans : TxAnswer} (held : a.bids.bid = some h) (phase : h.phase = .offered)
    (number : h.number = n) (gone : ans = .discarded ∨ ans = .closed) : a.bidTxAnswered n ans =
      ({ a with bids := { a.bids with bid := none } } : Act).push (.outcome h.kind .dropped) := by
  rcases gone with rfl | rfl <;> simp [Act.bidTxAnswered, held, phase, number]

theorem Act.bidTxAnswered_other (other : ∀ h, a.bids.bid = some h → h.phase = .offered → h.number ≠ n)
    (ans : TxAnswer) : a.bidTxAnswered n ans = a.cedeAnswered n ans := by
  unfold Act.bidTxAnswered Act.cedeAnswered Act.paysCede
  cases held : a.bids.bid with
  | none => cases ans <;> simp
  | some h =>
    have notMine : ¬ (h.phase = .offered ∧ h.number = n) := fun ⟨phase, number⟩ => other h held phase number
    cases ans <;> simp [notMine]

theorem Act.cedeAnswered_sent (owed : a.bids.owedCede = some n) :
    a.cedeAnswered n .sent = (a.paysCede.offerTail (.cede (n8 n)) .other).2 := if_pos owed

theorem Act.cedeAnswered_gone {ans : TxAnswer} (owed : a.bids.owedCede = some n)
    (gone : ans = .discarded ∨ ans = .closed) : a.cedeAnswered n ans = a.paysCede := by
  rcases gone with rfl | rfl <;> exact if_pos owed

end

/-! ### Ceding (R102) -/

/-- R102: the bid is gone, its record says whether a CEDE is on its way or owed, and its requester is told CEDED. -/
def Act.endsBid (b : HeldBid) (reason announced : Nat) (a : Act) : Act :=
  ((({ a with bids := { a.bids with bid := none, windowTimer := none, spacingTimer := some 100 } } : Act).log .bidCeded
    b.slot.code (n16 (reason + 256 * b.number)) (n32 announced)).push (.outcome b.kind .ceded)).evalDue

section
variable {e : Env} {a : Act} {h : HeldBid} {reason : Nat}

theorem Act.endsBid_tells (b : HeldBid) (n m : Nat) (a : Act) : (a.endsBid b n m).Tells (.outcome b.kind .ceded) :=
  Act.push_tells ..

theorem Act.endsBid_frame (b : HeldBid) (n m : Nat) (a : Act) : a.endsBid b n m =
    { a with
      bids := { a.bids with bid := none, windowTimer := none, spacingTimer := some 100 }
      logs := a.logs ++ [a.entry .bidCeded b.slot.code (n16 (n + 256 * b.number)) (n32 m)]
      inbox := (a.endsBid b n m).inbox } := by
  rw [Act.endsBid, (Act.push_reports ..).frame]
  rfl

/-- R61: the BID is withdrawn from the queue. -/
theorem Act.cedeFor_withdrawn {k : Link} (phase : h.phase = .offered) (withdrawn : a.link.withdrawBid h.number = some k) :
    a.cedeFor h reason = ({ a with link := k } : Act).endsBid h reason 0 := by
  simp only [Act.cedeFor, phase, withdrawn]
  rfl

/-- R61, R99: the BID is on the wire, and its CEDE is owed. -/
theorem Act.cedeFor_owed (phase : h.phase = .offered) (refused : a.link.withdrawBid h.number = none) :
    a.cedeFor h reason =
      ({ a with bids := { a.bids with owedCede := some h.number } } : Act).endsBid h reason 1 := by
  simp only [Act.cedeFor, phase, refused]
  rfl

theorem Act.cedeFor_announced (phase : h.phase ≠ .offered) :
    a.cedeFor h reason = (a.offerTail (.cede (n8 h.number)) .other).2.endsBid h reason 1 := by
  unfold Act.cedeFor
  cases k : h.phase with
  | offered => exact absurd k phase
  | window | committed => rfl

/-- R102: what ceding makes of the Bid Unit in each of its three ways, and what it leaves. -/
structure Act.Ceded (h : HeldBid) (a b : Act) : Prop where
  bids : b.bids =
    { a.bids with bid := none, windowTimer := none, spacingTimer := some 100, owedCede := b.bids.owedCede }
  tells : b.Tells (.outcome h.kind .ceded)
  due : b.inbox.evalDue = true
  slots : b.slots = a.slots
  seq : b.seq = a.seq

theorem Act.endsBid_ceded {c : Act} (h : HeldBid) (n m : Nat)
    (bids : c.bids = { a.bids with owedCede := c.bids.owedCede } := by rfl) (slots : c.slots = a.slots := by rfl)
    (seq : c.seq = a.seq := by rfl) : Act.Ceded h a (c.endsBid h n m) := by
  have frame := c.endsBid_frame h n m
  refine ⟨?_, c.endsBid_tells h n m, rfl, by rw [frame]; exact slots, by rw [frame]; exact seq⟩
  rw [frame]
  dsimp only
  rw [bids]

theorem Act.cedeFor_ceded (h : HeldBid) (reason : Nat) (a : Act) : Act.Ceded h a (a.cedeFor h reason) := by
  by_cases phase : h.phase = .offered
  · cases withdrawn : a.link.withdrawBid h.number with
    | some k =>
      rw [Act.cedeFor_withdrawn phase withdrawn]
      exact Act.endsBid_ceded h _ _
    | none =>
      rw [Act.cedeFor_owed phase withdrawn]
      exact Act.endsBid_ceded h _ _
  · rw [Act.cedeFor_announced phase, Act.offerTail_frame]
    exact Act.endsBid_ceded h _ _

theorem HeldBid.ownPhase_iff (b : HeldBid) : b.ownPhase = true ↔ b.phase = .offered ∨ b.phase = .window := by
  unfold HeldBid.ownPhase
  cases b.phase <;> simp

theorem HeldBid.ownPhase_committed {b : HeldBid} (h : b.phase = .committed) : ¬ b.ownPhase = true := by
  simp [HeldBid.ownPhase, h]

theorem Act.viewReason_eq (e : Env) (h : HeldBid) (a : Act) : a.viewReason e h =
    if e.pv.permit = false ∨ a.fits e h.kind h.slot e.pv.pendings = false then some 2
    else if a.slotRaisable h.slot = false then some 3 else none := by
  simp [Act.viewReason]

theorem Act.cede_held (held : a.bids.bid = some h) (own : h.ownPhase = true) (r : Nat) :
    a.cede e r = a.cedeFor h ((a.viewReason e h).elim r (min · r)) := by
  unfold Act.cede
  rw [held]
  refine (if_pos own).trans ?_
  cases a.viewReason e h <;> rfl

theorem Act.cede_committed (held : a.bids.bid = some h) (phase : h.phase = .committed) (r : Nat) :
    a.cede e r = a := by
  unfold Act.cede
  rw [held]
  exact if_neg (HeldBid.ownPhase_committed phase)

/-- R102, reason 1: whose BID outranks the own and makes it fail. -/
theorem Act.bidDelivered_held (held : a.bids.bid = some h) (src : Nat) (b : BidPayload) : a.bidDelivered e src b =
    let theirs : BidKind × Placed := (b.kind, { dfront := b.dfront.toNat, address := src, slot := b.slot })
    let pending := (e.pv.pendings.filter fun x => decide (x.2.address ≠ src)) ++ [theirs]
    if h.ownPhase && bidOutranks theirs (h.kind, a.bidPlace e h.slot) && !a.admissible e h.kind h.slot pending then
      a.evalDue.cede e 1
    else a.evalDue := by
  unfold Act.bidDelivered
  dsimp only
  rw [Act.evalDue_bids, held]
  rfl

theorem Act.withdrawRequest_held (held : a.bids.bid = some h) :
    a.withdrawRequest e h.kind = (a.setRequest h.kind none).evalDue.cede e 4 := by
  have kept : (a.setRequest h.kind none).bids.bid = a.bids.bid := by cases h.kind <;> rfl
  have holds : (a.setRequest h.kind none).evalDue.holdsBid h.kind = true := by
    simp [Act.holdsBid, kept, held]
  exact if_pos holds

theorem Act.bidsEnd_held (held : a.bids.bid = some h) (own : h.ownPhase = true) : a.bidsEnd e = a.cede e 5 := by
  unfold Act.bidsEnd
  rw [held]
  exact if_pos own

/-- R108: a COMMITTED bid fails. -/
theorem Act.bidsEnd_committed (held : a.bids.bid = some h) (phase : h.phase = .committed) : a.bidsEnd e =
    ({ a with bids := { a.bids with bid := none } } : Act).push (.outcome h.kind .failed) := by
  unfold Act.bidsEnd
  rw [held]
  exact if_neg (HeldBid.ownPhase_committed phase)

/-! ### The raise's answer (R104) -/

theorem Act.bidRaiseAnswered_committed (held : a.bids.bid = some h) (phase : h.phase = .committed) (ans : Answer) :
    a.bidRaiseAnswered h.slot ans =
      ({ a with bids := { a.bids with bid := none } } : Act).push
        (.outcome h.kind (if ans = .done then .raised else .failed)) := by
  unfold Act.bidRaiseAnswered
  rw [held]
  exact if_pos ⟨phase, rfl⟩

theorem Act.bidRaiseAnswered_own (held : a.bids.bid = some h) (own : h.ownPhase = true) (i : Slot) (ans : Answer) :
    a.bidRaiseAnswered i ans = a := by
  unfold Act.bidRaiseAnswered
  rw [held]
  exact if_neg fun ⟨phase, _⟩ => HeldBid.ownPhase_committed phase own

end

/-! ### Evaluation (R105) -/

/-- R102, R105: an evaluation cedes a held bid that it finds fail. -/
def Act.reviewBid (e : Env) (a : Act) : Act :=
  match a.bids.bid with
  | some h =>
    if h.phase = .committed then a
    else match a.viewReason e h with
      | some r => a.cedeFor h r
      | none => a
  | none => a

theorem Act.evaluate_eq (e : Env) (a : Act) : a.evaluate e =
    ((((({ a with inbox := { a.inbox with evalDue := false } } : Act).recomputeProfile e).reviewBid e).settleDown
      e).tryRequest e .collect).tryRequest e .scrape := by
  unfold Act.evaluate Act.reviewBid
  dsimp only
  generalize Act.recomputeProfile e _ = first
  cases first.bids.bid with
  | none => rfl
  | some h =>
    congr 3
    by_cases phase : h.phase = .committed
    · exact (if_neg (HeldBid.ownPhase_committed phase)).trans (if_pos phase).symm
    · exact (if_pos (decide_eq_true phase)).trans (if_neg phase).symm

theorem Act.settleOnce_evaluates {e : Env} {a : Act} (reports : a.inbox.reports = []) (ice : a.inbox.iceDue = false)
    (due : a.inbox.evalDue = true) : a.settleOnce e = some (a.evaluate e) := by
  simp [Act.settleOnce, reports, ice, due]

/-! ### Settle-down (R106, R107) -/

section
variable {p : Profile} {view collectors : List Placed} {own : Placed}

theorem collectorReason_count (h : p.maxCollect < (view.filter fun x => x.outranks .collect own).length + 1) :
    collectorReason p view own = some 1 := if_pos h

theorem collectorReason_near (count : (view.filter fun x => x.outranks .collect own).length + 1 ≤ p.maxCollect)
    (near : ∃ x ∈ view.filter fun x => x.outranks .collect own, x.distance own < p.minSpacing) :
    collectorReason p view own = some 2 :=
  (if_neg (Nat.not_lt.mpr count)).trans (if_pos (by simpa only [List.any_eq_true, decide_eq_true_eq] using near))

theorem collectorReason_apart (count : (view.filter fun x => x.outranks .collect own).length + 1 ≤ p.maxCollect)
    (apart : ∀ x ∈ view.filter fun x => x.outranks .collect own, p.minSpacing ≤ x.distance own) :
    collectorReason p view own = none := by
  refine (if_neg (Nat.not_lt.mpr count)).trans (if_neg ?_)
  rw [List.any_eq_true]
  exact fun ⟨x, above, near⟩ => Nat.not_lt.mpr (apart x above) (of_decide_eq_true near)

theorem scraperReason_outranked (h : ∃ x ∈ view, x.outranks .scrape own = true) :
    scraperReason p view collectors own = some 3 := if_pos (List.any_eq_true.mpr h)

theorem scraperReason_near (first : ∀ x ∈ view, x.outranks .scrape own = false)
    (near : ∃ x ∈ collectors, x.dfront < own.dfront + p.scrapeSpacing) :
    scraperReason p view collectors own = some 4 :=
  (if_neg (by simpa using first)).trans (if_pos (by simpa only [List.any_eq_true, decide_eq_true_eq] using near))

theorem scraperReason_apart (first : ∀ x ∈ view, x.outranks .scrape own = false)
    (apart : ∀ x ∈ collectors, own.dfront + p.scrapeSpacing ≤ x.dfront) :
    scraperReason p view collectors own = none := by
  refine (if_neg (by simpa using first)).trans (if_neg ?_)
  rw [List.any_eq_true]
  exact fun ⟨x, collector, near⟩ => Nat.not_lt.mpr (apart x collector) (of_decide_eq_true near)

end

section
variable {e : Env} {a : Act} {d : Duty} {why : Act → Profile → Placed → Option Nat}

theorem Act.settleDuty_inactive (h : a.active e = none) : a.settleDuty e d why = a :=
  List.foldl_fixed' (fun x => by rw [h]) _

theorem Act.settleDuty_unplaced (h : ∀ i, (a.slots.get i).duty ≠ d) : a.settleDuty e d why = a := by
  rw [Act.settleDuty, Act.ownPlaced_eq_nil_iff.mpr h]
  rfl

theorem Act.settleDuty_placed {p : Profile} {i : Slot} (active : a.active e = some p) (own : (a.slots.get i).duty = d)
    (other : (a.slots.get i.other).duty ≠ d) : a.settleDuty e d why =
      (why a p (a.bidPlace e i)).elim a fun r => a.retract e i r .bidUnit := by
  rw [Act.settleDuty, Act.ownPlaced_eq_singleton own other, List.foldl_cons, List.foldl_nil, active]
  dsimp only
  cases why a p (a.bidPlace e i) <;> rfl

/-- What a retraction makes of the slots and the records. -/
structure Act.Retracted (i : Slot) (reason : Nat) (a b : Act) : Prop where
  rests : ¬ (b.slots.get i).Raised
  idle : (b.slots.get i).duty = .idle
  lift : (b.slots.get i.other).lift = (a.slots.get i.other).lift
  duty : (b.slots.get i.other).duty = (a.slots.get i.other).duty
  logs : ∃ l, b.logs = a.logs ++ l ++ [a.entry .retracted i.code (n16 (a.slots.get i).duty.code) (n32 reason)]

theorem Act.retract_retracted {i : Slot} (raised : (a.slots.get i).Raised) (e : Env) (reason : Nat) (w : Requester) :
    Act.Retracted i reason a (a.retract e i reason w) := by
  have rests := a.lower_rests e i [w]
  rw [Act.lower_raised raised] at rests
  obtain ⟨x, moves, -, -, idle, -⟩ := a.startDown_moves e i [w]
  have lifts := a.startDown_lifts e i [w]
  obtain ⟨lift, duty⟩ := moves.other
  obtain ⟨slot, -⟩ := moves
  obtain ⟨l, logs⟩ := lifts.logs
  unfold Act.retract
  dsimp only
  rw [Act.lower_raised raised]
  refine ⟨rests, (congrArg SlotRec.duty slot).trans idle, lift, duty, l, ?_⟩
  rw [Act.log_entry, logs, lifts.entry]

end

/-- Settles O46. -/
theorem bidPrecedenceAndAdmission : Obligations.BidPrecedenceAndAdmission := by
  refine ⟨⟨bidOutranks_irrefl, bidOutranks_trans, bidOutranks_total, ?_, ?_, ?_, ?_⟩, ?_, ?_, ?_, ?_, ?_, ?_, ?_⟩
  · rintro ⟨k, x⟩ ⟨l, y⟩ rfl rfl
    exact bidOutranks_collect_scrape x y
  · rintro ⟨k, x⟩ ⟨l, y⟩ rfl rfl behind
    exact bidOutranks_rearmost behind
  · rintro ⟨k, x⟩ ⟨l, y⟩ rfl rfl ahead
    exact bidOutranks_frontmost ahead
  · rintro ⟨k, x⟩ ⟨l, y⟩ rfl tie lower
    exact bidOutranks_tie tie lower
  · intro e a i pending own r above
    constructor
    · rw [Act.admissible_iff]
      refine exists_congr fun p => ?_
      rw [Act.fitsUnder, Act.collectFits_iff]
      rfl
    · rw [Act.admissible_iff]
      refine exists_congr fun p => ?_
      rw [Act.fitsUnder, Act.scrapeFits_iff]
  · intro e a k b n opens
    refine ⟨fun idle => Act.tryRequest_idle idle, fun i may gate room => ?_, fun i may refused => ?_⟩
    · have opened : b = (a.offers e k i).push (.outcome k .opened) :=
        (Act.tryRequest_opens may).trans (Act.openBid_taken gate room)
      rw [opened]
      exact ⟨(Act.push_reports ..).frame, Act.push_tells ..⟩
    · have notOpened := (Act.tryRequest_opens may).trans (Act.openBid_refused refused)
      rw [show b = _ from notOpened]
      exact ⟨(Act.push_reports ..).frame, Act.push_tells ..⟩
  · intro a n ceded
    refine ⟨fun h held phase number => ⟨Act.bidTxAnswered_sent held phase number, fun ans gone => ?_⟩, fun other => ?_⟩
    · intro b
      rw [show b = _ from Act.bidTxAnswered_gone held phase number gone]
      exact ⟨(Act.push_reports ..).frame, Act.push_tells ..⟩
    · simp only [Act.bidTxAnswered_other other]
      refine ⟨fun owed ans => if_neg owed, fun owed => ⟨fun gate room => ?_, ?_, fun ans gone => ?_⟩⟩
      · exact (Act.cedeAnswered_sent owed).trans (congrArg Prod.snd (Act.offerTail_taken (a := a.paysCede) gate room))
      · rw [Act.cedeAnswered_sent owed, Act.offerTail_frame]
        rfl
      · exact Act.cedeAnswered_gone owed gone
  · intro e a h reason held b record view early
    have own (k : early) : h.ownPhase = true := h.ownPhase_iff.mpr k
    obtain ⟨bids, tells, due, slots, seq⟩ := a.cedeFor_ceded h reason
    refine ⟨⟨bids, tells, due, slots, seq, fun offered k withdrawn => ?_, fun offered refused => ?_,
        fun window gate room => ?_⟩,
      Act.viewReason_eq e h a, fun r early => ?_, fun committed r => Act.cede_committed held committed r,
      fun src x => ?_, ?_, fun early => Act.bidsEnd_held held (own early), fun committed => ?_,
      fun ans => ⟨fun committed => ?_, fun early i => Act.bidRaiseAnswered_own held (own early) i ans⟩⟩
    · rw [show b = _ from Act.cedeFor_withdrawn offered withdrawn, Act.endsBid_frame]
      exact ⟨rfl, rfl, rfl⟩
    · rw [show b = _ from Act.cedeFor_owed offered refused, Act.endsBid_frame]
      exact ⟨rfl, rfl, rfl⟩
    · rw [show b = _ from Act.cedeFor_announced (by rw [window]; nofun), Act.offerTail_taken gate room, Act.endsBid_frame]
      exact ⟨rfl, rfl, rfl⟩
    · rw [Act.cede_held held (own early), show a.viewReason e h = view from Act.viewReason_eq ..]
      clear_value view
      cases view <;> rfl
    · refine (Act.bidDelivered_held held src x).trans (if_congr ?_ rfl rfl)
      rw [Bool.and_assoc, Bool.and_eq_true, h.ownPhase_iff]
    · rw [Act.withdrawRequest_held held]
      cases h.kind <;> rfl
    · intro b
      rw [show b = _ from Act.bidsEnd_committed held committed]
      exact ⟨(Act.push_reports ..).frame, Act.push_tells ..⟩
    · intro b
      rw [show b = _ from Act.bidRaiseAnswered_committed held committed ans]
      exact ⟨(Act.push_reports ..).frame, Act.push_tells ..⟩
  · intro e a first second
    exact ⟨a.evaluate_eq e, Act.settleOnce_evaluates⟩
  · intro p view collectors own above far
    exact ⟨collectorReason_count, fun count => ⟨collectorReason_near count, collectorReason_apart count⟩,
      scraperReason_outranked, fun first => ⟨scraperReason_near first, scraperReason_apart first⟩⟩
  · intro e a collector scraper
    refine ⟨rfl, fun d why => ⟨Act.settleDuty_inactive, Act.settleDuty_unplaced, fun p i active own other => ?_⟩⟩
    have placed := Act.settleDuty_placed (why := why) active own other
    refine ⟨fun none => placed.trans (by rw [none]; rfl), fun r reason raised => ?_⟩
    obtain ⟨rests, idle, lift, duty, logs⟩ := Act.retract_retracted raised e r .bidUnit
    rw [placed, reason, ← own]
    exact ⟨rests, idle, lift, duty, logs⟩

end Sys2Proof.Machine

namespace Sys2Proof

/-! ## The form of a notice (R112) -/

/-- R112: the notice as it goes on to R113: a system beyond is held for a SYSTEM_GAP only. -/
def Notice.taken (n : Notice) : Notice := if n.kind = .systemGap then n else { n with beyond := none }

/-- R112, reason 1. -/
def Notice.WrongExtent (n : Notice) : Prop := n.stop.toNat ≤ n.start.toNat ∨ n.start.toNat + 20000 < n.stop.toNat

@[simp] theorem Notice.taken_id (n : Notice) : n.taken.id = n.id := by unfold Notice.taken; split <;> rfl
@[simp] theorem Notice.taken_kind (n : Notice) : n.taken.kind = n.kind := by unfold Notice.taken; split <;> rfl
@[simp] theorem Notice.taken_start (n : Notice) : n.taken.start = n.start := by unfold Notice.taken; split <;> rfl
@[simp] theorem Notice.taken_stop (n : Notice) : n.taken.stop = n.stop := by unfold Notice.taken; split <;> rfl

end Sys2Proof

namespace Sys2Proof.Machine

/-! ## Route notices: admission and CANCEL (R111 to R116)

What every step keeps of the queue, and what an admitted ROUTE or CANCEL makes of it. -/

/-- Settles O51. -/
theorem noticeQueueKept : Obligations.NoticeQueueKept := fun _ _ i h => (step_keeps h).notices i

/-- The end of an event keeps the held notices in their places. -/
theorem State.finish_notices (s : State) :
    s.finish.act.notices.held.map HeldNotice.notice = s.act.notices.held.map HeldNotice.notice := by
  obtain ⟨b, settled, finished⟩ := s.finish_settles
  have cores := congrArg (List.map Prod.fst) settled.notices
  rw [List.map_map, List.map_map] at cores
  rw [finished]
  exact cores

theorem NoticeQueue.isCurrent_iff (q : NoticeQueue) (id : Byte) : q.isCurrent id = true ↔ q.current = some id :=
  decide_eq_true_iff

/-! ### Delivery (R84) -/

/-- R84: a frame for the station from a source that may send it is delivered. -/
theorem State.whenAdmitted_delivered {s : State} {dst : Nat} {source : Bool} (h : s.addressed dst = true)
    (admitted : source = true) (src kind verb : Nat) (k : State → State) :
    s.whenAdmitted dst src kind verb source k = k s := by
  simp [State.whenAdmitted, h, admitted]

section
variable {s : State} {own : Nat} {dst src : Byte} (hears : s.Hears own dst src) (unarmed : s.Unarmed)
  (here : dst.toNat = 0 ∨ dst.toNat = own) (authority : s.env.pv.authority = some src.toNat)
include hears unarmed here authority

/-- R84: without an arming record a frame that needs the authority's admission is delivered as it stands. -/
theorem State.receive_admitted {f : Frame} {t : Int} {kind : Nat} {k : State → State} (valid : frameValid f = true)
    (accepts : s.accept dst.toNat src.toNat f t =
      (s.reportArming dst.toNat src.toNat).whenAdmitted dst.toNat src.toNat kind 0 (s.fromAuthority src.toNat) k) :
    s.receive dst src f t = k s := by
  rw [State.receive_unarmed hears unarmed valid accepts]
  exact State.whenAdmitted_delivered ((State.addressed_iff hears.address _).mpr here) (decide_eq_true authority) ..

theorem exec_route_admitted {n : Notice} (named : n.id ≠ 0) :
    exec (.route dst src n) s = .next (State.finish { s with act := s.act.routeTaken s.env n }) :=
  congrArg (fun t => Host.Outcome.next (State.finish t))
    (State.receive_admitted hears unarmed here authority (f := .route n) (bne_iff_ne.mpr named) rfl)

theorem exec_cancel_admitted {id : Byte} (named : id ≠ 0) :
    exec (.cancel dst src id) s = .next (State.finish { s with act := s.act.cancelTaken id }) :=
  congrArg (fun t => Host.Outcome.next (State.finish t))
    (State.receive_admitted hears unarmed here authority (f := .cancel id) (bne_iff_ne.mpr named) rfl)

end

/-! ### Form, and the place against the own slots (R112, R113) -/

section
variable {q : NoticeQueue} {n : Notice}

theorem NoticeQueue.formReason_extent (extent : n.WrongExtent) : q.formReason n = some 1 := if_pos extent

theorem NoticeQueue.formReason_form (extent : ¬ n.WrongExtent) (form : n.heads = some ⟨false, false⟩) :
    q.formReason n = some 2 := (if_neg extent).trans (if_pos form)

theorem NoticeQueue.formReason_current (extent : ¬ n.WrongExtent) (form : n.heads ≠ some ⟨false, false⟩)
    (current : q.current = some n.id) : q.formReason n = some 3 :=
  (if_neg extent).trans ((if_neg form).trans (if_pos ((q.isCurrent_iff _).mpr current)))

theorem NoticeQueue.formReason_none (extent : ¬ n.WrongExtent) (form : n.heads ≠ some ⟨false, false⟩)
    (current : q.current ≠ some n.id) : q.formReason n = none :=
  (if_neg extent).trans ((if_neg form).trans (if_neg (mt (q.isCurrent_iff _).mp current)))

end

section
variable {e : Env} {n : Notice} {a : Act}

theorem Act.routeTaken_refused {r : Nat} (h : a.notices.formReason n = some r) :
    a.routeTaken e n = a.noticeRefused n.id r n.start := by
  unfold Act.routeTaken
  rw [h]

/-- R113: a notice of good form is stale, or goes on to R114. -/
theorem Act.routeTaken_formed (h : a.notices.formReason n = none) : a.routeTaken e n =
    if n.stop.toNat < a.rearPosition e then a.log .noticeStale n.id.toNat (n16 n.kind.code) n.stop
    else a.admitNotice n.taken (decide (n.start.toNat ≤ a.frontPosition e)) := by
  have placed : a.routeTaken e n =
      if n.taken.stop.toNat < a.rearPosition e then
        a.log .noticeStale n.taken.id.toNat (n16 n.taken.kind.code) n.taken.stop
      else a.admitNotice n.taken (decide (n.taken.start.toNat ≤ a.frontPosition e)) := by
    unfold Act.routeTaken
    rw [h]
    rfl
  rwa [n.taken_id, n.taken_kind, n.taken_start, n.taken_stop] at placed

end

/-! ### Overlap, room and insertion (R114, R115) -/

section
variable {n : Notice} {late : Bool} {a : Act} {rest : List HeldNotice} {far : HeldNotice}

theorem Notice.overlaps_iff (x y : Notice) :
    Notice.overlaps x y = true ↔ x.start.toNat < y.stop.toNat ∧ y.start.toNat < x.stop.toNat := by
  simp [Notice.overlaps]

theorem Act.admitNotice_overlap (h : ∃ x ∈ withoutId n.id a.notices.held, Notice.overlaps n x.notice = true) :
    a.admitNotice n late = a.noticeRefused n.id 4 n.start := if_pos (List.any_eq_true.mpr h)

section
variable (apart : ¬ ∃ x ∈ withoutId n.id a.notices.held, Notice.overlaps n x.notice = true)
include apart

theorem Act.admitNotice_room (room : (withoutId n.id a.notices.held).length < 6) :
    a.admitNotice n late = a.insertNotice n late (withoutId n.id a.notices.held) :=
  (if_neg (mt List.any_eq_true.mp apart)).trans (if_pos room)

/-- R114, step 2: a full queue. -/
theorem Act.admitNotice_full (full : 6 ≤ (withoutId n.id a.notices.held).length)
    (last : withoutId n.id a.notices.held = rest ++ [far]) : a.admitNotice n late =
      if n.start.toNat < far.notice.start.toNat ∧ a.notices.current ≠ some far.notice.id then
        (a.log .noticeEvicted far.notice.id.toNat (n16 far.notice.kind.code) far.notice.start).insertNotice n late rest
      else a.noticeRefused n.id 5 n.start := by
  refine (if_neg (mt List.any_eq_true.mp apart)).trans ((if_neg (Nat.not_lt.mpr full)).trans ?_)
  rw [last, List.getLast?_concat, List.dropLast_concat]
  simp [NoticeQueue.isCurrent]

end

/-- R115: the notice is held among `rest`, after the records `before` of the event; R111's queue report goes out. -/
structure Act.Inserted (n : Notice) (late : Bool) (rest : List HeldNotice) (before : List LogEntry) (a b : Act) :
    Prop where
  frame : b = { a with
    notices :=
      { a.notices with held := insertByStart { notice := n, late := late, pointReached := false } rest }
    inbox := b.inbox
    logs := a.logs ++ before ++
      [a.entry (if late then .noticeLate else .noticeAccepted) n.id.toNat
        (n16 (if (a.notices.find n.id).isSome then 1 else 0)) n.start] }
  tells : b.Tells .noticesChanged

theorem Act.insertNotice_inserted (n : Notice) (late : Bool) (rest : List HeldNotice) (before : List LogEntry) (a : Act) :
    Act.Inserted n late rest before a (Act.insertNotice n late rest { a with logs := a.logs ++ before }) where
  frame := (Act.push_reports ..).frame
  tells := Act.push_tells ..

theorem Act.admitNotice_inserted (apart : ¬ ∃ x ∈ withoutId n.id a.notices.held, Notice.overlaps n x.notice = true)
    (room : (withoutId n.id a.notices.held).length < 6) :
    Act.Inserted n late (withoutId n.id a.notices.held) [] a (a.admitNotice n late) := by
  have inserted := a.insertNotice_inserted n late (withoutId n.id a.notices.held) []
  rw [List.append_nil] at inserted
  rwa [Act.admitNotice_room apart room]

theorem Act.admitNotice_evicts (apart : ¬ ∃ x ∈ withoutId n.id a.notices.held, Notice.overlaps n x.notice = true)
    (full : 6 ≤ (withoutId n.id a.notices.held).length) (last : withoutId n.id a.notices.held = rest ++ [far])
    (nearer : n.start.toNat < far.notice.start.toNat) (free : a.notices.current ≠ some far.notice.id) :
    Act.Inserted n late rest
      [a.entry .noticeEvicted far.notice.id.toNat (n16 far.notice.kind.code) far.notice.start] a
      (a.admitNotice n late) := by
  rw [Act.admitNotice_full apart full last, if_pos ⟨nearer, free⟩]
  exact a.insertNotice_inserted n late rest _

end

/-! ### CANCEL (R116) -/

section
variable {id : Byte} {h : HeldNotice} {a : Act}

theorem Act.cancelTaken_unknown (none : a.notices.find id = none) : a.cancelTaken id = a.noticeRefused id 6 0 := by
  unfold Act.cancelTaken
  rw [none]

theorem Act.cancelTaken_held (held : a.notices.find id = some h) : a.cancelTaken id =
    if a.notices.current = some id then a.noticeRefused id 3 0
    else ((a.setHeld (withoutId id a.notices.held)).log .noticeCancelled id.toNat (n16 h.notice.kind.code)
      h.notice.start).push .noticesChanged := by
  unfold Act.cancelTaken
  rw [held]
  exact if_congr (a.notices.isCurrent_iff id) rfl rfl

end

/-- Settles O49. -/
theorem routeAndCancel : Obligations.RouteAndCancel := by
  refine ⟨fun s own dst src n hears unarmed here authority named => ?_,
    fun s own dst src id hears unarmed here authority named => ?_⟩
  · intro q extent form current taken others overlap logged answers late insertedAmong
    have run : answers { s with act := s.act.routeTaken s.env n } :=
      exec_route_admitted hears unarmed here authority named
    have becomes {b : Act} (h : s.act.routeTaken s.env n = b) : answers { s with act := b } := h ▸ run
    have formed (good : ¬ extent) (heads : ¬ form) (free : ¬ current) :=
      Act.routeTaken_formed (e := s.env) (NoticeQueue.formReason_none (q := q) good heads free)
    have ahead (good : ¬ extent) (heads : ¬ form) (free : ¬ current) (fresh : s.act.rearPosition s.env ≤ n.stop.toNat) :
        s.act.routeTaken s.env n = s.act.admitNotice n.taken late :=
      (formed good heads free).trans (if_neg (Nat.not_lt.mpr fresh))
    have overlaps : overlap ↔ ∃ x ∈ withoutId n.taken.id q.held, Notice.overlaps n.taken x.notice = true := by
      simp only [Notice.overlaps_iff, Notice.taken_id, Notice.taken_start, Notice.taken_stop]
      rfl
    have same : withoutId n.taken.id q.held = others := by rw [n.taken_id]; rfl
    have inserted {rest before} (h : Act.Inserted n.taken late rest before s.act (s.act.routeTaken s.env n)) :
        insertedAmong rest before := by
      obtain ⟨frame, tells⟩ := h
      rw [n.taken_id, n.taken_start] at frame
      refine ⟨_, run, congrArg (fun a => { s with act := a }) frame, tells, ?_⟩
      rw [State.finish_notices]
      exact congrArg (fun a : Act => a.notices.held.map HeldNotice.notice) frame
    refine ⟨fun wrong => ?_, fun good heads => ?_, fun good heads marked => ?_, fun good heads free stale => ?_,
      fun good heads free fresh meets => ?_, fun good heads free fresh apart room => ?_,
      fun good heads free fresh apart full rest far last => ⟨fun nearer unmarked => ?_, fun stays => ?_⟩⟩
    · exact becomes (Act.routeTaken_refused (NoticeQueue.formReason_extent wrong))
    · exact becomes (Act.routeTaken_refused (NoticeQueue.formReason_form good heads))
    · exact becomes (Act.routeTaken_refused (NoticeQueue.formReason_current good heads marked))
    · exact becomes ((formed good heads free).trans (if_pos stale))
    · have refused := (ahead good heads free fresh).trans (Act.admitNotice_overlap (overlaps.mp meets))
      rw [n.taken_id, n.taken_start] at refused
      exact becomes refused
    · have held := Act.admitNotice_inserted (late := late) (mt overlaps.mpr apart) (same ▸ room)
      rw [same, ← ahead good heads free fresh] at held
      exact inserted held
    · refine inserted ?_
      rw [ahead good heads free fresh]
      exact Act.admitNotice_evicts (mt overlaps.mpr apart) (same ▸ full) (same.trans last)
        (n.taken_start ▸ nearer) unmarked
    · have refused := (ahead good heads free fresh).trans
        (Act.admitNotice_full (mt overlaps.mpr apart) (same ▸ full) (same.trans last))
      rw [if_neg (fun ⟨nearer, free⟩ => stays.elim (Nat.not_le.mpr (n.taken_start ▸ nearer)) free), n.taken_id,
        n.taken_start] at refused
      exact becomes refused
  · intro q refused
    have run := exec_cancel_admitted hears unarmed here authority named
    refine ⟨fun unknown => ?_, fun h held marked => ?_, fun h held free => ?_⟩
    · rw [run, Act.cancelTaken_unknown unknown]
      rfl
    · rw [run, Act.cancelTaken_held held, if_pos marked]
      rfl
    · rw [Act.cancelTaken_held held, if_neg free] at run
      exact ⟨_, run, congrArg (fun a => { s with act := a }) (Act.push_reports ..).frame, Act.push_tells ..⟩

end Sys2Proof.Machine

namespace Sys2Proof.Machine

/-! ## Route notices: review, next notice and mark (R117 to R119) -/

/-! ### Retirement (R119) -/

/-- R119: a notice lies behind the rear position where it lies behind both own slots. -/
theorem HeldNotice.passed_rearPosition (e : Env) (a : Act) (h : HeldNotice) : h.passed (a.rearPosition e) =
    (decide (h.notice.stop.toNat + 50 < a.track e .zero) && decide (h.notice.stop.toNat + 50 < a.track e .one)) := by
  rw [HeldNotice.passed, Act.rearPosition, Bool.eq_iff_iff]
  simp only [decide_eq_true_eq, Bool.and_eq_true, Nat.lt_min]

/-- R121: the record of a notice that retires. -/
def Act.retiredEntry (current : Option Byte) (a : Act) (h : HeldNotice) : LogEntry :=
  a.entry .noticeRetired h.notice.id.toNat (if current = some h.notice.id then 1 else 0) h.notice.stop

theorem Act.logRetired_eq (current : Option Byte) (h : HeldNotice) (a : Act) :
    a.logRetired current h = { a with logs := a.logs ++ [a.retiredEntry current h] } := by
  unfold Act.logRetired Act.retiredEntry
  split <;> simp [*, Act.log, Act.entry, flag, n16]

/-- The records of a review stand in the order of the notices, the nearest first. -/
theorem Act.foldl_logRetired_eq (current : Option Byte) (l : List HeldNotice) (a : Act) :
    l.foldl (fun a h => a.logRetired current h) a = { a with logs := a.logs ++ l.map (a.retiredEntry current) } := by
  induction l generalizing a with
  | nil => rw [List.foldl_nil, List.map_nil, List.append_nil]
  | cons h l ih =>
    rw [List.foldl_cons, ih, Act.logRetired_eq, List.map_cons, List.append_assoc]
    rfl

/-- R119: what a review makes of the queue, where `gone` tells the notices that retire. -/
structure Act.Reviewed (gone : HeldNotice → Bool) (a b : Act) : Prop where
  timer : b.notices.reviewTimer = a.notices.reviewTimer
  held : b.notices.held = a.notices.held.filter fun h => !gone h
  lost : (∃ h ∈ a.notices.held, gone h = true ∧ a.notices.current = some h.notice.id) →
    b.notices.current = none ∧ b.Tells .currentRetired
  marked : (∀ h ∈ a.notices.held, gone h = true → a.notices.current ≠ some h.notice.id) →
    b.notices.current = a.notices.current
  logs : b.logs = a.logs ++ (a.notices.held.filter gone).map (a.retiredEntry a.notices.current)

/-- R119: the queue after a review that retires notices and leaves this mark. -/
def Act.retires (gone : HeldNotice → Bool) (mark : Option Byte) (a : Act) : Act :=
  { a with
    notices := { a.notices with held := a.notices.held.filter fun h => !gone h, current := mark }
    logs := a.logs ++ (a.notices.held.filter gone).map (a.retiredEntry a.notices.current) }

section
variable {e : Env} {gone : HeldNotice → Bool} {a : Act}

theorem Act.reviewNotices_eq (passed : HeldNotice.passed (a.rearPosition e) = gone) : a.reviewNotices e =
    if a.notices.held.filter gone = [] then a
    else if ∃ h ∈ a.notices.held, gone h = true ∧ a.notices.current = some h.notice.id then
      ((a.retires gone none).push .currentRetired).push .noticesChanged
    else (a.retires gone a.notices.current).push .noticesChanged := by
  subst passed
  refine if_congr List.isEmpty_iff rfl ?_
  dsimp only
  simp only [Act.foldl_logRetired_eq, List.any_filter, List.any_eq_true, Bool.and_eq_true, decide_eq_true_eq]
  split <;> rfl

/-- Where no notice retires a review changes nothing. -/
theorem Act.Reviewed.idle (none : a.notices.held.filter gone = []) : Act.Reviewed gone a a := by
  have kept := List.filter_eq_nil_iff.mp none
  exact {
    timer := rfl
    held := (List.filter_eq_self.mpr fun h m => by simpa using kept h m).symm
    lost := fun ⟨h, m, passed, _⟩ => absurd passed (kept h m)
    marked := fun _ => rfl
    logs := by rw [none, List.map_nil, List.append_nil] }

theorem Act.reviewNotices_reviewed (passed : HeldNotice.passed (a.rearPosition e) = gone) :
    Act.Reviewed gone a (a.reviewNotices e) := by
  rw [Act.reviewNotices_eq passed]
  split
  · exact .idle ‹_›
  · split
    · rename_i lost
      obtain ⟨h, m, retired, mark⟩ := lost
      have reports := ((a.retires gone none).push_reports .currentRetired).trans (Act.push_reports .noticesChanged _)
      rw [reports.frame]
      exact ⟨rfl, rfl, fun _ => ⟨rfl, (Act.push_reports ..).tells _ (Act.push_tells ..)⟩,
        fun kept => absurd mark (kept h m retired), rfl⟩
    · rename_i kept
      rw [(Act.push_reports ..).frame]
      exact ⟨rfl, rfl, fun lost => absurd lost kept, fun _ => rfl, rfl⟩

end

/-! ### The current and the next notice (R118) -/

section
variable {q : NoticeQueue} {c h : HeldNotice}

theorem NoticeQueue.find_held {id : Byte} (found : q.find id = some h) : h.notice.id = id ∧ h ∈ q.held :=
  ⟨by simpa using List.find?_some found, List.mem_of_find?_eq_some found⟩

theorem NoticeQueue.currentNotice_unmarked (h : q.current = none) : q.currentNotice = none := by
  unfold NoticeQueue.currentNotice
  rw [h]

theorem NoticeQueue.currentNotice_held (h : q.currentNotice = some c) : q.current = some c.notice.id ∧ c ∈ q.held := by
  unfold NoticeQueue.currentNotice at h
  split at h
  · rename_i id mark
    obtain ⟨rfl, held⟩ := NoticeQueue.find_held h
    exact ⟨mark, held⟩
  · cases h

theorem NoticeQueue.next_unmarked (h : q.currentNotice = none) : q.next = q.held.head? := by
  unfold NoticeQueue.next
  rw [h]

theorem NoticeQueue.next_marked (h : q.currentNotice = some c) :
    q.next = q.held.find? fun h => decide (c.notice.stop.toNat ≤ h.notice.start.toNat) := by
  unfold NoticeQueue.next
  rw [h]

theorem NoticeQueue.next_eq_some_iff (marked : q.currentNotice = some c) : q.next = some h ↔
    ∃ before after, q.held = before ++ h :: after ∧ c.notice.stop.toNat ≤ h.notice.start.toNat
      ∧ ∀ x ∈ before, x.notice.start.toNat < c.notice.stop.toNat := by
  rw [NoticeQueue.next_marked marked, List.find?_eq_some_iff_append]
  simp only [decide_eq_true_eq, Bool.not_eq_true', decide_eq_false_iff_not, Nat.not_le]
  exact ⟨fun ⟨beyond, before, after, held, behind⟩ => ⟨before, after, held, beyond, behind⟩,
    fun ⟨before, after, held, beyond, behind⟩ => ⟨beyond, before, after, held, behind⟩⟩

theorem NoticeQueue.next_eq_none_iff (marked : q.currentNotice = some c) :
    q.next = none ↔ ∀ h ∈ q.held, h.notice.start.toNat < c.notice.stop.toNat := by
  rw [NoticeQueue.next_marked marked, List.find?_eq_none]
  simp only [decide_eq_true_eq, Nat.not_le]

end

/-! ### The mark (R117) -/

section
variable {id : Byte} {h : HeldNotice} {a : Act}

theorem Act.markNotice_unheld (unheld : a.notices.find id = none) : a.markNotice id = (none, a) := by
  unfold Act.markNotice
  rw [unheld]

theorem Act.markNotice_held (held : a.notices.find id = some h) : a.markNotice id = (some h,
    if a.notices.current = some id then a
    else (Act.log .noticeCurrent id.toNat (n16 id.toNat) h.notice.start
      { a with notices := { a.notices with current := some id } }).push .noticesChanged) := by
  unfold Act.markNotice
  rw [held]
  by_cases marked : a.notices.current = some id
  · exact (if_pos ((a.notices.isCurrent_iff id).mpr marked)).trans (by rw [if_pos marked])
  · exact (if_neg (mt (a.notices.isCurrent_iff id).mp marked)).trans (by rw [if_neg marked])

theorem Act.clearMark_unmarked (unmarked : a.notices.current = none) : a.clearMark = a :=
  if_pos (Option.isNone_iff_eq_none.mpr unmarked)

theorem Act.clearMark_marked (marked : a.notices.current ≠ none) :
    a.clearMark = ({ a with notices := { a.notices with current := none } } : Act).push .noticesChanged :=
  if_neg (mt Option.isNone_iff_eq_none.mp marked)

theorem Act.clearMark_frame (a : Act) :
    a.clearMark = { a with notices := { a.notices with current := none }, inbox := a.clearMark.inbox } := by
  by_cases unmarked : a.notices.current = none
  · rw [Act.clearMark_unmarked unmarked, ← unmarked]
  · rw [Act.clearMark_marked unmarked]
    exact (Act.push_reports ..).frame

end

/-- R119: the expiry of the review timer. -/
theorem exec_noticeReview {s : State} {n : Nat} (timer : s.act.notices.reviewTimer = some n) :
    exec .noticeReviewTimerExpiry s = .next (State.finish ((s.elapse n).onAct fun e a => a.noticeReview e)) := by
  have expired : s.onExpiry s.act.notices.reviewTimer (fun s => s.onAct fun e a => a.noticeReview e) =
      (s.elapse n).onAct fun e a => a.noticeReview e := by rw [timer, State.onExpiry_some]
  exact congrArg (fun t => Host.Outcome.next (State.finish t)) expired

/-- Settles O50. -/
theorem noticeReview : Obligations.NoticeReview := by
  refine ⟨fun s n timer => ?_, fun q => ?_, fun a id => ?_⟩
  · intro e passed
    let restarted : Act :=
      { s.act.elapse n with notices := { (s.act.elapse n).notices with reviewTimer := some 10 } }
    obtain ⟨again, held, lost, marked, logs⟩ := Act.reviewNotices_reviewed (e := e) (a := restarted) (gone := passed)
      (funext fun h => h.passed_rearPosition e restarted)
    exact ⟨_, exec_noticeReview timer, rfl, again, held, lost, marked, logs,
      (State.finish_notices _).trans (congrArg (List.map HeldNotice.notice) held)⟩
  · exact ⟨NoticeQueue.next_unmarked, fun c h marked => NoticeQueue.next_eq_some_iff marked,
      fun c marked => NoticeQueue.next_eq_none_iff marked, fun c marked => NoticeQueue.currentNotice_held marked,
      NoticeQueue.currentNotice_unmarked⟩
  · intro b
    have copy : (a.markNotice id).1 = a.notices.find id := by
      cases found : a.notices.find id with
      | none => rw [Act.markNotice_unheld found]
      | some h => rw [Act.markNotice_held found]
    refine ⟨copy, fun idle => ?_, fun h held unmarked => ?_, a.clearMark_frame, fun marked => ?_⟩
    · cases found : a.notices.find id with
      | none => exact congrArg Prod.snd (Act.markNotice_unheld found)
      | some h =>
        have marked : a.notices.current = some id := idle.resolve_left (by rw [found]; nofun)
        exact (congrArg Prod.snd (Act.markNotice_held found)).trans (if_pos marked)
    · have moved := (congrArg Prod.snd (Act.markNotice_held held)).trans (if_neg unmarked)
      rw [show b = _ from moved]
      exact ⟨(Act.push_reports ..).frame, Act.push_tells ..⟩
    · rw [Act.clearMark_marked marked]
      exact Act.push_tells ..

end Sys2Proof.Machine

namespace Sys2Proof.Machine

/-! ## Roof Sequencer: the entry of a state (R123, R129)

What a change of state writes beside its entry actions: the sequencer's record, the Bid Unit's request, the active profile. -/

/-! ### What the Bid Unit's requests and the active profile leave (R95, R96) -/

/-- `b` differs from `a` in the sequencer's record, in bids, transmit lane and reports, in setpoints, and in records behind
those of `a`. -/
structure Act.Spares (a b : Act) : Prop where
  frame : b =
    { a with slots := b.slots, link := b.link, bids := b.bids, seq := b.seq, inbox := b.inbox, logs := b.logs }
  bare : ∀ i, (b.slots.get i).bare = (a.slots.get i).bare
  logs : ∃ l, b.logs = a.logs ++ l

theorem Act.recompute_bare (e : Env) (i : Slot) (a : Act) :
    ((a.recompute e).slots.get i).bare = (a.slots.get i).bare := by
  unfold Act.recompute
  split
  · cases i <;> rfl
  · rfl

namespace Act.Spares

variable {a b c : Act} {e : Env}

theorem trans (h : Act.Spares a b) (k : Act.Spares b c) : Act.Spares a c where
  frame := by rw [k.frame, h.frame]
  bare := fun i => (k.bare i).trans (h.bare i)
  logs := by
    obtain ⟨l, hl⟩ := h.logs
    obtain ⟨m, hm⟩ := k.logs
    exact ⟨l ++ m, by rw [hm, hl, List.append_assoc]⟩

/-- A write that leaves slots and records. -/
theorem of_eq (h : Act.Spares a b)
    (frame : c = { b with link := c.link, bids := c.bids, seq := c.seq, inbox := c.inbox } := by rfl) : Act.Spares a c := by
  refine h.trans ⟨?_, fun i => ?_, [], ?_⟩ <;> rw [frame]
  simp

theorem refl (a : Act) : Act.Spares a a := ⟨rfl, fun _ => rfl, [], by simp⟩

theorem seqTo {q : Sequencer} (h : Act.Spares a b) : Act.Spares a (b.setSeq q) := h.of_eq

theorem evalDue (h : Act.Spares a b) : Act.Spares a b.evalDue := h.of_eq

theorem iceDue (h : Act.Spares a b) : Act.Spares a b.iceDue := h.of_eq

theorem bidsTo {x : BidUnit} (h : Act.Spares a b) : Act.Spares a { b with bids := x } := h.of_eq

theorem push {r : Report} (h : Act.Spares a b) : Act.Spares a (b.push r) :=
  h.of_eq (by rw [(Act.push_reports ..).frame])

theorem log {k : EventCode} {x : Nat} {d : Half} {y : Word} (h : Act.Spares a b) : Act.Spares a (b.log k x d y) :=
  h.trans ⟨rfl, fun _ => rfl, _, rfl⟩

theorem offerTail {f : Frame} {r : TxRequester} (h : Act.Spares a b) : Act.Spares a (b.offerTail f r).2 := by
  obtain ⟨l, logs⟩ := (Act.Queues.refl b).offerTail (f := f) (r := r) |>.logs
  exact h.trans ⟨by rw [Act.offerTail_frame], fun i => by rw [Act.offerTail_frame], l, logs⟩

theorem alert {k : AlertCode} {i : Option Slot} (h : Act.Spares a b) : Act.Spares a (b.alert k i) := by
  rw [Act.alert_eq]
  split
  · exact h.of_eq
  · split
    · exact h.log
    · exact h

theorem endsBid {x : HeldBid} {n m : Nat} (h : Act.Spares a b) : Act.Spares a (b.endsBid x n m) :=
  h.bidsTo.log.push.evalDue

theorem cedeFor {x : HeldBid} {n : Nat} (h : Act.Spares a b) : Act.Spares a (b.cedeFor x n) := by
  by_cases phase : x.phase = .offered
  · cases withdrawn : b.link.withdrawBid x.number with
    | some k =>
      rw [Act.cedeFor_withdrawn phase withdrawn]
      exact (h.of_eq (c := { b with link := k })).endsBid
    | none =>
      rw [Act.cedeFor_owed phase withdrawn]
      exact h.bidsTo.endsBid
  · rw [Act.cedeFor_announced phase]
    exact h.offerTail.endsBid

theorem cede {n : Nat} (h : Act.Spares a b) : Act.Spares a (b.cede e n) := by
  unfold Act.cede
  split
  · split
    · exact h.cedeFor
    · exact h
  · exact h

theorem setRequest {k : BidKind} {r : Option Slot} (h : Act.Spares a b) : Act.Spares a (b.setRequest k r) := by
  cases k <;> exact h.bidsTo

theorem withdrawRequest {k : BidKind} (h : Act.Spares a b) : Act.Spares a (b.withdrawRequest e k) := by
  unfold Act.withdrawRequest
  dsimp only
  split
  · exact h.setRequest.evalDue.cede
  · exact h.setRequest.evalDue

theorem placeRequest {k : BidKind} {i : Slot} (h : Act.Spares a b) : Act.Spares a (b.placeRequest e k i) := by
  unfold Act.placeRequest
  dsimp only
  split
  · split
    · exact h.setRequest.evalDue.cede
    · exact h.setRequest.evalDue
  · exact h.setRequest.evalDue

theorem recompute (h : Act.Spares a b) : Act.Spares a (b.recompute e) := by
  have drives : Act.Drives b (b.recompute e) := (Act.Drives.refl b).recompute
  exact h.trans ⟨by rw [drives.frame], fun i => b.recompute_bare e i, [], by rw [drives.logs, List.append_nil]⟩

theorem recomputeProfile (h : Act.Spares a b) : Act.Spares a (b.recomputeProfile e) := by
  by_cases same : b.chosenProfile e = b.bids.profile
  · rwa [Act.recomputeProfile_same same]
  · rw [Act.recomputeProfile_changed same]
    exact h.bidsTo.log.recompute.push.iceDue.evalDue

theorem seqReported (h : Act.Spares a b) : Act.Spares a (b.seqReported e) := h.recomputeProfile.iceDue.evalDue

theorem requestCollector (h : Act.Spares a b) : Act.Spares a (b.requestCollector e) := by
  unfold Act.requestCollector
  split
  · exact h.placeRequest
  · exact h.withdrawRequest

theorem leaveState (h : Act.Spares a b) : Act.Spares a (b.leaveState e) := by
  unfold Act.leaveState
  split
  · exact h.seqTo.withdrawRequest
  · exact h.seqTo
  · exact h

theorem selector (h : Act.Spares a b) : b.selector = a.selector := by rw [h.frame]
theorem breaker (h : Act.Spares a b) : b.breaker = a.breaker := by rw [h.frame]
theorem isolators (h : Act.Spares a b) : b.isolators = a.isolators := by rw [h.frame]
theorem preferred (h : Act.Spares a b) : b.preferred = a.preferred := by rw [h.frame]
theorem notices (h : Act.Spares a b) : b.notices = a.notices := by rw [h.frame]
theorem startup (h : Act.Spares a b) : b.startup = a.startup := by rw [h.frame]

theorem lift (h : Act.Spares a b) (i : Slot) : (b.slots.get i).lift = (a.slots.get i).lift :=
  (congrArg SlotRec.lift (h.bare i) :)
theorem duty (h : Act.Spares a b) (i : Slot) : (b.slots.get i).duty = (a.slots.get i).duty :=
  (congrArg SlotRec.duty (h.bare i) :)
theorem head (h : Act.Spares a b) (i : Slot) : (b.slots.get i).head = (a.slots.get i).head :=
  (congrArg SlotRec.head (h.bare i) :)

theorem collects (h : Act.Spares a b) (i : Slot) : b.Collects i ↔ a.Collects i := by
  unfold Act.Collects
  rw [h.lift, h.duty]

theorem raised (h : Act.Spares a b) (i : Slot) : (b.slots.get i).Raised ↔ (a.slots.get i).Raised := by
  unfold SlotRec.Raised
  rw [h.lift]

theorem track (h : Act.Spares a b) (i : Slot) : b.track e i = a.track e i :=
  congrArg e.track (congrArg SlotRec.dA (h.bare i) :)

theorem dfront (h : Act.Spares a b) (i : Slot) : b.dfront e i = a.dfront e i :=
  congrArg e.dfront (congrArg SlotRec.dA (h.bare i) :)

end Act.Spares

/-! ### The COLLECT request (R96) -/

section
variable (e : Env) (a : Act)

theorem Act.cede_collectRequest (n : Nat) : (a.cede e n).bids.collectRequest = a.bids.collectRequest := by
  unfold Act.cede
  split
  · split
    · rw [(Act.cedeFor_ceded ..).bids]
    · rfl
  · rfl

theorem Act.withdrawRequest_collectRequest : (a.withdrawRequest e .collect).bids.collectRequest = none := by
  unfold Act.withdrawRequest
  dsimp only
  split
  · rw [Act.cede_collectRequest]
    rfl
  · rfl

theorem Act.placeRequest_collectRequest (i : Slot) : (a.placeRequest e .collect i).bids.collectRequest = some i := by
  unfold Act.placeRequest
  dsimp only
  split
  · split
    · rw [Act.cede_collectRequest]
      rfl
    · rfl
  · rfl

theorem Act.requestCollector_collectRequest : (a.requestCollector e).bids.collectRequest = a.seq.collector := by
  unfold Act.requestCollector
  split
  · rename_i collector
    rw [Act.placeRequest_collectRequest, collector]
  · rename_i collector
    rw [Act.withdrawRequest_collectRequest, collector]

@[simp] theorem Act.requestCollector_seq : (a.requestCollector e).seq = a.seq := by
  unfold Act.requestCollector
  split <;> simp

theorem Act.recomputeProfile_collectRequest : (a.recomputeProfile e).bids.collectRequest = a.bids.collectRequest := by
  by_cases same : a.chosenProfile e = a.bids.profile
  · rw [Act.recomputeProfile_same same]
  · rw [Act.recomputeProfile_changed same, Act.evalDue_bids, Act.iceDue_bids, Act.push_bids,
      ((Act.Drives.refl _).recompute).frame]
    rfl

end

/-! ### Leaving and entering (R123, R129) -/

/-- The part at the beginning of a state's entry actions. -/
def Act.arrive (e : Env) (st : SeqState) (a : Act) : Act := (a.leaveState e).goTo st

section
variable {e : Env} {st : SeqState} {why : Nat} {f : Act → Act} {a : Act}

theorem Act.arrive_spares : Act.Spares a (a.arrive e st) := (Act.Spares.refl a).leaveState.seqTo

/-- R129: of the record only these four may end with the state that is left. -/
theorem Act.arrive_seq : (a.arrive e st).seq =
    { a.seq with
      state := st, visit := a.seq.visit + 1, awaiting := []
      powerlessTimer := (a.arrive e st).seq.powerlessTimer, powerless := (a.arrive e st).seq.powerless
      committed := (a.arrive e st).seq.committed, noSupplyTimer := (a.arrive e st).seq.noSupplyTimer } := by
  unfold Act.arrive Act.goTo
  simp only [Act.setSeq_seq, Act.leaveState_seq]
  split <;> rfl

@[simp] theorem Act.arrive_state : (a.arrive e st).seq.state = st := by rw [Act.arrive_seq]
@[simp] theorem Act.arrive_visit : (a.arrive e st).seq.visit = a.seq.visit + 1 := by rw [Act.arrive_seq]
@[simp] theorem Act.arrive_awaiting : (a.arrive e st).seq.awaiting = [] := by rw [Act.arrive_seq]
@[simp] theorem Act.arrive_target : (a.arrive e st).seq.target = a.seq.target := by rw [Act.arrive_seq]
@[simp] theorem Act.arrive_collector : (a.arrive e st).seq.collector = a.seq.collector := by rw [Act.arrive_seq]
@[simp] theorem Act.arrive_notice : (a.arrive e st).seq.notice = a.seq.notice := by rw [Act.arrive_seq]
@[simp] theorem Act.arrive_reselectUsed : (a.arrive e st).seq.reselectUsed = a.seq.reselectUsed := by rw [Act.arrive_seq]
@[simp] theorem Act.arrive_tripMarker : (a.arrive e st).seq.tripMarker = a.seq.tripMarker := by rw [Act.arrive_seq]
@[simp] theorem Act.arrive_recloseHold : (a.arrive e st).seq.recloseHold = a.seq.recloseHold := by rw [Act.arrive_seq]
@[simp] theorem Act.arrive_reviewTimer : (a.arrive e st).seq.reviewTimer = a.seq.reviewTimer := by rw [Act.arrive_seq]

theorem Act.arrive_committed (h : a.seq.committed = false) : (a.arrive e st).seq.committed = false := by
  unfold Act.arrive Act.goTo
  simp only [Act.setSeq_seq, Act.leaveState_seq]
  split
  · rfl
  · exact h
  · exact h

/-- R123: a new state or phase begins a new stay. -/
theorem Act.arrive_eq : a.arrive e st = (a.leaveState e).setSeq
    { (a.leaveState e).seq with state := st, visit := a.seq.visit + 1, awaiting := [] } := by
  have visit : (a.leaveState e).seq.visit = a.seq.visit := by
    rw [Act.leaveState_seq]
    split <;> rfl
  rw [Act.arrive, Act.goTo, visit]

/-- R129: the request ends with RAISING. -/
theorem Act.leaveState_raising (h : a.seq.state = .raising) : a.leaveState e =
    (a.setSeq { a.seq with powerlessTimer := none, powerless := false, committed := false }).withdrawRequest e .collect := by
  unfold Act.leaveState
  rw [h]

/-- What follows a state's entry actions `x`: the record SEQ_STATE and the sequencer's report. -/
structure Act.Entered (x b : Act) : Prop where
  spares : Act.Spares x b
  seq : b.seq = x.seq
  request : b.bids.collectRequest = x.bids.collectRequest

theorem Act.enter_entered (e : Env) (st : SeqState) (why : Nat) (f : Act → Act) (a : Act) :
    Act.Entered (f (a.arrive e st)) (a.enter e st why f) where
  spares := (Act.Spares.refl _).log.seqReported
  seq := Act.enter_seq ..
  request := Act.recomputeProfile_collectRequest ..

/-- R123: SEQ_STATE, with the record as the entry actions leave it. -/
theorem Act.enter_eq (e : Env) (st : SeqState) (why : Nat) (f : Act → Act) (a : Act) :
    a.enter e st why f =
      ((f (a.arrive e st)).log .seqState (f (a.arrive e st)).seq.copyId (n16 (bytes2 st.toCode.code a.seq.state.toCode.code))
        (n32 (bytes2 (optSupplyCode (f (a.arrive e st)).seq.target) why))).seqReported e := rfl

/-- Entry actions count by what they make of this entry. -/
theorem Act.enter_congr {g : Act → Act} (h : f (a.arrive e st) = g (a.arrive e st)) :
    a.enter e st why f = a.enter e st why g := by rw [Act.enter_eq, Act.enter_eq, h]

theorem Act.Stands.of_seq {x b : Act} {c : Option Slot} {l : List Request} (h : b.seq = x.seq) (k : x.Stands st c l) :
    b.Stands st c l := by
  obtain ⟨state, collector, asked⟩ := k
  rw [← h] at state collector asked
  exact ⟨state, collector, asked⟩

theorem Act.arrive_stands : (a.arrive e st).Stands st a.seq.collector [] := ⟨by simp, by simp, by simp⟩

/-- R124: a request made by the entry actions. -/
theorem Act.Stands.ask {c : Option Slot} {l : List Request} (k : a.Stands st c l) (r : Request) :
    (a.ask e r).Stands st c (l ++ [r]) := by
  obtain ⟨state, collector, asked⟩ := k
  exact ⟨by simpa using state, by simpa using collector, by simp [asked]⟩

/-- A state whose entry makes one request. -/
theorem Act.enter_ask_stands (r : Request) : (a.enter e st why fun b => b.ask e r).Stands st a.seq.collector [r] :=
  Act.arrive_stands.ask r |>.of_seq (Act.enter_entered ..).seq

theorem Act.enter_idle_stands : (a.enter e st why id).Stands st a.seq.collector [] :=
  Act.arrive_stands.of_seq (Act.enter_entered ..).seq

end

end Sys2Proof.Machine

namespace Sys2Proof.Machine

/-! ### PREPARE, CONNECTING, HELD (R128, R130, R143) -/

section
variable {e : Env} {a : Act}

theorem Act.enterPrepare_seq : (a.enterPrepare e).seq =
    { (a.arrive e (.prepare .clearing)).seq with
      testCount := 0, awaiting := [.openBreaker, .openIsolator .zero, .openIsolator .one] } :=
  (Act.enter_entered ..).seq.trans (by simp)

theorem Act.enterPrepare_stands : (a.enterPrepare e).Stands (.prepare .clearing) a.seq.collector
    [.openBreaker, .openIsolator .zero, .openIsolator .one] := by
  constructor <;> simp [Act.enterPrepare_seq]

theorem Act.enterPrepare_target : (a.enterPrepare e).seq.target = a.seq.target := by
  simp [Act.enterPrepare_seq]

theorem Act.enterPrepare_reselectUsed : (a.enterPrepare e).seq.reselectUsed = a.seq.reselectUsed := by
  simp [Act.enterPrepare_seq]

theorem Act.enterConnecting_eq {i : Slot} (h : a.seq.collector = some i) :
    a.enterConnecting e = a.enter e .connecting 0 fun b => b.ask e (.closeIsolator i) :=
  Act.enter_congr (by rw [Act.arrive_collector, h])

theorem Act.enterConnecting_stands {i : Slot} (h : a.seq.collector = some i) :
    (a.enterConnecting e).Stands .connecting (some i) [.closeIsolator i] := by
  rw [Act.enterConnecting_eq h, ← h]
  exact Act.enter_ask_stands _

theorem Act.enterHeld_seq (r : HeldReason) : (a.enterHeld e r).seq =
    { (a.arrive e (.held r)).seq.stopTimers with notice := none, powerless := false, tripMarker := false } :=
  (Act.enter_entered ..).seq.trans (by simp)

theorem Act.enterHeld_state (r : HeldReason) : (a.enterHeld e r).seq.state = .held r := by
  simp [Act.enterHeld_seq, Sequencer.stopTimers]

/-! ### The table of SENSING (R131 to R133) -/

theorem Act.sense_idle (h : e.cls.confirmed = .noSystem) : a.sense e = a := by
  unfold Act.sense
  rw [h]

theorem Act.sense_indeterminate (h : e.cls.confirmed = .indeterminate) : a.sense e = a.enterHeld e .indeterminate := by
  unfold Act.sense
  rw [h]

theorem Act.sense_matches {y : Supply} (h : e.cls.confirmed = .system y) (there : a.selector.state = .rest (.system y)) :
    a.sense e = if a.seq.recloseHold.isSome then a else a.closeFor e y := by
  unfold Act.sense
  rw [h]
  exact if_pos ((SelectorState.position_iff ..).mpr there)

theorem Act.sense_differs {y : Supply} (h : e.cls.confirmed = .system y) (elsewhere : a.selector.state ≠ .rest (.system y)) :
    a.sense e = if a.seq.reselectUsed then a.enterHeld e .secondMismatch else a.enterReselect e y := by
  unfold Act.sense
  rw [h]
  exact if_neg (mt (SelectorState.position_iff ..).mp elsewhere)

/-- R131: SYSTEM_MISMATCH goes before CLOSING and leaves the record. -/
theorem Act.closeFor_closes (e : Env) (y : Supply) (a : Act) : ∃ b : Act, b.seq = a.seq ∧ a.closeFor e y = b.enterClosing e := by
  refine ⟨_, ?_, rfl⟩
  split
  · split <;> rfl
  · rfl

theorem Act.closeFor_seq (e : Env) (y : Supply) (a : Act) : ∃ x : Sequencer, (a.closeFor e y).seq = x
    ∧ x.state = .closing ∧ x.collector = a.seq.collector ∧ x.awaiting = [.closeBreaker]
    ∧ x.recloseHold = a.seq.recloseHold := by
  obtain ⟨b, seq, closes⟩ := a.closeFor_closes e y
  obtain ⟨state, collector, asked⟩ : (b.enterClosing e).Stands .closing b.seq.collector [.closeBreaker] :=
    Act.enter_ask_stands _
  refine ⟨_, rfl, ?_⟩
  rw [closes, ← seq]
  exact ⟨state, collector, asked, by rw [Act.enterClosing, (Act.enter_entered ..).seq]; simp⟩

/-- R132: RESELECT is spent on the system found, which is the target from here on. -/
def Act.reselectFor (y : Supply) (a : Act) : Act := a.setSeq { a.seq with reselectUsed := true, target := some y }

/-- R132: the entry actions of RESELECT. -/
def Act.reselects (e : Env) (y : Supply) (a : Act) : Act :=
  let b := a.reselectFor y
  match b.seq.collector with
  | none => b
  | some i =>
    let c := b.ask e (.openIsolator i)
    if profilePermits (e.profile (some y)) (c.slots.get i).head then c else (c.lower e i []).setCollector none

theorem Act.enterReselect_eq (e : Env) (y : Supply) (a : Act) : a.enterReselect e y =
    let b := a.enter e .reselect 0 (Act.reselects e y)
    if b.seq.awaiting.isEmpty then b.enterPrepare e else b := rfl

/-- R132: without a collector RESELECT passes on to PREPARE at once. -/
theorem Act.enterReselect_passes {y : Supply} (h : a.seq.collector = none) : ∃ b : Act,
    a.enterReselect e y = b.enterPrepare e ∧ b.seq.reselectUsed = true ∧ b.seq.target = some y := by
  have entered : (a.enter e .reselect 0 (Act.reselects e y)).seq = ((a.arrive e .reselect).reselectFor y).seq := by
    rw [(Act.enter_entered ..).seq]
    simp [Act.reselects, Act.reselectFor, h]
  rw [Act.enterReselect_eq]
  exact ⟨_, if_pos (by simp [entered, Act.reselectFor]), by simp [entered, Act.reselectFor],
    by simp [entered, Act.reselectFor]⟩

/-- An open request leaves the slots. -/
theorem Act.ask_openIsolator_slots (i : Slot) : (a.ask e (.openIsolator i)).slots = a.slots :=
  (Act.openIsolator_switches ..).slots

/-- R132: the entry actions with a collector, which is kept where its head may run on the system found, and lowered
otherwise. -/
theorem Act.reselects_collector {y : Supply} {i : Slot} (h : a.seq.collector = some i) :
    let b := (a.reselectFor y).ask e (.openIsolator i)
    (profilePermits (e.profile (some y)) (a.slots.get i).head = true → a.reselects e y = b)
    ∧ (profilePermits (e.profile (some y)) (a.slots.get i).head = false →
      a.reselects e y = (b.lower e i []).setCollector none) := by
  intro b
  have slots : b.slots = a.slots := Act.ask_openIsolator_slots i
  have run : a.reselects e y =
      if profilePermits (e.profile (some y)) (b.slots.get i).head then b else (b.lower e i []).setCollector none := by
    unfold Act.reselects
    dsimp only
    rw [show (a.reselectFor y).seq.collector = some i from h]
  rw [run, slots]
  exact ⟨fun k => if_pos k, fun k => if_neg (by simp [k])⟩

/-- R132: the collector's isolator is opened; its head decides whether the collector is kept or lowered. -/
theorem Act.enterReselect_opens {y : Supply} {i : Slot} (h : a.seq.collector = some i) :
    let b := a.enterReselect e y
    b.seq.reselectUsed = true ∧ b.seq.target = some y
    ∧ (profilePermits (e.profile (some y)) (a.slots.get i).head = true → b.Stands .reselect (some i) [.openIsolator i])
    ∧ (profilePermits (e.profile (some y)) (a.slots.get i).head = false →
      b.Stands .reselect none [.openIsolator i] ∧ ¬ (b.slots.get i).Raised) := by
  intro b
  have entered := a.enter_entered e .reselect 0 (Act.reselects e y)
  have collector : (a.arrive e .reselect).seq.collector = some i := Act.arrive_collector.trans h
  obtain ⟨keeps, lowers⟩ := Act.reselects_collector (e := e) (y := y) collector
  rw [Act.arrive_spares.head i] at keeps lowers
  generalize profilePermits (e.profile (some y)) (a.slots.get i).head = fits at keeps lowers ⊢
  have seq : ((a.arrive e .reselect).reselects e y).seq =
      { (a.arrive e .reselect).seq with
        reselectUsed := true, target := some y, collector := if fits then some i else none
        awaiting := [.openIsolator i] } := by
    cases fits
    · simp [lowers rfl, Act.setCollector, Act.reselectFor]
    · simp [keeps rfl, Act.reselectFor, h]
  have stays : b = a.enter e .reselect 0 (Act.reselects e y) :=
    (Act.enterReselect_eq e y a).trans (if_neg (by simp [entered.seq, seq]))
  have stands : b.Stands .reselect (if fits then some i else none) [.openIsolator i] := by
    constructor <;> simp [stays, entered.seq, seq]
  refine ⟨by rw [stays, entered.seq, seq], by rw [stays, entered.seq, seq], fun k => ?_, fun k => ⟨?_, ?_⟩⟩
  · simpa [k] using stands
  · simpa [k] using stands
  · rw [stays, entered.spares.raised, lowers k]
    exact Act.lower_rests e i [] _

/-! ### What SENSING reads off (R131) -/

/-- R131: the state `b` to which the table of SENSING leads, by the confirmed system and the record of `a`. -/
def Act.Reads (e : Env) (a b : Act) : Prop :=
  (e.cls.confirmed = .noSystem → b.seq.state = .sensing)
  ∧ (e.cls.confirmed = .indeterminate → b.seq.state = .held .indeterminate)
  ∧ ∀ y, e.cls.confirmed = .system y →
    (a.selector.state = .rest (.system y) → a.seq.recloseHold.isSome = true → b.seq.state = .sensing)
    ∧ (a.selector.state = .rest (.system y) → a.seq.recloseHold = none → b.Stands .closing a.seq.collector [.closeBreaker])
    ∧ (a.selector.state ≠ .rest (.system y) → a.seq.reselectUsed = true → b.seq.state = .held .secondMismatch)
    ∧ (a.selector.state ≠ .rest (.system y) → a.seq.reselectUsed = false →
      b.seq.reselectUsed = true ∧ b.seq.target = some y
      ∧ (a.seq.collector = none → b.seq.state = .prepare .clearing)
      ∧ ∀ i p, a.seq.collector = some i → e.profile (some y) = some p →
        (p.heads.permits (a.slots.get i).head = true → b.Stands .reselect (some i) [.openIsolator i])
        ∧ (p.heads.permits (a.slots.get i).head = false →
          b.Stands .reselect none [.openIsolator i] ∧ ¬ (b.slots.get i).Raised))

theorem Act.enterReselect_reads {y : Supply} :
    let b := a.enterReselect e y
    b.seq.reselectUsed = true ∧ b.seq.target = some y
    ∧ (a.seq.collector = none → b.seq.state = .prepare .clearing)
    ∧ ∀ i p, a.seq.collector = some i → e.profile (some y) = some p →
      (p.heads.permits (a.slots.get i).head = true → b.Stands .reselect (some i) [.openIsolator i])
      ∧ (p.heads.permits (a.slots.get i).head = false →
        b.Stands .reselect none [.openIsolator i] ∧ ¬ (b.slots.get i).Raised) := by
  intro b
  cases collector : a.seq.collector with
  | none =>
    obtain ⟨c, passes, used, target⟩ := Act.enterReselect_passes (e := e) (y := y) collector
    rw [show b = c.enterPrepare e from passes, Act.enterPrepare_reselectUsed, Act.enterPrepare_target]
    exact ⟨used, target, fun _ => Act.enterPrepare_stands.state, nofun⟩
  | some i =>
    obtain ⟨used, target, keeps, lowers⟩ := Act.enterReselect_opens (e := e) (y := y) collector
    refine ⟨used, target, nofun, fun j p same profile => ?_⟩
    cases same
    rw [profile] at keeps lowers
    exact ⟨keeps, lowers⟩

/-- R131: the table, read in SENSING. -/
theorem Act.sense_reads (h : a.seq.state = .sensing) : Act.Reads e a (a.sense e) := by
  refine ⟨fun none => ?_, fun unclear => ?_, fun y system => ⟨fun there held => ?_, fun there free => ?_,
    fun elsewhere used => ?_, fun elsewhere unused => ?_⟩⟩
  · rw [Act.sense_idle none, h]
  · rw [Act.sense_indeterminate unclear, Act.enterHeld_state]
  · rw [Act.sense_matches system there, if_pos held, h]
  · obtain ⟨x, seq, state, collector, asked, -⟩ := a.closeFor_seq e y
    rw [Act.sense_matches system there, if_neg (by simp [free])]
    exact ⟨seq ▸ state, seq ▸ collector, seq ▸ asked⟩
  · rw [Act.sense_differs system elsewhere, if_pos used, Act.enterHeld_state]
  · rw [Act.sense_differs system elsewhere, if_neg (by simp [unused])]
    exact Act.enterReselect_reads

/-- The table depends on the selector, on three entries of the record, and on the heads. -/
theorem Act.Reads.of_same {b c : Act} (selector : b.selector = a.selector) (hold : b.seq.recloseHold = a.seq.recloseHold)
    (used : b.seq.reselectUsed = a.seq.reselectUsed) (collector : b.seq.collector = a.seq.collector)
    (head : ∀ i, (b.slots.get i).head = (a.slots.get i).head) (h : Act.Reads e b c) : Act.Reads e a c := by
  unfold Act.Reads at h ⊢
  simp only [selector, hold, used, collector, head] at h
  exact h

/-- R131, R133, R135: entering SENSING reads the table. -/
theorem Act.enterSensing_reads : Act.Reads e a (a.enterSensing e) := by
  have entered := a.enter_entered e .sensing 0 fun b => b.noSupplyTimed e
  have spares := Act.arrive_spares.seqTo.trans entered.spares
  refine .of_same spares.selector ?_ ?_ ?_ spares.head (Act.sense_reads ?_)
  all_goals
    rw [entered.seq]
    simp [Act.noSupplyTimed]

end

end Sys2Proof.Machine

namespace Sys2Proof.Machine

/-! ## Roof Sequencer: its timers (R124, R128, R129, R131, R134, R136) -/

/-- An expiry lets the time pass that its timer had left; then the blocks act on it (log 2). -/
theorem State.expiry_acts {s : State} {timer : Timer} {n : Nat} (h : timer = some n) {f : Env → Act → Act} {b : Act}
    (k : f (s.env.elapse n) (s.act.elapse n) = b) :
    Host.Outcome.next (φ := Fault) (ρ := Refusal) (s.onExpiry timer fun s => s.onAct f).finish =
      .next (State.finish { s.elapse n with act := b }) := by
  rw [h, ← k]
  rfl

section
variable {e : Env} {a : Act}

/-! ### What each expiry does, by the state it finds -/

/-- R124: the request is made again in the stay it was refused in, while the state's rule still names it. -/
theorem Act.retryExpired_refused {r : Request} {v : Nat} (h : a.seq.retry = some (r, v)) : a.retryExpired e =
    let b := a.setSeq { a.seq with retryTimer := none, retry := none }
    if v = a.seq.visit ∧ a.stillNamed r = true then b.ask e r else b := by
  unfold Act.retryExpired
  dsimp only
  rw [h]
  cases r <;> rfl

theorem Act.retryExpired_idle (h : a.seq.retry = none) :
    a.retryExpired e = a.setSeq { a.seq with retryTimer := none, retry := none } := by
  unfold Act.retryExpired
  dsimp only
  rw [h]

theorem Act.testRetryExpired_testing (h : a.seq.state = .prepare .testing ∨ a.seq.state = .gap .testing) :
    a.testRetryExpired e =
      (a.setSeq { a.seq with testRetryTimer := none, testCount := a.seq.testCount + 1 }).ask e .roofTest := by
  unfold Act.testRetryExpired
  rcases h with h | h <;> simp only [Act.setSeq_seq, h] <;> rfl

theorem Act.testRetryExpired_late (prepare : a.seq.state ≠ .prepare .testing) (gap : a.seq.state ≠ .gap .testing) :
    a.testRetryExpired e = a.setSeq { a.seq with testRetryTimer := none } := by
  unfold Act.testRetryExpired
  dsimp only
  split
  · exact absurd ‹_› prepare
  · exact absurd ‹_› gap
  · rfl

theorem Act.powerlessExpired_raising (h : a.seq.state = .raising) : a.powerlessExpired =
    (a.setSeq { a.seq with powerlessTimer := none, powerless := true }).log .powerless 255
      (n16 (optSlotCode a.seq.collector)) 0 := by
  unfold Act.powerlessExpired
  simp only [Act.setSeq_seq, h]
  rfl

theorem Act.powerlessExpired_late (h : a.seq.state ≠ .raising) :
    a.powerlessExpired = a.setSeq { a.seq with powerlessTimer := none } := by
  unfold Act.powerlessExpired
  dsimp only
  split
  · exact absurd ‹_› h
  · rfl

theorem Act.noSupplyExpired_sensing (h : a.seq.state = .sensing) : a.noSupplyExpired =
    ((a.setSeq { a.seq with noSupplyTimer := none }).log .noSupply 255 (n16 a.selector.state.toCode.code)
      (n32 10000)).alert .noSupply none := by
  unfold Act.noSupplyExpired
  simp only [Act.setSeq_seq, h]
  rfl

theorem Act.noSupplyExpired_late (h : a.seq.state ≠ .sensing) :
    a.noSupplyExpired = a.setSeq { a.seq with noSupplyTimer := none } := by
  unfold Act.noSupplyExpired
  dsimp only
  split
  · exact absurd ‹_› h
  · rfl

theorem Act.recloseHoldExpired_sensing (h : a.seq.state = .sensing) :
    a.recloseHoldExpired e = (a.setSeq { a.seq with recloseHold := none }).sense e := by
  unfold Act.recloseHoldExpired
  simp only [Act.setSeq_seq, h]

theorem Act.recloseHoldExpired_late (h : a.seq.state ≠ .sensing) :
    a.recloseHoldExpired e = a.setSeq { a.seq with recloseHold := none } := by
  unfold Act.recloseHoldExpired
  dsimp only
  split
  · exact absurd ‹_› h
  · rfl

/-- R134: outside a passage's waits the open point is tested; DORMANT has none. -/
theorem Act.positionsMoved_dormant (h : a.seq.state = .dormant) : a.positionsMoved e = a := by
  unfold Act.positionsMoved Act.testOpenPoint
  rw [h]
  dsimp only
  split
  · rfl
  · exact ite_self _

end

/-- Settles O52. -/
theorem sequencerTimers : Obligations.SequencerTimers := by
  refine ⟨fun s n => ?_, fun e a => ?_⟩
  · intro a e q only asks
    have makes (r : Request) (x : Sequencer) : (asks r x).act.seq = { x with awaiting := x.awaiting ++ [r] } :=
      Act.ask_seq e r (a.setSeq x)
    refine ⟨fun timer => ⟨fun r v refused stay named => ?_, fun idle => State.expiry_acts timer ?_⟩,
      fun timer => ⟨fun testing => ?_, fun prepare gap => ?_⟩, fun timer => ⟨fun raising => ?_, fun late => ?_⟩,
      fun timer => ⟨fun sensing => ?_, fun late => ?_⟩, fun timer => ⟨fun idle => State.expiry_acts timer ?_,
        fun y sensing system there => ?_⟩, fun timer => ⟨?_, fun dormant => ?_⟩⟩
    · exact ⟨State.expiry_acts timer ((Act.retryExpired_refused (a := a) refused).trans (if_pos ⟨stay, named⟩)), makes ..⟩
    · rcases idle with none | ⟨r, v, refused, past⟩
      · exact Act.retryExpired_idle (a := a) none
      · refine (Act.retryExpired_refused (a := a) refused).trans (if_neg ?_)
        rintro ⟨stay, named⟩
        exact past.elim (fun k => k stay) fun k => Bool.false_ne_true (k.symm.trans named)
    · exact ⟨State.expiry_acts timer (Act.testRetryExpired_testing (a := a) testing), makes ..⟩
    · exact State.expiry_acts timer (Act.testRetryExpired_late (a := a) prepare gap)
    · exact State.expiry_acts timer (Act.powerlessExpired_raising (a := a) raising)
    · exact State.expiry_acts timer (Act.powerlessExpired_late (a := a) late)
    · let logged := (a.setSeq { q with noSupplyTimer := none }).log .noSupply 255 (n16 a.selector.state.toCode.code)
        (n32 10000)
      obtain ⟨l, logs⟩ := ((Act.Spares.refl logged).alert (k := .noSupply) (i := none)).logs
      refine ⟨_, State.expiry_acts timer (Act.noSupplyExpired_sensing (a := a) sensing),
        congrArg (fun b => { s.elapse n with act := b }) (Act.alert_frame .noSupply none logged), l, ?_⟩
      exact logs.trans (by rw [Act.log_entry, List.append_assoc]; rfl)
    · exact State.expiry_acts timer (Act.noSupplyExpired_late (a := a) late)
    · by_cases sensing : a.seq.state = .sensing
      · refine (Act.recloseHoldExpired_sensing (a := a) sensing).trans (Act.sense_idle ?_)
        exact idle.resolve_left fun k => k sensing
      · exact Act.recloseHoldExpired_late (a := a) sensing
    · obtain ⟨x, seq, state, -, asked, hold⟩ := (a.setSeq { q with recloseHold := none }).closeFor_seq e y
      have closes : a.recloseHoldExpired e = (a.setSeq { q with recloseHold := none }).closeFor e y :=
        (Act.recloseHoldExpired_sensing (a := a) sensing).trans (Act.sense_matches system there)
      subst seq
      exact ⟨_, State.expiry_acts timer closes, rfl, state, hold, asked⟩
    · obtain ⟨b, settled, finished⟩ := State.finish_settles { s.elapse n with act := a.seqReview e }
      have moved : Act.Settles e (a.setSeq { q with reviewTimer := some 10 }) (a.seqReview e) :=
        (Act.Settles.refl _).positionsMoved
      refine ⟨_, State.expiry_acts timer rfl, rfl, ?_⟩
      exact (congrArg (fun t => t.act.seq.reviewTimer) finished).trans (settled.seqTimer.trans moved.seqTimer)
    · exact State.expiry_acts timer (Act.positionsMoved_dormant (a := a.setSeq { q with reviewTimer := some 10 }) dormant)
  · intro awaits by_
    exact ⟨fun y => ⟨rfl, decide_eq_true_iff⟩, fun i => ⟨rfl, decide_eq_true_iff, rfl, rfl⟩, rfl, rfl, rfl, rfl⟩

end Sys2Proof.Machine

namespace Sys2Proof.Machine

/-! ## Orders: RESUME (R144) -/

/-! ### The first slot of which something holds -/

theorem firstSlot_eq_some {p : Slot → Bool} {i : Slot} (h : p i = true) (first : i = .one → ¬ p .zero = true) :
    [Slot.zero, Slot.one].find? p = some i := by
  cases i with
  | zero => exact List.find?_cons_of_pos h
  | one => exact (List.find?_cons_of_neg (first rfl)).trans (List.find?_cons_of_pos h)

theorem firstSlot_eq_none {p : Slot → Bool} (h : ∀ i, ¬ p i = true) : [Slot.zero, Slot.one].find? p = none :=
  List.find?_eq_none.mpr fun i _ => h i

/-! ### Conditions, and the passage that begins -/

section
variable {e : Env} {a : Act}

/-- R127, R142. -/
theorem Act.collects_iff (i : Slot) : (a.slots.get i).collecting = true ↔ a.Collects i := by
  simp [SlotRec.collecting, Act.Collects]

/-- R144: UP with duty COLLECT behind a CLOSED isolator. -/
theorem Act.connects_iff (i : Slot) :
    ((a.slots.get i).collecting && decide ((a.isolators.get i).state = .closed)) = true ↔
      (a.slots.get i).lift = .up ∧ (a.slots.get i).duty = .collect ∧ (a.isolators.get i).state = .closed := by
  rw [Bool.and_eq_true, Act.collects_iff, decide_eq_true_iff, Act.Collects, and_assoc]

theorem Act.resumeReason_outside (h : ¬ ∃ r, a.seq.state = .held r) : a.resumeReason = some 1 := by
  unfold Act.resumeReason
  split
  · exact absurd ⟨_, ‹_›⟩ h
  · rfl

theorem Act.resumeReason_held (h : ∃ r, a.seq.state = .held r) : a.resumeReason =
    if a.breaker.state ≠ .opened then some 2
    else if a.selector.state = .fault ∨ a.isolators.zero.state = .fault ∨ a.isolators.one.state = .fault then some 3
    else if a.bids.profile = none then some 4
    else none := by
  obtain ⟨r, h⟩ := h
  unfold Act.resumeReason
  rw [h]

theorem Act.resumeOrder_refused {reason : Nat} (h : a.resumeReason = some reason) (src : Nat) :
    a.resumeOrder e src = a.log .resumeRefused 255 (n16 reason) (n32 src) := by
  unfold Act.resumeOrder
  rw [h]

/-- R144: a RESUME that is taken with no collector connected begins at PREPARE. -/
theorem Act.resumeOrder_prepares (h : a.resumeReason = none) (apart : a.connected = none) (src : Nat) :
    a.resumeOrder e src =
      (a.setSeq { a.seq with
        reselectUsed := false
        target := match a.seq.target with | some y => some y | none => a.bids.profile }).enterPrepare e := by
  unfold Act.resumeOrder
  rw [h]
  dsimp only
  rw [show (a.setSeq { a.seq with reselectUsed := false }).connected = none from apart]
  rfl

/-- R144: behind a connected collector it begins at SENSING. -/
theorem Act.resumeOrder_senses {i : Slot} {y : Supply} (h : a.resumeReason = none) (there : a.connected = some i)
    (position : a.selector.state = .rest (.system y)) (src : Nat) :
    a.resumeOrder e src =
      (a.setSeq { a.seq with reselectUsed := false, collector := some i, target := some y }).enterSensing e := by
  unfold Act.resumeOrder
  rw [h]
  dsimp only
  rw [show (a.setSeq { a.seq with reselectUsed := false }).connected = some i from there,
    show (a.setSeq { a.seq with reselectUsed := false }).selector.state.position = some y from
      (SelectorState.position_iff ..).mpr position]
  rfl

/-- R131: with no confirmed system SENSING waits for one. -/
theorem Act.enterSensing_waits (h : e.cls.confirmed = .noSystem) : (a.enterSensing e).seq =
    { (a.arrive e .sensing).seq with noSupplyTimer := some 10000 } := by
  unfold Act.enterSensing
  rw [Act.sense_idle h, (Act.enter_entered ..).seq]
  simp [Act.noSupplyTimed, h]

end

theorem exec_resume_admitted {s : State} {own : Nat} {dst src : Byte} (admitted : s.Admits own .resume dst src)
    (unarmed : s.Unarmed) (mask : Byte) (arg : Half) {b : Act} (h : s.act.resumeOrder s.env src.toNat = b) :
    exec (.resume dst src mask arg) s = .next (State.finish { s with act := b }) := by
  subst h
  exact congrArg (fun t => Host.Outcome.next (State.finish t))
    (State.receive_obeys admitted ⟨nofun, nofun⟩ unarmed mask arg s.env.pins.temperature)

/-- Settles O28. -/
theorem resumeOrder : Obligations.ResumeOrder := by
  intro s own dst src mask arg admitted unarmed a held fault refused connected
  have refuses {reason : Nat} (h : a.resumeReason = some reason) :
      exec (.resume dst src mask arg) s = .next (refused reason).finish :=
    exec_resume_admitted admitted unarmed mask arg (Act.resumeOrder_refused h _)
  have taken {y : Supply} (inHeld : held) (breaker : a.breaker.state = .opened) (sound : ¬ fault)
      (profile : a.bids.profile = some y) : a.resumeReason = none := by
    rw [Act.resumeReason_held inHeld, if_neg (not_not.mpr breaker), if_neg sound, if_neg (by simp [profile])]
  refine ⟨fun outside => refuses (Act.resumeReason_outside outside), fun inHeld breaker => refuses ?_,
    fun inHeld breaker faulted => refuses ?_, fun inHeld breaker sound none => refuses ?_,
    fun y inHeld breaker sound profile apart => ?_, fun i y p inHeld breaker sound profile there first position quiet => ?_⟩
  · rw [Act.resumeReason_held inHeld, if_pos breaker]
  · rw [Act.resumeReason_held inHeld, if_neg (not_not.mpr breaker), if_pos faulted]
  · rw [Act.resumeReason_held inHeld, if_neg (not_not.mpr breaker), if_neg sound, if_pos none]
  · have unconnected : a.connected = none := firstSlot_eq_none fun i k => apart i ((Act.connects_iff i).mp k)
    have prepares := Act.resumeOrder_prepares (e := s.env) (taken inHeld breaker sound profile) unconnected src.toNat
    refine ⟨_, exec_resume_admitted admitted unarmed mask arg prepares, rfl, Act.enterPrepare_stands.state,
      Act.enterPrepare_reselectUsed, ?_, ?_⟩
    · exact congrArg Sequencer.testCount Act.enterPrepare_seq
    · rw [← profile]
      exact Act.enterPrepare_target
  · have behind : a.connected = some i :=
      firstSlot_eq_some ((Act.connects_iff i).mpr there) fun one k => first one ((Act.connects_iff .zero).mp k)
    have senses := Act.resumeOrder_senses (e := s.env) (taken inHeld breaker sound profile) behind position src.toNat
    refine ⟨_, exec_resume_admitted admitted unarmed mask arg senses, rfl, ?_⟩
    simp [Act.enterSensing_waits quiet]

end Sys2Proof.Machine

namespace Sys2Proof.Machine

/-! ## Roof Sequencer: DORMANT, HELD and PREPARE (R125, R126, R128, R143) -/

/-! ### A breaker that is not CLOSING or CLOSED stays so (R30, R31) -/

section
variable {a : Act} (e : Env) (i : Slot) (w : List Requester)

theorem Act.openBreaker_shuts (a : Act) : BreakerState.isLive (a.openBreaker e w).breaker.state = false := by
  cases h : a.breaker.state with
  | opened =>
    rw [Act.openBreaker_met e w (.inl h), Act.Settles.answerAll_breaker, h]
    rfl
  | lockout =>
    rw [Act.openBreaker_met e w (.inr h), Act.Settles.answerAll_breaker, h]
    rfl
  | opening =>
    rw [Act.openBreaker_opening e w h]
    dsimp only
    rw [h]
    rfl
  | closing | closed => rw [Act.openBreaker_live_breaker (by rw [h]; rfl), Breaker.opens_dead]

section
variable (dead : BreakerState.isLive a.breaker.state = false)
include dead

theorem Act.unforced_of_dead : ¬ a.Forces i := fun forces => Bool.false_ne_true (dead.symm.trans forces.1)

theorem Act.openIsolator_staysDead : BreakerState.isLive (a.openIsolator e i w).breaker.state = false := by
  rw [(Act.openIsolator_plain e w (Act.unforced_of_dead i dead)).2, dead]

theorem Act.startDown_staysDead : BreakerState.isLive (a.startDown e i w).breaker.state = false := by
  have begins := a.beginDown_drives e i w
  rw [Act.startDown_eq]
  split
  · rw [begins.vent.frame]
    exact dead
  · refine Act.openIsolator_staysDead e i _ ?_
    rw [(begins.updateSlot (i := i) (f := fun r => { r with lift := .lowering .awaitingIsolator })).frame]
    exact dead

theorem Act.lower_staysDead : BreakerState.isLive (a.lower e i w).breaker.state = false := by
  unfold Act.lower
  dsimp only
  split
  · rwa [Act.Settles.answerAll_breaker]
  · rwa [Act.Settles.answerAll_breaker]
  · exact dead
  · exact Act.startDown_staysDead e i w dead
  · exact Act.startDown_staysDead e i w dead

/-- R26: with the breaker open already, an open request concerns its isolator only. -/
theorem Act.openIsolator_other : (a.openIsolator e i w).isolators.get i.other = a.isolators.get i.other := by
  have other {x : Pair Isolator} {r : Isolator} : (x.set i r).get i.other = x.get i.other :=
    (Pair.get_set ..).trans (if_neg (Slot.other_ne i))
  cases k : (a.isolators.get i).state with
  | opened => rw [Act.openIsolator_opened e w k, Act.Settles.answerAll_isolators]
  | closing =>
    rw [Act.openIsolator_closing e w k, Act.driveOpen_isolators, other, Act.Settles.answerAll_isolators]
    exact other
  | closed =>
    rw [Act.openIsolator_closed e w k]
    dsimp only
    split
    · rw [Act.driveOpen_isolators, other]
      exact other
    · rw [Act.forceOpen_dead (a := a.setIsolator i _) dead]
      exact other
  | opening d =>
    rw [Act.openIsolator_opening e w k]
    exact other
  | fault =>
    rw [Act.openIsolator_fault e w k]
    split
    · rw [Act.Settles.answerAll_isolators]
    · exact other

end

/-- R43: a lower request writes what Lift Drive and Switchgear Interlock may write. -/
theorem Act.lower_lifts (a : Act) : Act.Lifts a (a.lower e i w) := by
  have answered (q : Request) (ans : Answer) : Act.Lifts a (a.answerAll w q ans) :=
    (Act.Lifts.refl a).drives ((Act.Drives.refl a).reports (Act.answerAll_reports ..))
  unfold Act.lower
  dsimp only
  split
  · exact answered ..
  · exact answered ..
  · exact (Act.Lifts.refl a).drives (Act.Drives.refl a).setSlot
  · exact Act.startDown_lifts e i w a
  · exact Act.startDown_lifts e i w a

end

section
variable {e : Env} {a : Act}

/-- R30: an open request to the breaker, as one of the operations that write devices. -/
theorem Act.Lifts.openBreaker {b : Act} {w : List Requester} (h : Act.Lifts a b) : Act.Lifts a (b.openBreaker e w) :=
  h.switches ((Act.Switches.refl b).opens (Act.Opens.refl b).openBreaker)

theorem Act.Lifts.openIsolator {b : Act} {i : Slot} {w : List Requester} (h : Act.Lifts a b) :
    Act.Lifts a (b.openIsolator e i w) := h.switches (Act.openIsolator_switches ..)

theorem Act.Lifts.lower {b : Act} {i : Slot} {w : List Requester} (h : Act.Lifts a b) : Act.Lifts a (b.lower e i w) :=
  h.trans (Act.lower_lifts ..)

/-! ### SEQ_STATE (R123) -/

/-- R123: entering a state leaves SEQ_STATE among the event's records. -/
theorem Act.enter_record (e : Env) (st : SeqState) (why : Nat) (f : Act → Act) (a : Act) :
    (a.enter e st why f).entry .seqState (f (a.arrive e st)).seq.copyId
      (n16 (bytes2 st.toCode.code a.seq.state.toCode.code))
      (n32 (bytes2 (optSupplyCode (f (a.arrive e st)).seq.target) why)) ∈ (a.enter e st why f).logs := by
  rw [Act.enter_eq]
  generalize f (a.arrive e st) = x
  have reported : Act.Spares (x.log .seqState x.seq.copyId (n16 (bytes2 st.toCode.code a.seq.state.toCode.code))
      (n32 (bytes2 (optSupplyCode x.seq.target) why))) _ := (Act.Spares.refl _).seqReported (e := e)
  obtain ⟨l, logs⟩ := reported.logs
  have record (k : EventCode) (n : Nat) (d : Half) (y : Word) : (Act.seqReported e (x.log .seqState x.seq.copyId
      (n16 (bytes2 st.toCode.code a.seq.state.toCode.code)) (n32 (bytes2 (optSupplyCode x.seq.target) why)))).entry k n d y =
        x.entry k n d y := by
    unfold Act.entry
    rw [Act.seqReported_seq, reported.startup]
    rfl
  rw [logs, Act.log_entry, record]
  exact List.mem_append_left _ (List.mem_append_right _ (List.mem_singleton.mpr rfl))

/-! ### DORMANT (R125) -/

/-- R125: what entry into DORMANT asks of the other blocks. -/
def Act.standDown (e : Env) (a : Act) : Act :=
  ((((((a.withdrawRequest e .collect).openBreaker e []).openIsolator e .zero []).openIsolator e .one []).lower e .zero
    []).lower e .one []).clearMark

/-- R125: the entry actions of DORMANT. -/
def Act.turnDormant (e : Env) (a : Act) : Act :=
  (a.standDown e).setSeq
    { (a.standDown e).seq.stopTimers with
      notice := none, powerless := false, committed := false, reselectUsed := false, tripMarker := false
      target := none, collector := none }

theorem Act.enterDormant_eq (e : Env) (cause : Nat) (a : Act) :
    a.enterDormant e cause = a.enter e .dormant cause (Act.turnDormant e) := rfl

@[simp] theorem Act.standDown_seq : (a.standDown e).seq = a.seq := by simp [Act.standDown]

/-- R125: no request, no mark, no live breaker, no raised slot. -/
structure Act.StoodDown (b : Act) : Prop where
  request : b.bids.collectRequest = none
  mark : b.notices.current = none
  breaker : BreakerState.isLive b.breaker.state = false
  slots : ∀ i, ¬ (b.slots.get i).Raised

theorem Act.standDown_stoodDown : (a.standDown e).StoodDown := by
  let withdrawn := a.withdrawRequest e .collect
  let opened := ((withdrawn.openBreaker e []).openIsolator e .zero []).openIsolator e .one []
  let lowered := (opened.lower e .zero []).lower e .one []
  have lifts : Act.Lifts withdrawn lowered := (Act.Lifts.refl _).openBreaker.openIsolator.openIsolator.lower.lower
  have shut : BreakerState.isLive opened.breaker.state = false :=
    Act.openIsolator_staysDead _ _ _ (Act.openIsolator_staysDead _ _ _ (Act.openBreaker_shuts e [] withdrawn))
  have frame : a.standDown e = { lowered with
      notices := { lowered.notices with current := none }, inbox := (a.standDown e).inbox } := Act.clearMark_frame lowered
  rw [frame]
  refine ⟨?_, rfl, Act.lower_staysDead _ _ _ (Act.lower_staysDead _ _ _ shut), fun i => ?_⟩
  · exact (congrArg BidUnit.collectRequest lifts.bids).trans (Act.withdrawRequest_collectRequest ..)
  · cases i with
    | zero =>
      exact (((Act.Settles.refl (e := e) (opened.lower e .zero [])).lower (i := .one) (w := [])).slots .zero).resting
        (Act.lower_rests e .zero [] opened)
    | one => exact Act.lower_rests e .one [] (opened.lower e .zero [])

/-- What R123 does after the entry actions brings none of this back. -/
theorem Act.StoodDown.entered {x b : Act} (h : x.StoodDown) (k : Act.Entered x b) : b.StoodDown where
  request := k.request.trans h.request
  mark := by rw [k.spares.notices, h.mark]
  breaker := by rw [k.spares.breaker, h.breaker]
  slots := fun i => mt (k.spares.raised i).mp (h.slots i)

theorem Act.enterDormant_seq (cause : Nat) : (a.enterDormant e cause).seq =
    { (a.arrive e .dormant).seq.stopTimers with
      notice := none, powerless := false, committed := false, reselectUsed := false, tripMarker := false
      target := none, collector := none } := by
  rw [Act.enterDormant_eq, (Act.enter_entered ..).seq]
  simp [Act.turnDormant]

theorem Act.enterDormant_stoodDown (cause : Nat) : (a.enterDormant e cause).StoodDown := by
  obtain ⟨request, mark, breaker, slots⟩ := (a.arrive e .dormant).standDown_stoodDown (e := e)
  exact Act.StoodDown.entered (x := (a.arrive e .dormant).turnDormant e) ⟨request, mark, breaker, slots⟩
    (Act.enter_entered ..)

theorem Act.enterDormant_record (cause : Nat) : (a.enterDormant e cause).entry .seqState 0
    (n16 (256 * a.seq.state.toCode.code)) (n32 (256 * cause)) ∈ (a.enterDormant e cause).logs := by
  have written := a.enter_record e .dormant cause (Act.turnDormant e)
  rw [← Act.enterDormant_eq] at written
  simpa [Act.turnDormant, Sequencer.copyId, optSupplyCode, bytes2, SeqState.toCode, SeqCode.code] using written

/-! ### HELD (R143) -/

/-- R143: the entry actions of HELD. -/
def Act.turnHeld (e : Env) (a : Act) : Act :=
  let b := ((a.withdrawRequest e .collect).openBreaker e []).clearMark
  (b.setSeq { b.seq.stopTimers with notice := none, powerless := false, tripMarker := false }).alert .held none

theorem Act.enterHeld_eq (e : Env) (r : HeldReason) (a : Act) :
    a.enterHeld e r = a.enter e (.held r) r.code (Act.turnHeld e) := rfl

/-- R143: the request is withdrawn, the breaker opened, the mark cleared. -/
theorem Act.turnHeld_leaves :
    let b := a.turnHeld e
    b.notices.current = none ∧ b.bids.collectRequest = none ∧ BreakerState.isLive b.breaker.state = false := by
  intro b
  let withdrawn := a.withdrawRequest e .collect
  let opened := withdrawn.openBreaker e []
  let shut := opened.clearMark
  let c := shut.setSeq { shut.seq.stopTimers with notice := none, powerless := false, tripMarker := false }
  have lifts : Act.Lifts withdrawn opened := (Act.Lifts.refl _).openBreaker
  have cleared : shut = { opened with notices := { opened.notices with current := none }, inbox := shut.inbox } :=
    Act.clearMark_frame opened
  have alerted : b = { c with link := b.link, logs := b.logs } := Act.alert_frame ..
  have request : shut.bids = withdrawn.bids := (congrArg Act.bids cleared).trans lifts.bids
  have breaker : shut.breaker = opened.breaker := (congrArg Act.breaker cleared :)
  have mark : shut.notices.current = none := (congrArg (·.notices.current) cleared :)
  rw [alerted]
  refine ⟨mark, (congrArg BidUnit.collectRequest request).trans (Act.withdrawRequest_collectRequest ..), ?_⟩
  exact breaker ▸ Act.openBreaker_shuts e [] withdrawn

theorem Act.enterHeld_leaves (r : HeldReason) :
    let b := a.enterHeld e r
    b.notices.current = none ∧ b.bids.collectRequest = none ∧ BreakerState.isLive b.breaker.state = false := by
  intro b
  have entered : Act.Entered ((a.arrive e (.held r)).turnHeld e) b := Act.enter_entered ..
  rw [entered.spares.notices, entered.request, entered.spares.breaker]
  exact Act.turnHeld_leaves

/-! ### PREPARE (R128) -/

/-- R128: the entry actions of PREPARE. -/
def Act.startClearing (e : Env) (a : Act) : Act :=
  (((a.setSeq { a.seq with testCount := 0 }).ask e .openBreaker).ask e (.openIsolator .zero)).ask e (.openIsolator .one)

/-- R128: in CLEARING breaker and isolators are opened. -/
theorem Act.startClearing_opens :
    let b := a.startClearing e
    BreakerState.isLive b.breaker.state = false ∧ ∀ i, IsolatorState.isLive (b.isolators.get i).state = false := by
  intro b
  let opened := (a.setSeq { a.seq with testCount := 0 }).ask e .openBreaker
  let first := opened.ask e (.openIsolator .zero)
  have shut : BreakerState.isLive opened.breaker.state = false := Act.openBreaker_shuts ..
  have stays : BreakerState.isLive first.breaker.state = false := Act.openIsolator_staysDead e .zero _ shut
  refine ⟨Act.openIsolator_staysDead e .one _ stays, fun i => ?_⟩
  cases i with
  | zero =>
    have same : b.isolators.get .zero = first.isolators.get .zero := Act.openIsolator_other e .one _ stays
    rw [same]
    exact Act.openIsolator_dead ..
  | one => exact Act.openIsolator_dead ..

theorem Act.enterPrepare_opens :
    let b := a.enterPrepare e
    BreakerState.isLive b.breaker.state = false ∧ ∀ i, IsolatorState.isLive (b.isolators.get i).state = false := by
  intro b
  have entered : Act.Entered ((a.arrive e (.prepare .clearing)).startClearing e) b := Act.enter_entered ..
  rw [entered.spares.breaker, entered.spares.isolators]
  exact Act.startClearing_opens

/-! ### Leaving DORMANT (R126) -/

/-- R126: the conditions of leaving DORMANT, for the active profile's system. -/
def Act.MayLeave (e : Env) (y : Supply) (a : Act) : Prop :=
  a.bids.profile = some y ∧ a.startup.mode = .ready ∧ e.pv.permit = true ∧ a.breaker.state ≠ .lockout
  ∧ ∃ i, a.eligible e (some y) i = true

theorem Act.leaveDormant_leaves {y : Supply} (dormant : a.seq.state = .dormant) (may : a.MayLeave e y) :
    a.leaveDormant e = (a.setSeq { a.seq with target := some y, reselectUsed := false }).enterPrepare e := by
  obtain ⟨profile, ready, permit, breaker, i, eligible⟩ := may
  unfold Act.leaveDormant
  rw [dormant, profile]
  refine if_pos ⟨ready, permit, breaker, ?_⟩
  cases i
  · exact .inl eligible
  · exact .inr eligible

theorem Act.leaveDormant_stays (may : ∀ y, ¬ a.MayLeave e y) : a.leaveDormant e = a := by
  unfold Act.leaveDormant
  split
  · rename_i y _ profile
    refine if_neg fun ⟨ready, permit, breaker, eligible⟩ => may y ⟨profile, ready, permit, breaker, ?_⟩
    exact eligible.elim (⟨.zero, ·⟩) (⟨.one, ·⟩)
  · rfl

theorem Act.leaveDormant_elsewhere (h : a.seq.state ≠ .dormant) : a.leaveDormant e = a := by
  unfold Act.leaveDormant
  split
  · exact absurd ‹_› h
  · rfl

/-! ### The reports that bring DORMANT (R125) -/

/-- R125: a report that brings DORMANT, with its cause. -/
def Act.Brings (e : Env) (a : Act) (x : Report) (cause : Nat) : Prop :=
  x = .permitChanged ∧ e.pv.permit = false ∧ cause = 1
  ∨ x = .holdLost ∧ cause = 2
  ∨ x = .modeChanged ∧ a.startup.mode ≠ .ready ∧ cause = 3
  ∨ x = .muteTaken ∧ cause = 4
  ∨ x = .lockAll ∧ cause = 5

theorem Act.brings_iff (x : Report) (n : Nat) : a.Brings e x n ↔ n ≠ 0 ∧ a.dormantCause e x = n := by
  unfold Act.Brings Act.dormantCause
  split
  · cases e.pv.permit <;> simp <;> omega
  · simp; omega
  · by_cases ready : a.startup.mode = .ready <;> simp [ready] <;> omega
  · simp; omega
  · simp; omega
  · simp_all; omega

/-- R125: the highest of the causes is no higher than a bound that all of them keep. -/
theorem foldl_max_le_iff {α : Type} (f : α → Nat) (l : List α) (m k : Nat) :
    l.foldl (fun n x => max n (f x)) m ≤ k ↔ m ≤ k ∧ ∀ x ∈ l, f x ≤ k := by
  induction l generalizing m with
  | nil => simp
  | cons x l ih => simp [ih, and_assoc]

/-- R125: the highest cause among the report that is handed on and those on their way. -/
def Act.highestCause (e : Env) (r : Report) (a : Act) : Nat :=
  a.inbox.reports.foldl (fun n x => max n (a.dormantCause e x)) (a.dormantCause e r)

theorem Act.highestCause_le_iff (r : Report) (n : Nat) :
    a.highestCause e r ≤ n ↔ ∀ x ∈ r :: a.inbox.reports, a.dormantCause e x ≤ n := by
  rw [Act.highestCause, foldl_max_le_iff, List.forall_mem_cons]

theorem Act.goDormant_eq (r : Report) : a.goDormant e r =
    if a.seq.state = .dormant ∨ a.highestCause e r = 0 then a else a.enterDormant e (a.highestCause e r) := rfl

theorem Act.goDormant_unbrought {r : Report} (h : ∀ x ∈ r :: a.inbox.reports, ∀ n, ¬ a.Brings e x n) :
    a.goDormant e r = a := by
  have none : a.highestCause e r ≤ 0 := (Act.highestCause_le_iff ..).mpr fun x m => by
    by_contra cause
    exact h x m _ ((Act.brings_iff ..).mpr ⟨by omega, rfl⟩)
  exact if_pos (.inr (Nat.le_zero.mp none))

theorem Act.goDormant_brought {r : Report} {n : Nat} (elsewhere : a.seq.state ≠ .dormant)
    (brought : ∃ x ∈ r :: a.inbox.reports, a.Brings e x n)
    (highest : ∀ x ∈ r :: a.inbox.reports, ∀ m, a.Brings e x m → m ≤ n) : a.goDormant e r = a.enterDormant e n := by
  obtain ⟨x, among, brings⟩ := brought
  obtain ⟨positive, cause⟩ := (Act.brings_iff ..).mp brings
  have most : a.highestCause e r = n := by
    refine Nat.le_antisymm ((Act.highestCause_le_iff ..).mpr fun z m => ?_) ?_
    · by_cases zero : a.dormantCause e z = 0
      · omega
      · exact highest z m _ ((Act.brings_iff ..).mpr ⟨zero, rfl⟩)
    · exact cause ▸ (Act.highestCause_le_iff ..).mp (Nat.le_refl _) x among
  rw [Act.goDormant_eq, most]
  exact if_neg fun k => k.elim elsewhere positive

/-- R125: after such a report the sequencer is in DORMANT. -/
theorem Act.goDormant_dormant {r : Report} {n : Nat} (h : a.Brings e r n) : (a.goDormant e r).seq.state = .dormant := by
  obtain ⟨positive, cause⟩ := (Act.brings_iff ..).mp h
  have most := (Act.highestCause_le_iff (e := e) (a := a) r _).mp (Nat.le_refl _) r List.mem_cons_self
  rw [Act.goDormant_eq]
  split
  · rename_i k
    exact k.resolve_right (by omega)
  · simp [Act.enterDormant_seq, Sequencer.stopTimers]

/-- R125, R126: and the report itself does not end it. -/
theorem Act.handle_brings {r : Report} {n : Nat} (h : a.Brings e r n) : (Act.handle e r a).seq.state = .dormant := by
  have dormant := Act.goDormant_dormant h
  have aside : Act.Aside False a (a.goDormant e r) := by
    rw [Act.goDormant_eq]
    split
    · exact .refl a
    · exact (Act.Aside.refl a).enterDormant
  rcases h with ⟨rfl, permit, -⟩ | ⟨rfl, -⟩ | ⟨rfl, mode, -⟩ | ⟨rfl, -⟩ | ⟨rfl, -⟩
  · show ((a.goDormant e .permitChanged).leaveDormant e).seq.state = _
    rwa [Act.leaveDormant_unfit (.inl permit)]
  · exact dormant
  · show ((a.goDormant e .modeChanged).leaveDormant e).seq.state = _
    rwa [Act.leaveDormant_unfit (.inr (aside.mode mode))]
  · exact (congrArg Sequencer.state ((Act.Aside.refl (keep := True) _).muteSlots.seq trivial)).trans dormant
  · exact dormant

end

end Sys2Proof.Machine

namespace Sys2Proof.Machine

/-! ## Roof Sequencer: reports, answers and the choice of the collector (R123, R124, R127) -/

section
variable {e : Env} {a : Act}

/-! ### What reaches the sequencer -/

/-- R165: a change of the station mode is reported, and recorded under the new mode. -/
theorem Act.setMode_reports (e : Env) (m : Mode) (a : Act) :
    (a.setMode e m).Tells .modeChanged ∧ (a.setMode e m).startup.mode = m
    ∧ ∃ l, (a.setMode e m).logs = a.logs ++
      { a.entry .mode 255 (n16 (bytes2 m.code a.startup.mode.code)) 0 with mode := n8 m.code } :: l := by
  let mode := (a.setStartup { a.startup with mode := m }).log .mode 255 (n16 (bytes2 m.code a.startup.mode.code)) 0
  let told := (mode.push .modeChanged).evalDue
  have queued : Act.Queues told (a.setMode e m) := by
    unfold Act.setMode
    dsimp only
    split
    · exact .refl _
    · exact (Act.Queues.refl _).bidsEnd
  have startup : told.startup = mode.startup := Act.push_startup ..
  have logs : told.logs = mode.logs := Act.push_logs ..
  obtain ⟨l, written⟩ := queued.logs
  refine ⟨queued.tells (mode.push_tells .modeChanged), ?_, l, ?_⟩
  · rw [queued.startup, startup]
    rfl
  · rw [written, logs]
    exact List.append_assoc ..

/-- Log 1: the oldest report is handed on first. -/
theorem Act.settle_reports {r : Report} {rest : List Report} (h : a.inbox.reports = r :: rest) (n : Nat) :
    a.settle e (n + 1) = (Act.handle e r { a with inbox := { a.inbox with reports := rest } }).settle e n := by
  have once : a.settleOnce e = some (Act.handle e r { a with inbox := { a.inbox with reports := rest } }) := by
    unfold Act.settleOnce
    rw [h]
  rw [Act.settle, once]

/-- R124: an answer that is heard awaits no longer. -/
def Act.heard (r : Request) (a : Act) : Act := a.setSeq { a.seq with awaiting := a.seq.awaiting.filter fun x => x ≠ r }

@[simp] theorem Act.heard_state (r : Request) : (a.heard r).seq.state = a.seq.state := rfl

theorem Act.handle_refused (r : Request) :
    Act.handle e (.answered (.sequencer a.seq.visit) r .refused) a = (a.heard r).seqRefused e r := if_pos rfl

theorem Act.handle_done (r : Request) :
    Act.handle e (.answered (.sequencer a.seq.visit) r .done) a = (a.heard r).seqDone e r .done := if_pos rfl

theorem Act.handle_failed (r : Request) :
    Act.handle e (.answered (.sequencer a.seq.visit) r .failed) a = (a.heard r).seqDone e r .failed := if_pos rfl

theorem Act.handle_tested (x : TestResult) :
    Act.handle e (.answered (.sequencer a.seq.visit) .roofTest (.tested x)) a =
      (a.heard .roofTest).seqDone e .roofTest (.tested x) := if_pos rfl

/-- R124: an answer to a request of an earlier stay. -/
theorem Act.handle_late {v : Nat} (h : v ≠ a.seq.visit) (r : Request) (ans : Answer) :
    Act.handle e (.answered (.sequencer v) r ans) a = a := if_neg h

/-! ### Refusals and faults (R124) -/

/-- The requests that may be refused. -/
def Request.refusable : Request → Prop
  | .moveSelector _ | .closeIsolator _ | .closeBreaker => True
  | .openIsolator _ | .openBreaker | .roofTest | .lower _ => False

theorem Act.seqRefused_holds {q : Request} {r : HeldReason} (k : q.refusable) (h : a.unableDevice q = some r) :
    a.seqRefused e q = a.enterHeld e r := by
  cases q with
  | moveSelector | closeIsolator | closeBreaker => simp only [Act.seqRefused, h]
  | openIsolator | openBreaker | roofTest | lower => exact k.elim

theorem Act.seqRefused_retries {q : Request} (k : q.refusable) (h : a.unableDevice q = none) :
    a.seqRefused e q = a.setSeq { a.seq with retryTimer := some 100, retry := some (q, a.seq.visit) } := by
  cases q with
  | moveSelector | closeIsolator | closeBreaker => simp only [Act.seqRefused, h]
  | openIsolator | openBreaker | roofTest | lower => exact k.elim

theorem Act.handle_refused_holds {q : Request} {r : HeldReason} (k : q.refusable)
    (h : (a.heard q).unableDevice q = some r) :
    Act.handle e (.answered (.sequencer a.seq.visit) q .refused) a = (a.heard q).enterHeld e r :=
  (Act.handle_refused q).trans (Act.seqRefused_holds k h)

theorem Act.handle_refused_retries {q : Request} (k : q.refusable) (h : (a.heard q).unableDevice q = none) :
    Act.handle e (.answered (.sequencer a.seq.visit) q .refused) a =
      (a.heard q).setSeq { (a.heard q).seq with retryTimer := some 100, retry := some (q, a.seq.visit) } :=
  (Act.handle_refused q).trans (Act.seqRefused_retries k h)

theorem Act.unableDevice_closeIsolator_own {i : Slot} (h : (a.isolators.get i).state = .fault) :
    a.unableDevice (.closeIsolator i) = some .isolatorFault := by
  simp [Act.unableDevice, Act.faultedIsolator, h]

theorem Act.unableDevice_closeIsolator_other {i : Slot} (h : (a.isolators.get i).state ≠ .fault) :
    a.unableDevice (.closeIsolator i) = a.faultedDevice := by
  simp [Act.unableDevice, Act.faultedIsolator, h]

theorem Act.unableDevice_closeBreaker_other (h : a.breaker.state ≠ .lockout) :
    a.unableDevice .closeBreaker = a.faultedDevice := if_neg h

theorem Act.seqFault_idle (h : a.seq.state = .dormant ∨ ∃ r, a.seq.state = .held r) (r : HeldReason) :
    a.seqFault e r = a := by
  unfold Act.seqFault
  rcases h with h | ⟨x, h⟩ <;> rw [h]

theorem Act.seqFault_holds (dormant : a.seq.state ≠ .dormant) (held : ∀ r, a.seq.state ≠ .held r) (r : HeldReason) :
    a.seqFault e r = a.enterHeld e r := by
  unfold Act.seqFault
  split
  · exact absurd ‹_› dormant
  · exact absurd ‹_› (held _)
  · rfl

theorem Act.handle_fault {x : Report} {r : HeldReason} (h : Act.handle e x a = a.seqFault e r) :
    ((a.seq.state = .dormant ∨ ∃ r, a.seq.state = .held r) → Act.handle e x a = a)
    ∧ (a.seq.state ≠ .dormant → (∀ r, a.seq.state ≠ .held r) → Act.handle e x a = a.enterHeld e r) :=
  ⟨fun idle => h.trans (Act.seqFault_idle idle r), fun dormant held => h.trans (Act.seqFault_holds dormant held r)⟩

/-! ### Eligible slots (R127) -/

theorem Act.eligible_iff {y : Option Supply} {p : Profile} (h : e.profile y = some p) (i : Slot) :
    a.eligible e y i = true ↔
      (a.slots.get i).locked = false ∧ (a.slots.get i).latch = false ∧ ((a.slots.get i).lift = .down ∨ a.Collects i)
      ∧ (a.seq.notice = none → p.heads.permits (a.slots.get i).head = true)
      ∧ ∀ c, a.seq.notice = some c → (c.notice.heads.getD p.heads).permits (a.slots.get i).head = true
          ∧ c.notice.stop.toNat + 50 < a.track e i := by
  unfold Act.eligible Act.headForTarget Act.beyond
  rw [h]
  cases a.seq.notice with
  | none => simp [profilePermits, Act.collects_iff, and_assoc]
  | some c => cases heads : c.notice.heads <;> simp [profilePermits, Act.collects_iff, heads, and_assoc]

/-- Eligibility depends on the notice copy and on what setpoints do not touch of a slot. -/
theorem Act.Spares.eligible {b : Act} (h : Act.Spares a b) (notice : b.seq.notice = a.seq.notice) (y : Option Supply)
    (i : Slot) : b.eligible e y i = a.eligible e y i := by
  have locked : (b.slots.get i).locked = (a.slots.get i).locked := (congrArg SlotRec.locked (h.bare i) :)
  have latch : (b.slots.get i).latch = (a.slots.get i).latch := (congrArg SlotRec.latch (h.bare i) :)
  unfold Act.eligible Act.headForTarget Act.beyond SlotRec.collecting
  dsimp only
  rw [notice, locked, latch, h.lift, h.duty, h.head, h.track]

/-! ### The three choices (R127) -/

/-- R127: the first choice is a slot that collects already. -/
theorem Act.chooseCollector_collecting {i : Slot} (collects : a.Collects i) (ok : a.eligible e a.seq.target i = true)
    (first : i = .one → ¬ (a.Collects .zero ∧ a.eligible e a.seq.target .zero = true)) :
    a.chooseCollector e = some i := by
  have found : ([Slot.zero, Slot.one].find? fun i => (a.slots.get i).collecting && a.eligible e a.seq.target i) = some i :=
    firstSlot_eq_some (by rw [(Act.collects_iff i).mpr collects, ok]; rfl) fun one both =>
      first one ((Bool.and_eq_true _ _ ▸ both : _ ∧ _).imp_left (Act.collects_iff _).mp)
  simp only [Act.chooseCollector, found]

/-- R127: the third choice, the rearmost slot that may be chosen. -/
def Act.rearmostEligible (e : Env) (a : Act) : Option Slot :=
  if a.eligible e a.seq.target .zero ∧ (!a.eligible e a.seq.target .one ∨ a.dfront e .one ≤ a.dfront e .zero) then
    some .zero
  else if a.eligible e a.seq.target .one then some .one
  else none

/-- R127: otherwise the preferred slot goes first, then the rearmost. -/
theorem Act.chooseCollector_resting (h : ∀ j, ¬ (a.Collects j ∧ a.eligible e a.seq.target j = true)) :
    a.chooseCollector e = (a.preferred.filter fun i => a.eligible e a.seq.target i).or (a.rearmostEligible e) := by
  have found : ([Slot.zero, Slot.one].find? fun i => (a.slots.get i).collecting && a.eligible e a.seq.target i) = none :=
    firstSlot_eq_none fun j both => h j ((Bool.and_eq_true _ _ ▸ both : _ ∧ _).imp_left (Act.collects_iff _).mp)
  simp only [Act.chooseCollector, found]
  cases a.preferred.filter fun i => a.eligible e a.seq.target i <;> rfl

theorem Act.chooseCollector_preferred {i : Slot} (h : ∀ j, ¬ (a.Collects j ∧ a.eligible e a.seq.target j = true))
    (preferred : a.preferred = some i) (ok : a.eligible e a.seq.target i = true) : a.chooseCollector e = some i := by
  rw [Act.chooseCollector_resting h, preferred, Option.filter_some, if_pos ok]
  rfl

theorem Act.chooseCollector_unpreferred (h : ∀ j, ¬ (a.Collects j ∧ a.eligible e a.seq.target j = true))
    (preferred : ∀ j, a.preferred = some j → ¬ a.eligible e a.seq.target j = true) :
    a.chooseCollector e = a.rearmostEligible e := by
  rw [Act.chooseCollector_resting h, Option.filter_eq_none_iff.mpr preferred, Option.none_or]

/-- R127: the rearmost is the one further from the front of the train, slot 0 where they are level. -/
theorem Act.chooseCollector_rearmost {i : Slot} (h : ∀ j, ¬ (a.Collects j ∧ a.eligible e a.seq.target j = true))
    (preferred : ∀ j, a.preferred = some j → ¬ a.eligible e a.seq.target j = true)
    (ok : a.eligible e a.seq.target i = true)
    (rearmost : a.eligible e a.seq.target i.other = true →
      a.dfront e i.other < a.dfront e i ∨ a.dfront e i.other = a.dfront e i ∧ i = .zero) :
    a.chooseCollector e = some i := by
  rw [Act.chooseCollector_unpreferred h preferred, Act.rearmostEligible]
  cases i with
  | zero =>
    refine if_pos ⟨ok, ?_⟩
    cases other : a.eligible e a.seq.target .one with
    | false => exact .inl rfl
    | true => exact .inr ((rearmost other).elim Nat.le_of_lt fun k => Nat.le_of_eq k.1)
  | one =>
    rw [if_neg, if_pos ok]
    rintro ⟨other, unfit | level⟩
    · simp [ok] at unfit
    · rcases rearmost other with further | ⟨-, none⟩
      · exact Nat.not_lt.mpr level further
      · cases none

theorem Act.chooseCollector_none (h : ∀ j, ¬ a.eligible e a.seq.target j = true) : a.chooseCollector e = none := by
  rw [Act.chooseCollector_unpreferred (fun j k => h j k.2) fun j _ => h j]
  simp [Act.rearmostEligible, h]

theorem Act.Spares.chooseCollector {b : Act} (h : Act.Spares a b) (notice : b.seq.notice = a.seq.notice)
    (target : b.seq.target = a.seq.target) : b.chooseCollector e = a.chooseCollector e := by
  unfold Act.chooseCollector SlotRec.collecting
  simp only [h.eligible notice, target, h.lift, h.duty, h.preferred, h.dfront]

end

end Sys2Proof.Machine

namespace Sys2Proof.Machine

/-! ## Roof Sequencer: from PREPARE to RUNNING (R128 to R130, R133) -/

section
variable {e : Env} {a : Act}

/-! ### What an answer brings, by the state it finds -/

theorem Act.handle_done_clearing (h : a.seq.state = .prepare .clearing) (r : Request) :
    Act.handle e (.answered (.sequencer a.seq.visit) r .done) a =
      if (a.heard r).seq.awaiting.isEmpty then ((a.heard r).goTo (.prepare .testing)).askTest e else a.heard r := by
  rw [Act.handle_done, Act.seqDone.eq_def, Act.heard_state, h]

/-- R128, R140: the two test phases, and the selecting phase that each leads to. -/
def SeqState.Tests (test select : SeqState) : Prop :=
  test = .prepare .testing ∧ select = .prepare .selecting ∨ test = .gap .testing ∧ select = .gap .selecting

theorem Act.handle_tested_testing {test select : SeqState} (tests : SeqState.Tests test select) (h : a.seq.state = test)
    (r : TestResult) : Act.handle e (.answered (.sequencer a.seq.visit) .roofTest (.tested r)) a =
      (a.heard .roofTest).testAnswered e r fun a => (a.goTo select).askMove e := by
  rcases tests with ⟨rfl, rfl⟩ | ⟨rfl, rfl⟩ <;> rw [Act.handle_tested, Act.seqDone.eq_def, Act.heard_state, h]

theorem Act.handle_done_selecting (h : a.seq.state = .prepare .selecting) (y : Supply) :
    Act.handle e (.answered (.sequencer a.seq.visit) (.moveSelector y) .done) a =
      (a.heard (.moveSelector y)).selected e := by
  rw [Act.handle_done, Act.seqDone.eq_def, Act.heard_state, h]

theorem Act.handle_done_connecting (h : a.seq.state = .connecting) (i : Slot) :
    Act.handle e (.answered (.sequencer a.seq.visit) (.closeIsolator i) .done) a =
      (a.heard (.closeIsolator i)).enterSensing e := by
  rw [Act.handle_done, Act.seqDone.eq_def, Act.heard_state, h]

theorem Act.handle_done_reselect (h : a.seq.state = .reselect) (i : Slot) :
    Act.handle e (.answered (.sequencer a.seq.visit) (.openIsolator i) .done) a =
      (a.heard (.openIsolator i)).enterPrepare e := by
  rw [Act.handle_done, Act.seqDone.eq_def, Act.heard_state, h]

theorem Act.handle_done_closing (h : a.seq.state = .closing) :
    Act.handle e (.answered (.sequencer a.seq.visit) .closeBreaker .done) a = (a.heard .closeBreaker).enterRunning e := by
  rw [Act.handle_done, Act.seqDone.eq_def, Act.heard_state, h]

/-! ### The phases of PREPARE and GAP (R128, R140) -/

theorem Act.goTo_stands (st : SeqState) : (a.goTo st).Stands st a.seq.collector [] := ⟨rfl, rfl, rfl⟩

theorem Act.askTest_stands (st : SeqState) :
    ((a.goTo st).askTest e).Stands st a.seq.collector [.roofTest]
    ∧ ((a.goTo st).askTest e).seq.testCount = a.seq.testCount + 1 := by
  have seq : ((a.goTo st).askTest e).seq = { a.seq with
      state := st, visit := a.seq.visit + 1, awaiting := [.roofTest], testCount := a.seq.testCount + 1 } :=
    (Act.ask_seq ..).trans rfl
  exact ⟨⟨by rw [seq], by rw [seq], by rw [seq]⟩, by rw [seq]⟩

theorem Act.askMove_stands {y : Supply} (h : a.seq.target = some y) (st : SeqState) :
    ((a.goTo st).askMove e).Stands st a.seq.collector [.moveSelector y] := by
  have asks : (a.goTo st).askMove e = (a.goTo st).ask e (.moveSelector y) := by
    unfold Act.askMove
    rw [show (a.goTo st).seq.target = some y from h]
  rw [asks]
  exact (Act.goTo_stands st).ask _

theorem Act.testAnswered_again {pass : Act → Act} (h : a.seq.testCount < 4) :
    a.testAnswered e .invalid pass = a.setSeq { a.seq with testRetryTimer := some 200 } := if_pos h

theorem Act.testAnswered_invalid {pass : Act → Act} (h : 4 ≤ a.seq.testCount) :
    a.testAnswered e .invalid pass = a.enterHeld e .roofTestInvalid := if_neg (Nat.not_lt.mpr h)

theorem Act.testAnswered_faulty {pass : Act → Act} {r : TestResult} (h : r = .broken ∨ r = .earth ∨ r = .noEcho) :
    a.testAnswered e r pass = (a.alert .roofFault none).enterHeld e .roofFault := by
  rcases h with rfl | rfl | rfl <;> rfl

/-! ### RAISING (R129) -/

theorem Act.collectingNow_iff (c : Option Slot) : a.collectingNow c = true ↔ ∃ i, c = some i ∧ a.Collects i := by
  cases c <;> simp [Act.collectingNow, Act.collects_iff]

theorem Act.collectingNow_not (c : Option Slot) : a.collectingNow c = false ↔ ∀ i, c = some i → ¬ a.Collects i := by
  rw [← Bool.not_eq_true, Act.collectingNow_iff]
  simp

/-- R129: the entry actions of RAISING. -/
def Act.raises (e : Env) (a : Act) : Act :=
  let b := a.setSeq { a.seq with collector := a.chooseCollector e, powerlessTimer := some 10000 }
  if b.collectingNow b.seq.collector then b else b.requestCollector e

theorem Act.enterRaising_eq (e : Env) (a : Act) : a.enterRaising e =
    let b := a.enter e .raising 0 (Act.raises e)
    if b.collectingNow b.seq.collector then b.enterConnecting e else b := rfl

theorem Act.raises_seq : (a.raises e).seq =
    { a.seq with collector := a.chooseCollector e, powerlessTimer := some 10000 } := by
  unfold Act.raises
  dsimp only
  split
  · rfl
  · rw [Act.requestCollector_seq]
    rfl

theorem Act.raises_spares : Act.Spares a (a.raises e) := by
  unfold Act.raises
  dsimp only
  split
  · exact (Act.Spares.refl a).seqTo
  · exact (Act.Spares.refl a).seqTo.requestCollector

/-- R129: a choice that does not collect yet is asked for. -/
theorem Act.raises_request (h : a.collectingNow (a.chooseCollector e) = false) :
    (a.raises e).bids.collectRequest = a.chooseCollector e := by
  have asks : a.raises e = Act.requestCollector e
      (a.setSeq { a.seq with collector := a.chooseCollector e, powerlessTimer := some 10000 }) :=
    if_neg (Bool.eq_false_iff.mp h)
  rw [asks, Act.requestCollector_collectRequest]
  rfl

/-- R129: the way through RAISING, by the choice of the collector in `a`. -/
def Act.Raises (e : Env) (a b : Act) : Prop :=
  (∀ i, a.chooseCollector e = some i → a.Collects i → b.Stands .connecting (a.chooseCollector e) [.closeIsolator i])
  ∧ ((∀ i, a.chooseCollector e = some i → ¬ a.Collects i) →
    b.Stands .raising (a.chooseCollector e) [] ∧ b.bids.collectRequest = a.chooseCollector e
    ∧ b.seq.powerlessTimer = some 10000)

theorem Act.enterRaising_raises : Act.Raises e a (a.enterRaising e) := by
  let b := a.enter e .raising 0 (Act.raises e)
  have entered : Act.Entered ((a.arrive e .raising).raises e) b := Act.enter_entered ..
  have spares : Act.Spares a b := Act.arrive_spares.trans (Act.raises_spares.trans entered.spares)
  have choice : (a.arrive e .raising).chooseCollector e = a.chooseCollector e :=
    Act.arrive_spares.chooseCollector Act.arrive_notice Act.arrive_target
  have seq : b.seq =
      { (a.arrive e .raising).seq with collector := a.chooseCollector e, powerlessTimer := some 10000 } := by
    rw [entered.seq, Act.raises_seq, choice]
  have collector : b.seq.collector = a.chooseCollector e := congrArg Sequencer.collector seq
  constructor
  · intro i chosen collects
    have now : b.collectingNow b.seq.collector = true :=
      (Act.collectingNow_iff _).mpr ⟨i, collector.trans chosen, (spares.collects i).mpr collects⟩
    rw [Act.enterRaising_eq, if_pos now, chosen]
    exact Act.enterConnecting_stands (collector.trans chosen)
  · intro idle
    have later : b.collectingNow b.seq.collector = false :=
      (Act.collectingNow_not _).mpr fun i same => mt (spares.collects i).mp (idle i (collector.symm.trans same))
    have request : ((a.arrive e .raising).raises e).bids.collectRequest = _ := Act.raises_request <|
      (Act.collectingNow_not _).mpr fun i same =>
        mt (Act.arrive_spares.collects i).mp (idle i (choice.symm.trans same))
    have stands : b.Stands .raising (a.chooseCollector e) [] := ⟨by simp [seq], collector, by simp [seq]⟩
    rw [Act.enterRaising_eq, if_neg (Bool.eq_false_iff.mp later)]
    exact ⟨stands, (entered.request.trans request).trans choice, congrArg Sequencer.powerlessTimer seq⟩

/-- R128: after SELECTING a choice that collects already connects. -/
theorem Act.selected_raises : Act.Raises e a (a.selected e) := by
  cases now : a.collectingNow (a.chooseCollector e) with
  | true =>
    obtain ⟨i, chosen, collects⟩ := (Act.collectingNow_iff _).mp now
    have connects : a.selected e = (a.setCollector (a.chooseCollector e)).enterConnecting e := if_pos now
    rw [connects]
    refine ⟨fun j same _ => ?_, fun idle => absurd collects (idle i chosen)⟩
    rw [same]
    exact Act.enterConnecting_stands rfl
  | false =>
    have raises : a.selected e = a.enterRaising e := if_neg (Bool.eq_false_iff.mp now)
    rw [raises]
    exact Act.enterRaising_raises

/-! ### RUNNING (R133, R145) -/

/-- R133: the entry actions of RUNNING. -/
def Act.runs (a : Act) : Act :=
  a.setSeq { a.seq with
    tripMarker := false, reselectUsed := false, notice := if a.notices.current.isNone then none else a.seq.notice }

theorem Act.enterRunning_runs :
    let b := a.enterRunning e
    b.Stands .running a.seq.collector [] ∧ b.seq.tripMarker = false ∧ b.seq.reselectUsed = false
    ∧ b.seq.notice = if a.notices.current = none then none else a.seq.notice := by
  intro b
  have entered : Act.Entered ((a.arrive e .running).runs) b := Act.enter_entered ..
  have seq : b.seq = { (a.arrive e .running).seq with
      tripMarker := false, reselectUsed := false
      notice := if a.notices.current = none then none else a.seq.notice } := by
    rw [entered.seq, Act.runs, Act.setSeq_seq, Act.arrive_notice, Act.arrive_spares.notices]
    simp
  exact ⟨⟨by simp [seq], by simp [seq], by simp [seq]⟩, by rw [seq], by rw [seq], by rw [seq]⟩

/-! ### A raise that ends, and another choice (R129) -/

/-- R29: a close request writes isolators and reports. -/
theorem Act.closeIsolator_opens (i : Slot) (w : List Requester) (a : Act) : Act.Opens a (a.closeIsolator i w) := by
  cases h : (a.isolators.get i).state with
  | opened =>
    rw [Act.closeIsolator_opened w h]
    split
    · exact (Act.Opens.refl a).setIsolator
    · exact (Act.Opens.refl a).answerAll
  | closing =>
    rw [Act.closeIsolator_closing w h]
    exact (Act.Opens.refl a).setIsolator
  | closed =>
    rw [Act.closeIsolator_closed w h]
    exact (Act.Opens.refl a).answerAll
  | opening d =>
    rw [Act.closeIsolator_refused w (.inr ⟨d, h⟩)]
    exact (Act.Opens.refl a).answerAll
  | fault =>
    rw [Act.closeIsolator_refused w (.inl h)]
    exact (Act.Opens.refl a).answerAll

/-- R129: a request that is left behind in RAISING is withdrawn. -/
theorem Act.leaveState_request (h : a.seq.state = .raising) : (a.leaveState e).bids.collectRequest = none := by
  rw [Act.leaveState_raising h, Act.withdrawRequest_collectRequest]

theorem Act.enterConnecting_request {i : Slot} (h : a.seq.state = .raising) (collector : a.seq.collector = some i) :
    (a.enterConnecting e).bids.collectRequest = none := by
  have entered : Act.Entered ((a.arrive e .connecting).ask e (.closeIsolator i)) (a.enterConnecting e) := by
    rw [Act.enterConnecting_eq collector]
    exact Act.enter_entered e .connecting 0 (fun b => b.ask e (.closeIsolator i)) a
  have asks : ((a.arrive e .connecting).ask e (.closeIsolator i)).bids = (a.leaveState e).bids := by
    unfold Act.ask
    dsimp only
    rw [(Act.closeIsolator_opens ..).frame]
    rfl
  rw [entered.request, asks, Act.leaveState_request h]

theorem Act.enterConnecting_committed (h : a.seq.committed = false) : (a.enterConnecting e).seq.committed = false := by
  have entered : (a.enterConnecting e).seq = _ := Act.enter_seq ..
  have arrived := Act.arrive_committed (e := e) (st := .connecting) h
  rw [entered]
  split
  · rw [Act.ask_seq]
    exact arrived
  · exact arrived

/-- R129: another choice, by the collector that is chosen in `a`. -/
def Act.Rechooses (e : Env) (a b : Act) : Prop :=
  (∀ i, a.chooseCollector e = some i → a.Collects i → b.Stands .connecting (a.chooseCollector e) [.closeIsolator i])
  ∧ ((∀ i, a.chooseCollector e = some i → ¬ a.Collects i) →
    b.Stands .raising (a.chooseCollector e) a.seq.awaiting ∧ b.bids.collectRequest = a.chooseCollector e
    ∧ b.seq.powerlessTimer = a.seq.powerlessTimer)

theorem Act.rechoose_connects {i : Slot} (always : Bool) (chosen : a.chooseCollector e = some i)
    (collects : a.Collects i) : a.rechoose e always = (a.setCollector (some i)).enterConnecting e := by
  rw [← chosen]
  exact if_pos ((Act.collectingNow_iff _).mpr ⟨i, chosen, collects⟩)

theorem Act.rechoose_same (idle : ∀ i, a.chooseCollector e = some i → ¬ a.Collects i)
    (same : a.chooseCollector e = a.seq.collector) : a.rechoose e false = a :=
  (if_neg (Bool.eq_false_iff.mp ((Act.collectingNow_not _).mpr idle))).trans (if_pos ⟨same, rfl⟩)

theorem Act.rechoose_asks {always : Bool} (idle : ∀ i, a.chooseCollector e = some i → ¬ a.Collects i)
    (other : a.chooseCollector e ≠ a.seq.collector ∨ always = true) :
    a.rechoose e always = (a.setCollector (a.chooseCollector e)).requestCollector e := by
  refine (if_neg (Bool.eq_false_iff.mp ((Act.collectingNow_not _).mpr idle))).trans (if_neg ?_)
  rintro ⟨same, kept⟩
  rcases other with other | rfl
  · exact other same
  · cases kept

theorem Act.rechoose_rechooses {always : Bool} (raising : a.seq.state = .raising)
    (other : a.chooseCollector e ≠ a.seq.collector ∨ always = true) : Act.Rechooses e a (a.rechoose e always) := by
  refine ⟨fun i chosen collects => ?_, fun idle => ?_⟩
  · rw [Act.rechoose_connects always chosen collects, chosen]
    exact Act.enterConnecting_stands rfl
  · have seq : ((a.setCollector (a.chooseCollector e)).requestCollector e).seq =
        { a.seq with collector := a.chooseCollector e } := Act.requestCollector_seq ..
    rw [Act.rechoose_asks idle other, Act.requestCollector_collectRequest]
    exact ⟨⟨by rw [seq, raising], by rw [seq], by rw [seq]⟩, rfl, by rw [seq]⟩

theorem Act.rechoose_committed {always : Bool} (h : a.seq.committed = false) :
    (a.rechoose e always).seq.committed = false := by
  unfold Act.rechoose
  dsimp only
  split
  · exact Act.enterConnecting_committed h
  · split
    · exact h
    · rw [Act.requestCollector_seq]
      exact h

/-! ### The outcomes of the COLLECT request (R129) -/

theorem Act.seqOutcome_opened (raising : a.seq.state = .raising) :
    a.seqOutcome e .opened = a.setSeq { a.seq with powerlessTimer := some 10000, powerless := false } := by
  unfold Act.seqOutcome
  rw [raising]

theorem Act.seqOutcome_won (raising : a.seq.state = .raising) :
    a.seqOutcome e .won = a.setSeq { a.seq with committed := true } := by
  unfold Act.seqOutcome
  rw [raising]

theorem Act.seqOutcome_other {o : Outcome} (h : o = .notOpened ∨ o = .dropped ∨ o = .ceded ∨ o = .lapsed) :
    a.seqOutcome e o = a := by
  unfold Act.seqOutcome
  rcases h with rfl | rfl | rfl | rfl
  all_goals
    split
    all_goals trivial

theorem Act.seqOutcome_raised (raising : a.seq.state = .raising) : a.seqOutcome e .raised =
    if a.seq.committed then (a.setSeq { a.seq with committed := false }).enterConnecting e else a := by
  unfold Act.seqOutcome
  rw [raising]

theorem Act.seqOutcome_failed (raising : a.seq.state = .raising) : a.seqOutcome e .failed =
    if a.seq.committed then (a.setSeq { a.seq with committed := false }).rechoose e true else a := by
  unfold Act.seqOutcome
  rw [raising]

theorem Act.seqRechoice_raising (raising : a.seq.state = .raising) :
    a.seqRechoice e = if a.seq.committed then a else a.rechoose e false := by
  unfold Act.seqRechoice
  rw [raising]

end

end Sys2Proof.Machine

namespace Sys2Proof.Machine

/-! ## Roof Sequencer: SENSING, and the open point (R131 to R136, R141, R143) -/

section
variable {e : Env} {a : Act}

/-! ### The table of SENSING, by the state that reads it (R131, R133, R135, R136) -/

/-- R132: RESELECT, or PREPARE without a collector. -/
theorem Act.enterReselect_state (y : Supply) :
    (a.enterReselect e y).seq.state = .reselect ∨ (a.enterReselect e y).seq.state = .prepare .clearing := by
  cases collector : a.seq.collector with
  | none =>
    obtain ⟨c, passes, -⟩ := Act.enterReselect_passes (e := e) (y := y) collector
    rw [passes]
    exact .inr Act.enterPrepare_stands.state
  | some i =>
    obtain ⟨-, -, keeps, lowers⟩ := Act.enterReselect_opens (e := e) (y := y) collector
    cases fits : profilePermits (e.profile (some y)) (a.slots.get i).head with
    | true => exact .inl (keeps fits).state
    | false => exact .inl (lowers fits).1.state

/-- R131: where the table leaves SENSING as the state, it does nothing. -/
theorem Act.sense_stays (h : (a.sense e).seq.state = .sensing) : a.sense e = a := by
  cases confirmed : e.cls.confirmed with
  | noSystem => exact Act.sense_idle confirmed
  | indeterminate =>
    rw [Act.sense_indeterminate confirmed, Act.enterHeld_state] at h
    cases h
  | system y =>
    by_cases there : a.selector.state = .rest (.system y)
    · rw [Act.sense_matches confirmed there] at h ⊢
      split at h
      · exact if_pos ‹_›
      · obtain ⟨x, rfl, state, -⟩ := a.closeFor_seq e y
        cases state.symm.trans h
    · rw [Act.sense_differs confirmed there] at h
      split at h
      · rw [Act.enterHeld_state] at h
        cases h
      · rcases Act.enterReselect_state (e := e) (a := a) y with state | state <;> cases state.symm.trans h

theorem Act.enterSensing_stays (h : (a.enterSensing e).seq.state = .sensing) :
    (a.enterSensing e).seq = ((a.arrive e .sensing).noSupplyTimed e).seq := by
  have entered := a.enter_entered e .sensing 0 fun b => b.noSupplyTimed e
  exact (congrArg Act.seq (Act.sense_stays h)).trans entered.seq

theorem Act.seqConfirmed_sensing (h : a.seq.state = .sensing) : a.seqConfirmed e = (a.noSupplyTimed e).sense e := by
  unfold Act.seqConfirmed
  rw [h]

theorem Act.seqConfirmed_running (h : a.seq.state = .running) :
    a.seqConfirmed e = (a.setSeq { a.seq with reselectUsed := false }).enterSensing e := by
  unfold Act.seqConfirmed
  rw [h]

theorem Act.seqConfirmed_closing (h : a.seq.state = .closing) : a.seqConfirmed e = a.enterSensing e := by
  unfold Act.seqConfirmed
  rw [h]

theorem Act.seqConfirmed_elsewhere (sensing : a.seq.state ≠ .sensing) (running : a.seq.state ≠ .running)
    (closing : a.seq.state ≠ .closing) : a.seqConfirmed e = a := by
  unfold Act.seqConfirmed
  split
  · exact absurd ‹_› running
  · exact absurd ‹_› closing
  · exact absurd ‹_› sensing
  · rfl

theorem Act.seqConfirmed_reads (h : a.seq.state = .sensing) : Act.Reads e a (a.seqConfirmed e) := by
  rw [Act.seqConfirmed_sensing h]
  exact .of_same (b := a.noSupplyTimed e) rfl rfl rfl rfl (fun _ => rfl) (Act.sense_reads h)

theorem Act.seqConfirmed_reads_running (h : a.seq.state = .running) :
    Act.Reads e (a.setSeq { a.seq with reselectUsed := false }) (a.seqConfirmed e) := by
  rw [Act.seqConfirmed_running h]
  exact Act.enterSensing_reads

theorem Act.seqConfirmed_reads_closing (h : a.seq.state = .closing) : Act.Reads e a (a.seqConfirmed e) := by
  rw [Act.seqConfirmed_closing h]
  exact Act.enterSensing_reads

theorem Act.seqConfirmed_waits (h : a.seq.state = .sensing) (none : e.cls.confirmed = .noSystem) :
    a.seqConfirmed e = a.setSeq { a.seq with noSupplyTimer := some 10000 } := by
  rw [Act.seqConfirmed_sensing h, Act.sense_idle none, Act.noSupplyTimed, if_pos none]

theorem Act.seqConfirmed_stays (h : a.seq.state = .sensing) (stays : (a.seqConfirmed e).seq.state = .sensing)
    (found : e.cls.confirmed ≠ .noSystem) : (a.seqConfirmed e).seq.noSupplyTimer = none := by
  rw [Act.seqConfirmed_sensing h] at stays ⊢
  rw [Act.sense_stays stays, Act.noSupplyTimed, if_neg found]
  rfl

/-- R136: the record of a trip. -/
def Act.tripped (a : Act) : Act :=
  a.setSeq { a.seq with tripMarker := true, recloseHold := some 1000, reselectUsed := false }

theorem Act.seqTrip_running (h : a.seq.state = .running) : a.seqTrip e = a.tripped.enterSensing e := by
  unfold Act.seqTrip
  rw [h]
  rfl

theorem Act.seqTrip_reads (h : a.seq.state = .running) :
    Act.Reads e (a.setSeq { a.seq with reselectUsed := false, recloseHold := some 1000 }) (a.seqTrip e) := by
  rw [Act.seqTrip_running h]
  exact Act.Reads.of_same (b := a.tripped) rfl rfl rfl rfl (fun _ => rfl) Act.enterSensing_reads

theorem Act.seqTrip_elsewhere (h : a.seq.state ≠ .running) : a.seqTrip e = a := by
  unfold Act.seqTrip
  split
  · exact absurd ‹_› h
  · rfl

theorem Act.seqTrip_stays (h : a.seq.state = .running) (stays : (a.seqTrip e).seq.state = .sensing) :
    (a.seqTrip e).seq.tripMarker = true ∧ (a.seqTrip e).seq.recloseHold = some 1000 := by
  rw [Act.seqTrip_running h] at stays ⊢
  rw [Act.enterSensing_stays stays]
  exact ⟨Act.arrive_tripMarker (a := a.tripped) (st := .sensing), Act.arrive_recloseHold (a := a.tripped) (st := .sensing)⟩

/-! ### The open point (R134) -/

/-- R134: RISING, UP or LOWERING. -/
def SlotRec.offDown (r : SlotRec) : Bool :=
  match r.lift with
  | .rising | .up | .lowering _ => true
  | .down | .dropped => false

theorem SlotRec.offDown_iff (r : SlotRec) : r.offDown = true ↔ r.Raised ∨ ∃ p, r.lift = .lowering p := by
  unfold SlotRec.offDown SlotRec.Raised
  cases r.lift <;> simp

theorem Act.frontRaised_eq : a.frontRaised e =
    match (a.slots.get .zero).offDown, (a.slots.get .one).offDown with
    | true, false => a.track e .zero
    | false, true => a.track e .one
    | _, _ => max (a.track e .zero) (a.track e .one) := rfl

theorem Act.frontRaised_single {i : Slot} (h : (a.slots.get i).offDown = true)
    (other : ¬ (a.slots.get i.other).offDown = true) : a.frontRaised e = a.track e i := by
  rw [Bool.not_eq_true] at other
  rw [Act.frontRaised_eq]
  cases i with
  | zero => rw [h, show (a.slots.get .one).offDown = false from other]
  | one => rw [h, show (a.slots.get .zero).offDown = false from other]

theorem Act.frontRaised_level (h : (a.slots.get .zero).offDown = true ↔ (a.slots.get .one).offDown = true) :
    a.frontRaised e = max (a.track e .zero) (a.track e .one) := by
  rw [Act.frontRaised_eq, Bool.eq_iff_iff.mpr h]
  cases (a.slots.get .one).offDown <;> rfl

theorem Act.openPointReached_iff (h : HeldNotice) : a.openPointReached e h = true ↔
    h.late = true ∨ h.notice.start.toNat - e.lead ≤ a.frontRaised e
    ∨ e.pv.geometry.odoStale = true ∧ h.notice.start.toNat - 2 * e.lead ≤ a.frontRaised e := by
  simp [Act.openPointReached, Env.pointReached]

/-! ### The test, by the state it finds (R134, R135, R141, R143) -/

/-- R134: the states in which the open point brings OPENING. -/
def SeqState.Busy (st : SeqState) : Prop :=
  st = .running ∨ st = .raising ∨ st = .connecting ∨ st = .sensing ∨ st = .closing

section
variable {h : HeldNotice}

theorem Act.testOpenPoint_none (next : a.notices.next = none) : a.testOpenPoint e = a := by
  unfold Act.testOpenPoint
  rw [next]

theorem Act.testOpenPoint_short (next : a.notices.next = some h) (short : a.openPointReached e h = false) :
    a.testOpenPoint e = a := by
  unfold Act.testOpenPoint
  rw [next]
  exact if_neg (Bool.eq_false_iff.mp short)

theorem Act.testOpenPoint_reached (next : a.notices.next = some h) (reached : a.openPointReached e h = true) :
    a.testOpenPoint e = match a.seq.state with
      | .running | .raising | .connecting | .sensing | .closing => a.enterOpening e h.notice.id
      | .held _ => (a.mustLower e h.notice).foldl (fun a i => a.lower e i []) a
      | .dormant | .prepare _ | .reselect | .opening | .coasting | .isolating | .lowering | .gap _ => a := by
  unfold Act.testOpenPoint
  rw [next]
  exact if_pos reached

theorem Act.testOpenPoint_busy (next : a.notices.next = some h) (reached : a.openPointReached e h = true)
    (busy : a.seq.state.Busy) : a.testOpenPoint e = a.enterOpening e h.notice.id := by
  rw [Act.testOpenPoint_reached next reached]
  rcases busy with st | st | st | st | st <;> rw [st]

theorem Act.testOpenPoint_held (next : a.notices.next = some h) (reached : a.openPointReached e h = true)
    (held : ∃ r, a.seq.state = .held r) :
    a.testOpenPoint e = (a.mustLower e h.notice).foldl (fun a i => a.lower e i []) a := by
  obtain ⟨r, held⟩ := held
  rw [Act.testOpenPoint_reached next reached, held]

theorem Act.testOpenPoint_elsewhere (next : a.notices.next = some h) (reached : a.openPointReached e h = true)
    (busy : ¬ a.seq.state.Busy) (held : ∀ r, a.seq.state ≠ .held r) : a.testOpenPoint e = a := by
  rw [Act.testOpenPoint_reached next reached]
  unfold SeqState.Busy at busy
  split
  case h_6 r st => exact absurd st (held r)
  all_goals simp_all

end

/-! ### OPENING (R137) -/

/-- R137: the entry actions of OPENING. -/
def Act.opensFor (e : Env) (id : Byte) (a : Act) : Act :=
  let marked := (a.setSeq { a.seq with reselectUsed := false }).markNotice id
  let b := match marked.1 with
    | some c => marked.2.setSeq { marked.2.seq with notice := some c }
    | none => marked.2
  b.ask e .openBreaker

theorem Act.markNotice_current {id : Byte} {c : HeldNotice} (held : a.notices.find id = some c) :
    (a.markNotice id).2.notices.current = some id := by
  rw [Act.markNotice_held held]
  dsimp only
  split
  · assumption
  · rw [Act.push_notices]
    rfl

theorem Act.enterOpening_marked {id : Byte} {c : HeldNotice} (held : a.notices.find id = some c) :
    a.enterOpening e id = a.enter e .opening 0 (Act.opensFor e id) :=
  if_pos (by rw [Act.markNotice_held held]; rfl)

/-- R137: the notice is marked, and its copy taken. -/
def Act.takesCopy (id : Byte) (c : HeldNotice) (a : Act) : Act :=
  let marked := ((a.setSeq { a.seq with reselectUsed := false }).markNotice id).2
  marked.setSeq { marked.seq with notice := some c }

theorem Act.opensFor_held {id : Byte} {c : HeldNotice} (held : a.notices.find id = some c) :
    a.opensFor e id = (a.takesCopy id c).ask e .openBreaker := by
  have found : ((a.setSeq { a.seq with reselectUsed := false }).markNotice id).1 = some c :=
    congrArg Prod.fst (Act.markNotice_held (a := a.setSeq { a.seq with reselectUsed := false }) held)
  simp only [Act.opensFor, found]
  rfl

theorem Act.takesCopy_seq (id : Byte) (c : HeldNotice) :
    (a.takesCopy id c).seq = { a.seq with reselectUsed := false, notice := some c } := by simp [Act.takesCopy]

theorem Act.ask_openBreaker_notices : (a.ask e .openBreaker).notices = a.notices :=
  (congrArg Act.notices ((Act.Opens.refl _).openBreaker).frame :)

/-- R137: OPENING takes the copy of the notice, marks it, and opens the breaker. -/
theorem Act.enterOpening_opens {id : Byte} {c : HeldNotice} (held : a.notices.find id = some c) :
    let b := a.enterOpening e id
    b.Stands .opening a.seq.collector [.openBreaker] ∧ b.seq.notice = some c ∧ b.notices.current = some id
    ∧ b.seq.reselectUsed = false ∧ BreakerState.isLive b.breaker.state = false := by
  intro b
  let arrived := a.arrive e .opening
  have found : arrived.notices.find id = some c := (congrArg (·.find id) Act.arrive_spares.notices).trans held
  have entered : Act.Entered ((arrived.takesCopy id c).ask e .openBreaker) b := by
    rw [← Act.opensFor_held found, show b = _ from Act.enterOpening_marked held]
    exact Act.enter_entered ..
  have seq : b.seq = { arrived.seq with reselectUsed := false, notice := some c, awaiting := [.openBreaker] } := by
    rw [entered.seq, Act.ask_seq, Act.takesCopy_seq]
    simp [arrived]
  refine ⟨⟨by simp [seq, arrived], by simp [seq, arrived], by rw [seq]⟩, by rw [seq], ?_, by rw [seq], ?_⟩
  · rw [entered.spares.notices, Act.ask_openBreaker_notices]
    exact Act.markNotice_current (a := arrived.setSeq { arrived.seq with reselectUsed := false }) found
  · rw [entered.spares.breaker]
    exact Act.openBreaker_shuts ..

/-! ### HELD lowers what the notice takes down (R143) -/

/-- R43: what brings each of the slots down or on its way, one after the other, leaves none of them raised. -/
theorem Act.foldl_rests {step : Act → Slot → Act} (settles : ∀ b i, Act.Settles e b (step b i))
    (rests : ∀ b i, ¬ ((step b i).slots.get i).Raised) (l : List Slot) (a : Act) :
    ∀ i ∈ l, ¬ ((l.foldl step a).slots.get i).Raised := by
  induction l generalizing a with
  | nil => nofun
  | cons j l ih =>
    intro i among
    rcases List.mem_cons.mp among with rfl | among
    · have later := (Act.Settles.refl (step a i)).foldl (fun b k kept => kept.trans (settles b k)) l
      exact (later.slots i).resting (rests a i)
    · exact ih _ i among

theorem Act.foldl_lower_rests (l : List Slot) (a : Act) :
    ∀ i ∈ l, ¬ ((l.foldl (fun a i => a.lower e i []) a).slots.get i).Raised :=
  Act.foldl_rests (fun b _ => (Act.Settles.refl b).lower) (fun b i => Act.lower_rests e i [] b) l a

theorem Act.foldl_lower_seq (l : List Slot) (a : Act) : (l.foldl (fun a i => a.lower e i []) a).seq = a.seq := by
  induction l generalizing a with
  | nil => rfl
  | cons i l ih => rw [List.foldl_cons, ih, Act.lower_seq]

end

end Sys2Proof.Machine

namespace Sys2Proof.Machine

/-! ## Roof Sequencer: passing a notice (R137 to R140, R142, R145) -/

section
variable {e : Env} {a : Act} {c : HeldNotice} {i : Slot}

/-! ### What an answer brings in a passage -/

theorem Act.handle_done_opening (h : a.seq.state = .opening) :
    Act.handle e (.answered (.sequencer a.seq.visit) .openBreaker .done) a = (a.heard .openBreaker).opened e := by
  rw [Act.handle_done, Act.seqDone.eq_def, Act.heard_state, h]

theorem Act.handle_done_isolating (h : a.seq.state = .isolating) (i : Slot) :
    Act.handle e (.answered (.sequencer a.seq.visit) (.openIsolator i) .done) a =
      (a.heard (.openIsolator i)).isolated e := by
  rw [Act.handle_done, Act.seqDone.eq_def, Act.heard_state, h]

theorem Act.handle_lowered_lowering (h : a.seq.state = .lowering) (i : Slot) {ans : Answer}
    (ends : ans = .done ∨ ans = .failed) : Act.handle e (.answered (.sequencer a.seq.visit) (.lower i) ans) a =
      let b := a.heard (.lower i)
      if b.seq.awaiting.isEmpty then b.enterGap e else b := by
  rcases ends with rfl | rfl
  · rw [Act.handle_done, Act.seqDone.eq_def, Act.heard_state, h]
  · rw [Act.handle_failed, Act.seqDone.eq_def, Act.heard_state, h]

theorem Act.handle_done_gapSelecting (h : a.seq.state = .gap .selecting) (y : Supply) :
    Act.handle e (.answered (.sequencer a.seq.visit) (.moveSelector y) .done) a =
      ((a.heard (.moveSelector y)).goTo (.gap .waiting)).gapWait e := by
  rw [Act.handle_done, Act.seqDone.eq_def, Act.heard_state, h]

/-! ### Positions (R134, R138, R140) -/

theorem Act.positionsMoved_coasting (h : a.seq.state = .coasting) : a.positionsMoved e = a.coastWait e := by
  unfold Act.positionsMoved
  rw [h]

theorem Act.positionsMoved_gap (h : a.seq.state = .gap .waiting) : a.positionsMoved e = a.gapWait e := by
  unfold Act.positionsMoved
  rw [h]

theorem Act.positionsMoved_elsewhere (coasting : a.seq.state ≠ .coasting) (gap : a.seq.state ≠ .gap .waiting) :
    a.positionsMoved e = a.testOpenPoint e := by
  unfold Act.positionsMoved
  split
  · exact absurd ‹_› coasting
  · exact absurd ‹_› gap
  · rfl

/-! ### COASTING and ISOLATING (R137, R138, R139) -/

theorem Act.headForTarget_copy {y : Option Supply} {p : Profile} (notice : a.seq.notice = some c)
    (profile : e.profile y = some p) (x : HeadType) : a.headForTarget e y x = (c.notice.heads.getD p.heads).permits x := by
  unfold Act.headForTarget
  rw [notice, profile]
  dsimp only
  cases c.notice.heads <;> rfl

theorem Act.coastWait_eq (notice : a.seq.notice = some c) (collector : a.seq.collector = some i) :
    a.coastWait e =
      if a.beyond e c.notice i then
        (if (a.isolators.get i).state = .closed then a.enterSensing e else a.enterConnecting e)
      else a := by
  unfold Act.coastWait
  rw [notice, collector]

/-- R138: the collector's slot has not passed the notice's end. -/
theorem Act.coastWait_waits (notice : a.seq.notice = some c) (collector : a.seq.collector = some i)
    (short : ¬ c.notice.stop.toNat + 50 < a.track e i) : a.coastWait e = a := by
  rw [Act.coastWait_eq notice collector]
  exact if_neg (mt of_decide_eq_true short)

theorem Act.coastWait_passes (notice : a.seq.notice = some c) (collector : a.seq.collector = some i)
    (passed : c.notice.stop.toNat + 50 < a.track e i) :
    a.coastWait e = if (a.isolators.get i).state = .closed then a.enterSensing e else a.enterConnecting e := by
  rw [Act.coastWait_eq notice collector]
  exact if_pos (decide_eq_true passed)

theorem Act.enterCoasting_stands (notice : a.seq.notice = some c) (collector : a.seq.collector = some i)
    (short : ¬ c.notice.stop.toNat + 50 < a.track e i) : (a.enterCoasting e).Stands .coasting (some i) [] := by
  have entered := a.enter_entered e .coasting 0 id
  have spares := Act.arrive_spares.trans entered.spares
  have waits : a.enterCoasting e = a.enter e .coasting 0 id := Act.coastWait_waits
    (by rw [entered.seq]; exact Act.arrive_notice.trans notice)
    (by rw [entered.seq]; exact Act.arrive_collector.trans collector) (by rwa [spares.track])
  rw [waits, ← collector]
  exact Act.enter_idle_stands

theorem Act.enterIsolating_asks (h : a.seq.collector = some i) :
    a.enterIsolating e = a.enter e .isolating 0 fun b => b.ask e (.openIsolator i) := by
  have entered : a.enterIsolating e =
      let b := a.enter e .isolating 0 fun b => b.ask e (.openIsolator i)
      if b.seq.awaiting.isEmpty then b.isolated e else b := by
    unfold Act.enterIsolating
    rw [Act.enter_congr (g := fun b => b.ask e (.openIsolator i)) (by rw [Act.arrive_collector, h])]
  rw [entered]
  exact if_neg (by rw [(Act.enter_ask_stands _).asked]; nofun)

theorem Act.enterIsolating_passes (h : a.seq.collector = none) :
    a.enterIsolating e = (a.enter e .isolating 0 id).isolated e := by
  have entered : a.enterIsolating e =
      let b := a.enter e .isolating 0 id
      if b.seq.awaiting.isEmpty then b.isolated e else b := by
    unfold Act.enterIsolating
    rw [Act.enter_congr (g := id) (by rw [Act.arrive_collector, h]; rfl)]
  rw [entered]
  exact if_pos (by rw [Act.enter_idle_stands.asked]; rfl)

/-- R137: the conditions of COASTING. -/
def Act.Coasts (p : Profile) (c : HeldNotice) (i : Slot) (a : Act) : Prop :=
  c.notice.kind = .phaseGap ∧ a.Collects i ∧ (c.notice.heads.getD p.heads).permits (a.slots.get i).head = true

section
variable {p : Profile} (notice : a.seq.notice = some c) (collector : a.seq.collector = some i)
  (profile : e.profile a.seq.target = some p)
include notice collector profile

theorem Act.opened_coasts (h : a.Coasts p c i) : a.opened e = a.enterCoasting e := by
  obtain ⟨kind, collects, fits⟩ := h
  unfold Act.opened
  rw [notice, collector]
  exact if_pos ⟨kind, (Act.collects_iff i).mpr collects, (Act.headForTarget_copy notice profile _).trans fits⟩

theorem Act.opened_isolates (h : ¬ a.Coasts p c i) : a.opened e = a.enterIsolating e := by
  unfold Act.opened
  rw [notice, collector]
  refine if_neg fun ⟨kind, collects, fits⟩ => h ⟨kind, (Act.collects_iff i).mp collects, ?_⟩
  exact (Act.headForTarget_copy notice profile _).symm.trans fits

end

/-! ### The slots that a notice takes down (R139, R160) -/

theorem SlotRec.raised_iff (r : SlotRec) : r.raised = true ↔ r.Raised := by simp [SlotRec.raised, SlotRec.Raised]

theorem SlotRec.iceLowers_iff (r : SlotRec) :
    r.iceLowers = true ↔ (∃ p, r.lift = .lowering p) ∧ Requester.iceUnit ∈ r.lowerWaiters := by
  unfold SlotRec.iceLowers
  cases r.lift <;> simp

theorem Act.requiresLowered_iff (n : Notice) (x : HeadType) :
    a.requiresLowered e n x = true ↔ n.kind = .lowerZone ∨ a.headBeyond e n x = false := by
  simp [Act.requiresLowered]

theorem slot_mem_filter (p : Slot → Bool) : i ∈ [Slot.zero, Slot.one].filter p ↔ p i = true := by
  cases i <;> simp

theorem Act.mem_mustLower (n : Notice) : i ∈ a.mustLower e n ↔
    (a.slots.get i).Raised ∧ (n.kind = .lowerZone ∨ a.headBeyond e n (a.slots.get i).head = false) := by
  rw [Act.mustLower, slot_mem_filter, Bool.and_eq_true, SlotRec.raised_iff, Act.requiresLowered_iff]

theorem Act.mem_lowerRequests (n : Notice) : i ∈ a.lowerRequests e n ↔
    i ∈ a.mustLower e n ∨ (∃ p, (a.slots.get i).lift = .lowering p) ∧ Requester.iceUnit ∈ (a.slots.get i).lowerWaiters
      ∧ (n.kind = .lowerZone ∨ a.headBeyond e n (a.slots.get i).head = false) := by
  rw [Act.mem_mustLower, Act.lowerRequests, slot_mem_filter, Bool.and_eq_true, Bool.or_eq_true, SlotRec.raised_iff,
    SlotRec.iceLowers_iff, Act.requiresLowered_iff, or_and_right, and_assoc (c := _ ∨ _)]

theorem Act.headBeyond_named {n : Notice} {s : HeadSet} (h : n.heads = some s) (x : HeadType) :
    a.headBeyond e n x = s.permits x := by
  unfold Act.headBeyond
  rw [h]

theorem Act.headBeyond_system {n : Notice} {y : Supply} {p : Profile} (h : n.heads = none) (kind : n.kind = .systemGap)
    (beyond : n.beyond = some y) (profile : e.profile (some y) = some p) (x : HeadType) :
    a.headBeyond e n x = p.heads.permits x := by
  unfold Act.headBeyond
  rw [h, kind, beyond]
  dsimp only
  rw [profile]
  rfl

theorem Act.headBeyond_active {n : Notice} {p : Profile} (h : n.heads = none)
    (other : n.kind ≠ .systemGap ∨ n.beyond = none) (active : a.active e = some p) (x : HeadType) :
    a.headBeyond e n x = p.heads.permits x := by
  unfold Act.headBeyond
  rw [h]
  split
  · cases ‹none = some _›
  · rename_i kind beyond
    exact other.elim (absurd kind) fun k => nomatch k.symm.trans beyond
  · rw [active]
    rfl

/-! ### Lower requests one after the other (R43, R139) -/

/-- R139: the lower requests of LOWERING. -/
def Act.asksLower (e : Env) (l : List Slot) (a : Act) : Act := l.foldl (fun a i => a.ask e (.lower i)) a

theorem Act.asksLower_seq (l : List Slot) (a : Act) :
    (a.asksLower e l).seq = { a.seq with awaiting := a.seq.awaiting ++ l.map Request.lower } := by
  induction l generalizing a with
  | nil => simp [Act.asksLower]
  | cons i l ih => exact (ih (a.ask e (.lower i))).trans (by simp)

theorem Act.asksLower_rests (l : List Slot) (a : Act) : ∀ i ∈ l, ¬ ((a.asksLower e l).slots.get i).Raised :=
  Act.foldl_rests (step := fun a i => a.ask e (.lower i)) (fun b _ => (Act.Settles.refl b).ask)
    (fun _ i => Act.lower_rests e i _ _) l a

theorem Act.lower_moves (e : Env) (i : Slot) (w : List Requester) (a : Act) : ∃ x, Act.Moves i x a (a.lower e i w) := by
  have met (k : (a.slots.get i).lift = .down ∨ (a.slots.get i).lift = .dropped) :
      ∃ x, Act.Moves i x a (a.lower e i w) :=
    ⟨_, (Act.Moves.refl i a).same (by rw [Act.lower_met k, (Act.answerAll_reports ..).frame])⟩
  have raised (k : (a.slots.get i).Raised) : ∃ x, Act.Moves i x a (a.lower e i w) := by
    obtain ⟨x, moves, -⟩ := a.startDown_moves e i w
    exact ⟨x, Act.lower_raised k e w ▸ moves⟩
  cases lift : (a.slots.get i).lift with
  | down => exact met (.inl lift)
  | dropped => exact met (.inr lift)
  | rising => exact raised (.inl lift)
  | up => exact raised (.inr lift)
  | lowering p =>
    rw [Act.lower_joined lift]
    exact ⟨_, (Act.Moves.refl i a).setSlot (f := fun r => { r with lowerWaiters := r.lowerWaiters ++ w }) (fun _ => rfl)
      rfl⟩

theorem Act.ask_lower_other {j : Slot} (h : i ≠ j) :
    ((a.ask e (.lower j)).slots.get i).bare = (a.slots.get i).bare := by
  obtain ⟨x, -, left⟩ := Act.lower_moves e j [.sequencer a.seq.visit]
    (a.setSeq { a.seq with awaiting := a.seq.awaiting ++ [.lower j] })
  have other : i = j.other := by cases i <;> cases j <;> trivial
  rw [other]
  exact left

theorem Act.ask_lower_joins {p : LoweringPhase} (h : (a.slots.get i).lift = .lowering p) :
    (a.ask e (.lower i)).slots.get i =
      { a.slots.get i with lowerWaiters := (a.slots.get i).lowerWaiters ++ [.sequencer a.seq.visit] } := by
  have joined := Act.lower_joined (a := a.setSeq { a.seq with awaiting := a.seq.awaiting ++ [.lower i] }) h e
    [.sequencer a.seq.visit]
  exact (congrArg (fun b => b.slots.get i) joined).trans ((Pair.get_set ..).trans (if_pos rfl))

theorem Act.asksLower_other (l : List Slot) (a : Act) (h : i ∉ l) :
    ((a.asksLower e l).slots.get i).bare = (a.slots.get i).bare := by
  induction l generalizing a with
  | nil => rfl
  | cons j l ih =>
    rw [List.mem_cons, not_or] at h
    exact (ih (a.ask e (.lower j)) h.2).trans (Act.ask_lower_other h.1)

/-- R43: a slot that is LOWERING already answers this request too. -/
theorem Act.asksLower_joins {p : LoweringPhase} (l : List Slot) (a : Act) (once : l.Nodup) (among : i ∈ l)
    (lowering : (a.slots.get i).lift = .lowering p) :
    ((a.asksLower e l).slots.get i).bare =
      { (a.slots.get i).bare with lowerWaiters := (a.slots.get i).lowerWaiters ++ [.sequencer a.seq.visit] } := by
  induction l generalizing a with
  | nil => cases among
  | cons j l ih =>
    obtain ⟨fresh, once⟩ := List.nodup_cons.mp once
    by_cases same : i = j
    · subst same
      exact (Act.asksLower_other l _ fresh).trans (congrArg SlotRec.bare (Act.ask_lower_joins lowering))
    · have left : ((a.ask e (.lower j)).slots.get i).bare = (a.slots.get i).bare := Act.ask_lower_other same
      have lift : ((a.ask e (.lower j)).slots.get i).lift = .lowering p := (congrArg SlotRec.lift left).trans lowering
      have waiters : ((a.ask e (.lower j)).slots.get i).lowerWaiters = (a.slots.get i).lowerWaiters :=
        (congrArg SlotRec.lowerWaiters left :)
      refine (ih (a.ask e (.lower j)) once ((List.mem_cons.mp among).resolve_left same) lift).trans ?_
      rw [left, waiters, Act.ask_seq]

/-! ### LOWERING (R139) -/

theorem Act.enterLowering_eq (notice : a.seq.notice = some c) : a.enterLowering e =
    let b := a.enter e .lowering 0 (Act.asksLower e (a.lowerRequests e c.notice))
    if b.seq.awaiting.isEmpty then b.enterGap e else b := by
  unfold Act.enterLowering
  rw [notice]
  rfl

theorem Act.enterLowering_passes (notice : a.seq.notice = some c) (none : a.lowerRequests e c.notice = []) :
    a.enterLowering e = (a.enter e .lowering 0 id).enterGap e := by
  have entered : a.enterLowering e =
      let b := a.enter e .lowering 0 id
      if b.seq.awaiting.isEmpty then b.enterGap e else b := by
    rw [Act.enterLowering_eq notice, none]
    rfl
  rw [entered]
  exact if_pos (by rw [Act.enter_idle_stands.asked]; rfl)

/-- R139: every slot that must come down is asked to, and a scraper's lowering is joined. -/
theorem Act.enterLowering_lowers (notice : a.seq.notice = some c) (some : a.lowerRequests e c.notice ≠ []) :
    let b := a.enterLowering e
    b.Stands .lowering a.seq.collector ((a.lowerRequests e c.notice).map Request.lower)
    ∧ (∀ i ∈ a.lowerRequests e c.notice, ¬ (b.slots.get i).Raised)
    ∧ ∀ i ∈ a.lowerRequests e c.notice, ∀ p, (a.slots.get i).lift = .lowering p →
      (b.slots.get i).lift = (a.slots.get i).lift
      ∧ (b.slots.get i).lowerWaiters = (a.slots.get i).lowerWaiters ++ [.sequencer b.seq.visit] := by
  generalize asked : a.lowerRequests e c.notice = l at some ⊢
  intro b
  have once : l.Nodup := asked ▸ List.Nodup.filter _ (by decide)
  let arrived := a.arrive e .lowering
  have entered := a.enter_entered e .lowering 0 (Act.asksLower e l)
  have seq : (a.enter e .lowering 0 (Act.asksLower e l)).seq = { arrived.seq with awaiting := l.map Request.lower } := by
    rw [entered.seq, Act.asksLower_seq, Act.arrive_awaiting, List.nil_append]
  have stays : b = a.enter e .lowering 0 (Act.asksLower e l) := by
    refine (Act.enterLowering_eq notice).trans ?_
    rw [asked]
    exact if_neg (by simpa [seq] using some)
  rw [← stays] at entered seq
  refine ⟨⟨?_, ?_, by rw [seq]⟩, fun i among => ?_, fun i among p lowering => ?_⟩
  · exact (congrArg Sequencer.state seq).trans (Act.arrive_state (a := a) (e := e))
  · exact (congrArg Sequencer.collector seq).trans (Act.arrive_collector (a := a) (e := e) (st := .lowering))
  · rw [entered.spares.raised]
    exact Act.asksLower_rests l arrived i among
  · have left : (arrived.slots.get i).bare = (a.slots.get i).bare := Act.arrive_spares.bare i
    have joined := (entered.spares.bare i).trans
      (Act.asksLower_joins l arrived once among ((Act.arrive_spares.lift i).trans lowering))
    have waiters : (arrived.slots.get i).lowerWaiters = (a.slots.get i).lowerWaiters :=
      (congrArg SlotRec.lowerWaiters left :)
    rw [left, waiters] at joined
    rw [seq]
    exact ⟨(congrArg SlotRec.lift joined :), (congrArg SlotRec.lowerWaiters joined :)⟩

theorem Act.isolated_lowers (notice : a.seq.notice = some c)
    (h : c.notice.kind = .lowerZone ∨ a.mustLower e c.notice ≠ []) : a.isolated e = a.enterLowering e := by
  unfold Act.isolated
  rw [notice]
  exact if_pos h

theorem Act.isolated_passes (notice : a.seq.notice = some c) (none : a.mustLower e c.notice = [])
    (kind : c.notice.kind ≠ .lowerZone) : a.isolated e = a.enterGap e := by
  unfold Act.isolated
  rw [notice]
  exact if_neg fun h => h.elim kind fun k => k none

/-- R139: the slots that must come down are among those asked to. -/
theorem Act.lowerRequests_ne_nil {n : Notice} (h : a.mustLower e n ≠ []) : a.lowerRequests e n ≠ [] := by
  obtain ⟨i, among⟩ := List.exists_mem_of_ne_nil _ h
  exact List.ne_nil_of_mem ((Act.mem_lowerRequests n).mpr (.inl among))

/-- R139, R160: a slot that is asked to come down although it is not raised is LOWERING. -/
theorem Act.lowering_of_asked {n : Notice} (asked : i ∈ a.lowerRequests e n) (unraised : i ∉ a.mustLower e n) :
    ∃ p, (a.slots.get i).lift = .lowering p :=
  ((Act.mem_lowerRequests n).mp asked).elim (fun down => absurd down unraised) And.left

/-! ### GAP (R140) -/

theorem Act.enterGap_here {y : Supply} (notice : a.seq.notice = some c) (kind : c.notice.kind = .systemGap)
    (beyond : c.notice.beyond = some y) (there : a.selector.state = .rest (.system y)) :
    a.enterGap e = a.enterGapWaiting e := by
  unfold Act.enterGap
  simp only [notice, kind, beyond]
  exact if_pos ((SelectorState.position_iff ..).mpr there)

/-- R140: the entry actions of GAP where the system beyond is to be selected. -/
def Act.seeksBeyond (e : Env) (y : Supply) (a : Act) : Act :=
  (a.setSeq { a.seq with target := some y, testCount := 0 }).askTest e

theorem Act.enterGap_elsewhere {y : Supply} (notice : a.seq.notice = some c) (kind : c.notice.kind = .systemGap)
    (beyond : c.notice.beyond = some y) (elsewhere : a.selector.state ≠ .rest (.system y)) :
    a.enterGap e = a.enter e (.gap .testing) 0 (Act.seeksBeyond e y) := by
  unfold Act.enterGap
  simp only [notice, kind, beyond]
  exact if_neg (mt (SelectorState.position_iff ..).mp elsewhere)

theorem Act.enterGap_tests {y : Supply} (notice : a.seq.notice = some c) (kind : c.notice.kind = .systemGap)
    (beyond : c.notice.beyond = some y) (elsewhere : a.selector.state ≠ .rest (.system y)) :
    let b := a.enterGap e
    b.Stands (.gap .testing) a.seq.collector [.roofTest] ∧ b.seq.target = some y ∧ b.seq.testCount = 1 := by
  intro b
  have seq : b.seq = { (a.arrive e (.gap .testing)).seq with
      target := some y, testCount := 1, awaiting := [.roofTest] } := by
    rw [show b = _ from Act.enterGap_elsewhere notice kind beyond elsewhere, (Act.enter_entered ..).seq]
    simp [Act.seeksBeyond, Act.askTest]
  exact ⟨⟨by simp [seq], by simp [seq], by rw [seq]⟩, by rw [seq], by rw [seq]⟩

theorem Act.enterGap_waits (notice : a.seq.notice = some c)
    (other : c.notice.kind ≠ .systemGap ∨ c.notice.beyond = none) : a.enterGap e = a.enterGapWaiting e := by
  unfold Act.enterGap
  rw [notice]
  dsimp only
  split
  · rename_i kind beyond
    exact other.elim (absurd kind) fun k => nomatch k.symm.trans beyond
  · rfl

theorem Act.gapWait_apart (h : a.seq.collector = none) : a.gapWait e = a.enterRaising e := by
  unfold Act.gapWait
  rw [h]
  cases a.seq.notice <;> rfl

theorem Act.gapWait_eq (notice : a.seq.notice = some c) (collector : a.seq.collector = some i) : a.gapWait e =
    if a.beyond e c.notice i then
      (if (a.slots.get i).collecting ∧ a.headBeyond e c.notice (a.slots.get i).head then a.enterConnecting e
      else a.enterRaising e)
    else a := by
  unfold Act.gapWait
  rw [notice, collector]

theorem Act.gapWait_waits (notice : a.seq.notice = some c) (collector : a.seq.collector = some i)
    (short : ¬ c.notice.stop.toNat + 50 < a.track e i) : a.gapWait e = a := by
  rw [Act.gapWait_eq notice collector]
  exact if_neg (mt of_decide_eq_true short)

theorem Act.gapWait_connects (notice : a.seq.notice = some c) (collector : a.seq.collector = some i)
    (passed : c.notice.stop.toNat + 50 < a.track e i)
    (connects : a.Collects i ∧ a.headBeyond e c.notice (a.slots.get i).head = true) :
    a.gapWait e = a.enterConnecting e := by
  rw [Act.gapWait_eq notice collector]
  exact (if_pos (decide_eq_true passed)).trans (if_pos (connects.imp_left (Act.collects_iff i).mpr))

theorem Act.gapWait_raises (notice : a.seq.notice = some c) (collector : a.seq.collector = some i)
    (passed : c.notice.stop.toNat + 50 < a.track e i)
    (apart : ¬ (a.Collects i ∧ a.headBeyond e c.notice (a.slots.get i).head = true)) :
    a.gapWait e = a.enterRaising e := by
  rw [Act.gapWait_eq notice collector]
  exact (if_pos (decide_eq_true passed)).trans (if_neg (mt (And.imp_left (Act.collects_iff i).mp) apart))

/-! ### The lost collector, and the notice that goes (R142, R145) -/

/-- R142: the states in which the collector is on the wire. -/
def SeqState.Wired (st : SeqState) : Prop := st = .connecting ∨ st = .sensing ∨ st = .closing ∨ st = .running

theorem Act.seqSlotChanged_lost (h : a.seq.collector = some i ∧ ¬ a.Collects i) :
    a.seqSlotChanged e i = (((a.collectorLost e).leaveDormant e).seqRechoice e).testOpenPoint e := by
  have lost : a.seq.collector = some i ∧ (!(a.slots.get i).collecting) = true :=
    h.imp_right fun k => by rw [Bool.eq_false_iff.mpr (mt (Act.collects_iff i).mp k)]; rfl
  unfold Act.seqSlotChanged
  rw [if_pos lost]

theorem Act.seqSlotChanged_kept (h : ¬ (a.seq.collector = some i ∧ ¬ a.Collects i)) :
    a.seqSlotChanged e i = ((a.leaveDormant e).seqRechoice e).testOpenPoint e := by
  have kept : ¬ (a.seq.collector = some i ∧ (!(a.slots.get i).collecting) = true) :=
    mt (And.imp_right fun k collects => by simp [(Act.collects_iff i).mpr collects] at k) h
  unfold Act.seqSlotChanged
  rw [if_neg kept]

theorem Act.collectorLost_wired (h : a.seq.state.Wired) : a.collectorLost e =
    (a.setSeq { a.seq with tripMarker := false, recloseHold := none }).enterRaising e := by
  unfold Act.collectorLost
  rcases h with h | h | h | h <;> rw [h]

theorem Act.collectorLost_coasting (h : a.seq.state = .coasting) : a.collectorLost e = a.enterGapWaiting e := by
  unfold Act.collectorLost
  rw [h]

theorem Act.collectorLost_elsewhere (wired : ¬ a.seq.state.Wired) (coasting : a.seq.state ≠ .coasting) :
    a.collectorLost e = a := by
  unfold SeqState.Wired at wired
  unfold Act.collectorLost
  split
  · exact absurd (.inl ‹_›) wired
  · exact absurd (.inr (.inl ‹_›)) wired
  · exact absurd (.inr (.inr (.inl ‹_›))) wired
  · exact absurd (.inr (.inr (.inr ‹_›))) wired
  · exact absurd ‹_› coasting
  · rfl

theorem Act.seqSlotChanged_dormant (h : a.seq.state = .dormant) (i : Slot) :
    a.seqSlotChanged e i = ((a.leaveDormant e).seqRechoice e).testOpenPoint e := by
  have stays : a.collectorLost e = a := Act.collectorLost_elsewhere (by simp [SeqState.Wired, h]) (by simp [h])
  by_cases lost : a.seq.collector = some i ∧ ¬ a.Collects i
  · rw [Act.seqSlotChanged_lost lost, stays]
  · exact Act.seqSlotChanged_kept lost

theorem SeqState.passing_iff (st : SeqState) : st.passing = true ↔
    st = .opening ∨ st = .coasting ∨ st = .isolating ∨ st = .lowering ∨ ∃ g, st = .gap g := by
  unfold SeqState.passing
  cases st <;> simp

end

end Sys2Proof.Machine

namespace Sys2Proof.Machine

/-- Settles O53. -/
theorem dormantAndHeld : Obligations.DormantAndHeld := by
  refine ⟨fun e a => ⟨fun cause => ?_, fun r => ?_⟩, fun e a dormant => ⟨fun y may => ?_, Act.leaveDormant_stays⟩,
    fun e a r => ⟨fun dormant => if_pos (.inl dormant), Act.goDormant_unbrought, fun _ => Act.goDormant_brought,
      fun _ => Act.handle_brings⟩,
    fun e a => ⟨rfl, rfl, rfl, rfl, rfl, rfl, rfl, rfl, fun dormant i => ?_, fun m => Act.setMode_reports e m a,
      fun _ _ n next => Act.settle_reports next n⟩,
    fun _ => rfl, fun e a st why f => ?_,
    fun e a i => ⟨fun _ _ profile => Act.eligible_iff profile i, Act.chooseCollector_collecting,
      fun apart => ⟨Act.chooseCollector_preferred apart, Act.chooseCollector_rearmost apart⟩, Act.chooseCollector_none⟩,
    fun e a => ?_, fun e a => ?_, fun e a raising => ?_, fun e a => ?_, fun e a h => ?_, fun e a c notice => ?_,
    fun e a => ?_⟩
  -- R125: entry into DORMANT
  · obtain ⟨request, mark, breaker, slots⟩ := Act.enterDormant_stoodDown (e := e) (a := a) cause
    have record := Act.enterDormant_record (e := e) (a := a) cause
    dsimp only
    rw [Act.enterDormant_seq]
    exact ⟨Act.arrive_state (e := e) (a := a), rfl, rfl, rfl, rfl, rfl, rfl, rfl, rfl, rfl, rfl, rfl, rfl,
      Act.arrive_reviewTimer (e := e) (st := .dormant), mark, request, record, breaker, slots⟩
  -- R143: entry into HELD
  · dsimp only
    rw [Act.enterHeld_seq]
    exact ⟨Act.arrive_state (e := e) (a := a), rfl, rfl, rfl, rfl, rfl, rfl,
      Act.arrive_reviewTimer (e := e) (st := .held r), Act.enterHeld_leaves r⟩
  -- R126: leaving DORMANT
  · rw [Act.leaveDormant_leaves dormant may]
    exact ⟨Act.enterPrepare_stands.state, Act.enterPrepare_target, Act.enterPrepare_stands.asked⟩
  -- R126: a slot change in DORMANT
  · exact congrArg (Act.mutedTest e) (Act.seqSlotChanged_dormant dormant i)
  -- R123: SEQ_STATE
  · rw [Act.enter_eq, Act.arrive_eq]
    rfl
  -- R124: refusals and faults
  · have holds {x : Request} {r : HeldReason} := Act.handle_refused_holds (e := e) (a := a) (q := x) (r := r)
    have retries {x : Request} := Act.handle_refused_retries (e := e) (a := a) (q := x)
    obtain ⟨bySelector, byIsolator, sound⟩ := a.faultedDevice_spec
    refine ⟨fun _ r ans late => Act.handle_late late r ans, fun y => ⟨fun s => ?_, fun s i => ?_, fun s i => ?_⟩,
      fun j => ⟨fun own => ?_, fun own s => ?_, fun own s i => ?_, fun s i => ?_⟩,
      ⟨fun own => ?_, fun own s => ?_, fun own s i => ?_, fun own s i => ?_⟩, Act.handle_fault rfl,
      Act.handle_fault rfl, Act.handle_fault rfl, Act.handle_fault rfl, fun _ => rfl⟩
    · exact holds trivial (bySelector s)
    · exact holds trivial (byIsolator s i)
    · exact retries trivial (sound s fun j k => i ⟨j, k⟩)
    · exact holds trivial (Act.unableDevice_closeIsolator_own own)
    · exact holds trivial ((Act.unableDevice_closeIsolator_other own).trans (bySelector s))
    · exact holds trivial ((Act.unableDevice_closeIsolator_other own).trans (byIsolator s i))
    · exact retries trivial ((Act.unableDevice_closeIsolator_other fun own => i ⟨j, own⟩).trans
        (sound s fun j k => i ⟨j, k⟩))
    · exact holds trivial (if_pos own)
    · exact holds trivial ((Act.unableDevice_closeBreaker_other own).trans (bySelector s))
    · exact holds trivial ((Act.unableDevice_closeBreaker_other own).trans (byIsolator s i))
    · exact retries trivial ((Act.unableDevice_closeBreaker_other own).trans (sound s fun j k => i ⟨j, k⟩))
  -- R128 to R130, R132, R133: PREPARE, CONNECTING, CLOSING, RUNNING
  · refine ⟨⟨Act.enterPrepare_stands, Act.enterPrepare_target, congrArg Sequencer.testCount Act.enterPrepare_seq,
      Act.enterPrepare_opens⟩, fun st r => ⟨fun more => ?_, fun none => ?_⟩, fun test select tests st => ?_,
      fun st y => ?_, Act.enterRaising_raises, fun i => Act.enterConnecting_stands, fun st i => ?_, fun st i => ?_,
      Act.enter_ask_stands _, fun st => ?_⟩
    · exact (Act.handle_done_clearing st r).trans (if_neg (mt List.isEmpty_iff.mp more))
    · dsimp only
      have last : (a.heard r).seq.awaiting.isEmpty = true := List.isEmpty_iff.mpr none
      rw [Act.handle_done_clearing st r, if_pos last]
      exact Act.askTest_stands (a := a.heard r) _
    · have answered (r : TestResult) := Act.handle_tested_testing (e := e) tests st r
      refine ⟨fun y target => ?_, fun few => (answered _).trans (Act.testAnswered_again few),
        fun many => (answered _).trans (Act.testAnswered_invalid many), fun r faulty =>
        (answered _).trans (Act.testAnswered_faulty faulty)⟩
      dsimp only
      rw [answered]
      exact Act.askMove_stands (a := a.heard .roofTest) target select
    · dsimp only
      rw [Act.handle_done_selecting st]
      exact Act.selected_raises (a := a.heard (.moveSelector y))
    · exact Act.handle_done_connecting st i
    · exact Act.handle_done_reselect st i
    · dsimp only
      rw [Act.handle_done_closing st]
      obtain ⟨stands, marker, used, copy⟩ := Act.enterRunning_runs (e := e) (a := a.heard .closeBreaker)
      exact ⟨stands, marker, used, copy⟩
  -- R129: RAISING
  · have raised := Act.seqOutcome_raised (e := e) raising
    have failed := Act.seqOutcome_failed (e := e) raising
    have rechoice := Act.seqRechoice_raising (e := e) raising
    have left := Act.leaveState_raising (e := e) raising
    let free := a.setSeq { a.seq with committed := false }
    refine ⟨Act.seqOutcome_opened raising, Act.seqOutcome_won raising, fun o => Act.seqOutcome_other,
      fun k => ⟨raised.trans (if_neg (by simp [k])), failed.trans (if_neg (by simp [k]))⟩,
      fun k => ⟨fun i collector => ?_, ?_, ?_⟩, ?_, ?_, fun k => rechoice.trans (if_pos k), fun k same idle => ?_,
      fun k other => ?_, ?_, Act.leaveState_request raising⟩
    · have connects : Act.handle e (.outcome .collect .raised) a = free.enterConnecting e := raised.trans (if_pos k)
      dsimp only
      rw [connects]
      exact ⟨Act.enterConnecting_stands collector, Act.enterConnecting_request raising collector,
        Act.enterConnecting_committed rfl⟩
    · have again : Act.handle e (.outcome .collect .failed) a = free.rechoose e true := failed.trans (if_pos k)
      dsimp only
      rw [again]
      exact Act.rechoose_rechooses (a := free) raising (.inr rfl)
    · have again : Act.handle e (.outcome .collect .failed) a = free.rechoose e true := failed.trans (if_pos k)
      dsimp only
      rw [again]
      exact Act.rechoose_committed rfl
    · exact congrArg (Act.seqRechoice e) (Act.leaveDormant_elsewhere (by simp [raising]))
    · exact congrArg (Act.seqRechoice e) (Act.leaveDormant_elsewhere (by simp [raising]))
    · exact (rechoice.trans (if_neg (by simp [k]))).trans (Act.rechoose_same idle same)
    · rw [rechoice, if_neg (by simp [k])]
      exact Act.rechoose_rechooses raising (.inl other)
    · rw [left, Act.withdrawRequest_seq]
      rfl
  -- R131 to R133, R135, R136: SENSING
  · refine ⟨Act.enterSensing_reads, fun none => ?_, fun y system there free => ?_,
      fun st => ⟨Act.seqConfirmed_reads st, Act.seqConfirmed_waits st, Act.seqConfirmed_stays st⟩,
      fun st => ⟨Act.seqConfirmed_reads_running st, Act.seqTrip_reads st, Act.seqTrip_stays st⟩,
      Act.seqConfirmed_reads_closing, Act.seqConfirmed_elsewhere, Act.seqTrip_elsewhere⟩
    · rw [Act.enterSensing_waits none]
    · rw [Act.sense_matches system there, if_neg (by simp [free])]
      rfl
  -- R134, R137, R143: the open point
  · refine ⟨fun i raised other => ?_, fun level => ?_, Act.testOpenPoint_none, Act.testOpenPoint_short,
      fun next reached => ⟨fun busy found => ?_, fun held => ?_, Act.testOpenPoint_elsewhere next reached⟩,
      fun coasting gap => ⟨Act.positionsMoved_elsewhere coasting gap, Act.positionsMoved_elsewhere coasting gap⟩, rfl, rfl⟩
    · rw [Act.openPointReached_iff, Act.frontRaised_single ((SlotRec.offDown_iff _).mpr raised)
        (mt (SlotRec.offDown_iff _).mp other)]
    · rw [Act.openPointReached_iff, Act.frontRaised_level
        ((SlotRec.offDown_iff _).trans (level.trans (SlotRec.offDown_iff _).symm))]
    · rw [Act.testOpenPoint_busy next reached busy]
      exact Act.enterOpening_opens found
    · rw [Act.testOpenPoint_held next reached held]
      exact ⟨Act.foldl_lower_seq .., Act.foldl_lower_rests _ _⟩
  -- R137 to R140: the passage of a notice
  · refine ⟨fun i p profile st collector => ?_, fun i st collector => ?_, Act.enterIsolating_passes,
      Act.handle_done_isolating, fun i => Act.mem_mustLower c.notice, fun i => Act.mem_lowerRequests c.notice,
      fun x => ⟨fun _ named => Act.headBeyond_named named x, fun unnamed => ⟨fun _ _ kind beyond profile =>
        Act.headBeyond_system unnamed kind beyond profile x, fun _ other active =>
        Act.headBeyond_active unnamed other active x⟩⟩, fun lowers => ?_, Act.isolated_passes notice,
      fun none zone => ?_, fun st i ans ends => ⟨fun more => ?_, fun none => ?_⟩,
      fun y kind beyond => ⟨Act.enterGap_tests notice kind beyond, Act.enterGap_here notice kind beyond⟩,
      Act.enterGap_waits notice, Act.handle_done_gapSelecting, Act.gapWait_apart, fun i collector =>
      ⟨Act.gapWait_waits notice collector, Act.gapWait_connects notice collector, Act.gapWait_raises notice collector⟩,
      fun st => ⟨Act.positionsMoved_gap st, Act.positionsMoved_gap st⟩⟩
    · dsimp only
      rw [Act.handle_done_opening st]
      refine ⟨fun coasts short => ?_, fun stays => ?_⟩
      · rw [Act.opened_coasts (a := a.heard .openBreaker) notice collector profile coasts]
        exact Act.enterCoasting_stands (a := a.heard .openBreaker) notice collector short
      · rw [Act.opened_isolates (a := a.heard .openBreaker) notice collector profile stays,
          Act.enterIsolating_asks (a := a.heard .openBreaker) collector, ← collector]
        exact Act.enter_ask_stands (a := a.heard .openBreaker) _
    · have moved := Act.positionsMoved_coasting (e := e) st
      dsimp only
      rw [moved]
      refine ⟨Act.coastWait_waits notice collector, fun passed closed => ?_, fun passed apart => ?_⟩
      · rw [Act.coastWait_passes notice collector passed, if_pos closed]
      · rw [Act.coastWait_passes notice collector passed, if_neg apart]
    · have lowering : a.isolated e = a.enterLowering e := Act.isolated_lowers notice (lowers.symm.imp_left And.right)
      obtain ⟨stands, rests, joins⟩ :=
        Act.enterLowering_lowers (e := e) notice (lowers.elim Act.lowerRequests_ne_nil And.left)
      dsimp only
      rw [lowering]
      refine ⟨stands, fun i down => rests i ((Act.mem_lowerRequests c.notice).mpr (.inl down)), fun i asked up => ?_⟩
      obtain ⟨p, lift⟩ := Act.lowering_of_asked asked up
      exact joins i asked p lift
    · exact (Act.isolated_lowers notice (.inl zone)).trans (Act.enterLowering_passes notice none)
    · exact (Act.handle_lowered_lowering st i ends).trans (if_neg (mt List.isEmpty_iff.mp more))
    · exact (Act.handle_lowered_lowering st i ends).trans (if_pos (List.isEmpty_iff.mpr none))
  -- R142, R145: the lost collector, the retired and the flushed notice
  · refine ⟨fun i => ⟨Act.seqSlotChanged_lost, Act.seqSlotChanged_kept⟩, Act.collectorLost_wired,
      Act.collectorLost_coasting, Act.collectorLost_elsewhere, fun passing => ⟨?_, ?_⟩, fun passing => ⟨?_, ?_⟩⟩
    · exact if_pos ((SeqState.passing_iff _).mpr passing)
    · exact if_pos ((SeqState.passing_iff _).mpr passing)
    · exact if_neg (mt (SeqState.passing_iff _).mp passing)
    · exact if_neg (mt (SeqState.passing_iff _).mp passing)

end Sys2Proof.Machine

namespace Sys2Proof.Machine

/-! ## Start-up Controller: a change of the station mode, and the mode timers (R58, R165) -/

/-! ### A change of mode (R165) -/

/-- R165: the new mode with its record, reported. -/
def Act.enterMode (m : Mode) (a : Act) : Act :=
  (((a.setStartup { a.startup with mode := m }).log .mode 255 (n16 (bytes2 m.code a.startup.mode.code)) 0).push
    .modeChanged).evalDue

section
variable (e : Env) (m : Mode) (a : Act)

theorem Act.setMode_eq : a.setMode e m = if m = .ready then a.enterMode m else (a.enterMode m).bidsEnd e := rfl

@[simp] theorem Act.enterMode_startup : (a.enterMode m).startup = { a.startup with mode := m } := Act.push_startup ..
@[simp] theorem Act.enterMode_link : (a.enterMode m).link = a.link := Act.push_link ..
@[simp] theorem Act.enterMode_slots : (a.enterMode m).slots = a.slots := Act.push_slots ..
@[simp] theorem Act.enterMode_bids : (a.enterMode m).bids = a.bids := Act.push_bids ..

theorem Act.setMode_queues : Act.Queues (a.enterMode m) (a.setMode e m) := by
  rw [Act.setMode_eq]
  split
  · exact .refl _
  · exact (Act.Queues.refl _).bidsEnd

@[simp] theorem Act.setMode_startup : (a.setMode e m).startup = { a.startup with mode := m } :=
  (a.setMode_queues e m).startup.trans (Act.enterMode_startup ..)

theorem Act.setMode_link : (a.setMode e m).link =
    { a.link with head := (a.setMode e m).link.head, waiting := (a.setMode e m).link.waiting } := by
  have queued := (a.setMode_queues e m).link
  rwa [Act.enterMode_link] at queued

theorem Act.setMode_tells : (a.setMode e m).Tells .modeChanged := (a.setMode_reports e m).1

theorem Act.setMode_logs : ∃ l, (a.setMode e m).logs = a.logs ++ l :=
  let ⟨_, _, _, logs⟩ := a.setMode_reports e m
  ⟨_, logs⟩

end

/-- R58: with the address set, the gate opens with seed and STATE timer; the queue, the reports and records may grow. -/
theorem Act.openGate_queues {own : Nat} {a : Act} (address : a.link.address = some own) (e : Env) :
    Act.Queues { a with link := { a.link with gateOpen := true, seed := some (own, e.now), stateTimer := some 50 } }
      (a.openGate e) := by
  unfold Act.openGate
  rw [address]
  exact (Act.Queues.refl _).offerStateRoof

/-- R58: without an address there is no gate to open. -/
theorem Act.openGate_unset {a : Act} (unset : a.link.address = none) (e : Env) : a.openGate e = a := by
  unfold Act.openGate
  rw [unset]

theorem Act.openGate_appends (e : Env) (a : Act) : Act.Appends a (a.openGate e) ∧ (a.openGate e).startup = a.startup := by
  cases address : a.link.address with
  | none =>
    rw [Act.openGate_unset address]
    exact ⟨.of_eq, rfl⟩
  | some own =>
    have opened := Act.openGate_queues address e
    exact ⟨Act.Appends.trans .of_eq opened.toAppends, opened.startup⟩

/-! ### The mode timers (R165) -/

theorem Act.listenExpired_listen {a : Act} (listen : a.startup.mode = .listen) (e : Env) : a.listenExpired e =
    let b := ((a.setStartup { a.startup with listenTimer := none }).setMode e .join).openGate e
    b.setStartup { b.startup with joinTimer := some 200 } := if_pos listen

theorem Act.joinExpired_join {a : Act} (join : a.startup.mode = .join) (e : Env) :
    a.joinExpired e = (a.setStartup { a.startup with joinTimer := none }).setMode e .ready := if_pos join

/-- The Start-up Controller's record at the end of an event; only MUTING may give way to MUTED. -/
theorem State.finish_startup (s : State) : Startup.Kept s.act.startup s.finish.act.startup := by
  obtain ⟨b, settled, finished⟩ := s.finish_settles
  rw [finished]
  exact settled.startup

/-- A mode other than MUTING stays to the end of the event. -/
theorem State.finish_mode {s : State} {m : Mode} (mode : s.act.startup.mode = m) (other : m ≠ .muting) :
    s.finish.act.startup.mode = m := by
  subst mode
  exact s.finish_startup.mode.resolve_right fun muted => other muted.1

theorem exec_listenTimerExpiry {s : State} {n : Nat} (timer : s.act.startup.listenTimer = some n) :
    exec .listenTimerExpiry s =
      .next (State.finish { s.elapse n with act := Act.listenExpired (s.env.elapse n) (s.act.elapse n) }) := by
  show Host.Outcome.next (s.onExpiry s.act.startup.listenTimer _).finish = _
  rw [timer]
  rfl

theorem exec_joinTimerExpiry {s : State} {n : Nat} (timer : s.act.startup.joinTimer = some n) :
    exec .joinTimerExpiry s =
      .next (State.finish { s.elapse n with act := Act.joinExpired (s.env.elapse n) (s.act.elapse n) }) := by
  show Host.Outcome.next (s.onExpiry s.act.startup.joinTimer _).finish = _
  rw [timer]
  rfl

/-- Settles O32. -/
theorem modeTimers : Obligations.ModeTimers := by
  intro s n
  let e := s.env.elapse n
  let a := s.act.elapse n
  refine ⟨fun listen timer => ?_, fun join timer => ?_⟩
  · let joined := (a.setStartup { a.startup with listenTimer := none }).setMode e .join
    obtain ⟨appends, startup⟩ := joined.openGate_appends e
    have modeIs : joined.startup = { a.startup with listenTimer := none, mode := .join } := Act.setMode_startup ..
    let b : State := { s.elapse n with
      act := (joined.openGate e).setStartup { (joined.openGate e).startup with joinTimer := some 200 } }
    have written : b.act.startup = { a.startup with listenTimer := none, mode := .join, joinTimer := some 200 } := by
      show { (joined.openGate e).startup with joinTimer := some 200 } = _
      rw [startup, modeIs]
    refine ⟨b, ?_, rfl, fun own address => ?_, appends.tells (Act.setMode_tells ..), ?_, ?_, ?_⟩
    · rw [exec_listenTimerExpiry timer, Act.listenExpired_listen (a := a) listen]
    · have kept : joined.link.address = some own := (congrArg Link.address (Act.setMode_link ..)).trans address
      have link : b.act.link = _ := (Act.openGate_queues kept e).link
      rw [link]
      exact ⟨rfl, rfl, rfl⟩
    · exact State.finish_mode (congrArg Startup.mode written) nofun
    · exact b.finish_startup.listenTimer.trans (congrArg Startup.listenTimer written)
    · exact b.finish_startup.joinTimer.trans (congrArg Startup.joinTimer written)
  · let b : State := { s.elapse n with act := (a.setStartup { a.startup with joinTimer := none }).setMode e .ready }
    have written : b.act.startup = { a.startup with joinTimer := none, mode := .ready } := Act.setMode_startup ..
    refine ⟨b, b.finish, ?_, rfl, Act.setMode_tells .., rfl, State.finish_mode (congrArg Startup.mode written) nofun,
      b.finish_startup.joinTimer.trans (congrArg Startup.joinTimer written)⟩
    rw [exec_joinTimerExpiry timer, Act.joinExpired_join (a := a) join]

end Sys2Proof.Machine

namespace Sys2Proof.Machine

/-! ## Start-up Controller: the configuration (R162 to R164) -/

/-! ### The checks (R164) -/

section
variable (b : List Byte)

theorem configFailure_none_iff : configFailure b = none ↔ ∀ r ∈ checkRows b, r.2 = [] := by
  have found : configFailure b = none ↔ ((checkRows b).find? fun r => !r.2.isEmpty) = none := by
    unfold configFailure
    split
    · rename_i row
      simp [row]
    · rename_i row
      simp [row]
  rw [found, List.find?_eq_none]
  simp

/-- R164: the first row with a failing field gives the reason. -/
theorem configFailure_reason {before after : List (Nat × List Nat)} {reason : Nat} {fields : List Nat}
    (rows : checkRows b = before ++ (reason, fields) :: after) (sound : ∀ r ∈ before, r.2 = []) (fails : fields ≠ []) :
    (configFailure b).map Prod.fst = some reason := by
  have found : ((checkRows b).find? fun r => !r.2.isEmpty) = some (reason, fields) := by
    rw [rows, List.find?_append, List.find?_eq_none.mpr fun r m => by simp [sound r m],
      List.find?_cons_of_pos (by simpa using fails)]
    rfl
  unfold configFailure
  rw [found]
  rfl

/-- R164: what the fields of one profile must fulfil. -/
def ProfileSound (y : Supply) : Prop :=
  1 ≤ at8 b (profileOffset y) ∧ at8 b (profileOffset y) ≤ 8 ∧ at8 b (profileOffset y + 5) ≤ 1
  ∧ 1 ≤ at8 b (profileOffset y + 6) ∧ at8 b (profileOffset y + 6) ≤ 3
  ∧ at16 b (profileOffset y + 9) ≤ 5000 ∧ at16 b (profileOffset y + 11) ≤ at16 b (profileOffset y + 13)

/-- A row's list of failing fields is empty where the condition holds. -/
theorem ite_nil_iff {p : Prop} [Decidable p] {x : Nat} {l : List Nat} : (if p then [] else x :: l) = [] ↔ p := by
  split <;> simp_all

theorem profileFailures_nil_iff (y : Supply) : profileFailures b y = [] ↔ ProfileSound b y := by
  unfold profileFailures ProfileSound
  simp only [List.append_eq_nil_iff, ite_nil_iff, and_assoc]

/-- R164: the rows, each empty exactly where its fields lie in their ranges. -/
theorem checkRows_eq : ∃ address slot thresholds profiles temperature : List Nat,
    checkRows b = [(2, address), (3, slot), (4, thresholds), (5, profiles), (6, temperature)]
    ∧ (address = [] ↔ 1 ≤ at8 b 4 ∧ at8 b 4 ≤ 8)
    ∧ (slot = [] ↔ at16 b 7 ≤ 8000 ∧ at16 b 9 ≤ 8000 ∧ at8 b 5 ≤ 1 ∧ at8 b 6 ≤ 1)
    ∧ (thresholds = [] ↔ at8 b 21 < at8 b 22 ∧ at8 b 22 < at8 b 23)
    ∧ (profiles = [] ↔ ∀ y, ProfileSound b y)
    ∧ (temperature = [] ↔ -20 ≤ (b.getD 25 0xFF).toInt ∧ (b.getD 25 0xFF).toInt ≤ 10) := by
  refine ⟨_, _, _, _, _, rfl, ite_nil_iff, ?_, ?_, ?_, ite_nil_iff⟩
  · simp only [List.append_eq_nil_iff, ite_nil_iff, and_assoc]
  · simp only [List.append_eq_nil_iff, ite_nil_iff]
  · simp only [List.append_eq_nil_iff, profileFailures_nil_iff, and_assoc]
    refine ⟨fun ⟨ac25, ac15, dc3, dc15⟩ y => ?_, fun all => ⟨all _, all _, all _, all _⟩⟩
    cases y
    · exact ac25
    · exact ac15
    · exact dc3
    · exact dc15

end

/-! ### The attempts of a load (R163) -/

theorem blockOf_eq {b : List Byte} (whole : b.length = 256) : blockOf b = b := by
  refine List.ext_getElem (by simp [blockOf, whole]) fun n _ here => ?_
  simp [blockOf, here]

theorem Startup.attempt_reading {x : Startup} {n : Nat} (start : x.mode = .start) (reading : x.load = .reading n) :
    x.attempt = some n := by
  unfold Startup.attempt
  rw [start, reading]

theorem Startup.attempt_none {x : Startup} (h : x.mode ≠ .start ∨ ∀ n, x.load ≠ .reading n) : x.attempt = none := by
  unfold Startup.attempt
  split
  · rename_i n start reading
    exact absurd h (by simp [start, reading])
  · rfl

theorem Act.memoryRead_reading {a : Act} {n : Nat} (h : a.startup.attempt = some n) :
    a.memoryRead = some { attempt := n, address := 0, length := 256 } := by
  unfold Act.memoryRead
  rw [h]
  rfl

theorem Act.memoryRead_none {a : Act} (h : a.startup.mode ≠ .start ∨ ∀ n, a.startup.load ≠ .reading n) :
    a.memoryRead = none := by
  unfold Act.memoryRead
  rw [Startup.attempt_none h]
  rfl

/-! ### Rejection (R163, R164) -/

/-- R165: behind a change of mode only reactions of the Bid Unit are written. -/
theorem Act.setMode_settles (e : Env) (m : Mode) (a : Act) : Act.Settles e (a.enterMode m) (a.setMode e m) := by
  rw [Act.setMode_eq]
  split
  · exact .refl _
  · exact (Act.Settles.refl _).bidsEnd

theorem Act.rejectLoad_spec (e : Env) (reason offset : Nat) (a : Act) :
    (a.rejectLoad e reason offset).startup = { a.startup with load := .rejected reason, mode := .safe }
    ∧ ∃ l, (a.rejectLoad e reason offset).logs =
      a.logs ++ a.entry .configBad 0 (n16 reason) (n32 offset) :: l := by
  obtain ⟨l, logs⟩ := Act.setMode_logs e .safe
    ((a.setStartup { a.startup with load := .rejected reason }).log .configBad 0 (n16 reason) (n32 offset))
  exact ⟨Act.setMode_startup .., l, logs.trans (List.append_assoc ..)⟩

/-! ### Acceptance (R162, R164) -/

/-- What a configuration that is accepted makes of the part. -/
structure Act.LoadAccepted (c : Loaded) (attempts : Nat) (a b : Act) : Prop where
  startup : b.startup = { a.startup with load := .accepted, mode := .listen, listenTimer := some 500 }
  logs : ∃ l, b.logs = a.logs ++ a.entry .configLoaded c.station (n16 attempts) (identityWord c.bytes) :: l
  address : b.link.address = some c.station
  gate : b.link.gateOpen = true → a.link.gateOpen = true
  slots : ∀ i, SlotRec.Kept ((a.slots.get i).load c i) (b.slots.get i)

theorem Act.acceptLoad_accepted (e : Env) (c : Loaded) (n : Nat) (a : Act) :
    Act.LoadAccepted c n a (a.acceptLoad e c n) := by
  let recorded := (a.setStartup { a.startup with load := .accepted }).log .configLoaded c.station (n16 n)
    (identityWord c.bytes)
  let loaded : Act := { recorded with slots := ⟨a.slots.zero.load c .zero, a.slots.one.load c .one⟩ }
  let profiled := ((loaded.recomputeProfile e).iceDue).evalDue
  let addressed : Act := { profiled with link := { profiled.link with address := some c.station } }
  let listening := addressed.setMode e .listen
  have result : a.acceptLoad e c n = listening.setStartup { listening.startup with listenTimer := some 500 } := rfl
  have taken : Act.Settles e loaded profiled := (Act.Settles.refl _).recomputeProfile.iceDue.evalDue
  have entered : Act.Settles e (addressed.enterMode .listen) listening := addressed.setMode_settles e .listen
  have startup : profiled.startup = loaded.startup := ((Act.Spares.refl loaded).recomputeProfile.iceDue.evalDue).startup
  have link : listening.link = _ := addressed.setMode_link e .listen
  rw [result]
  refine ⟨?_, ?_, ?_, fun gate => ?_, fun i => ?_⟩
  · have mode : listening.startup = { profiled.startup with mode := .listen } := addressed.setMode_startup e .listen
    rw [Act.setStartup_startup, mode, startup]
    rfl
  · obtain ⟨l, profile⟩ := taken.logs
    obtain ⟨m, mode⟩ := addressed.setMode_logs e .listen
    refine ⟨l ++ m, mode.trans ?_⟩
    show profiled.logs ++ m = _
    rw [profile, List.append_assoc]
    exact List.append_assoc ..
  · rw [Act.setStartup_link, link]
  · rw [Act.setStartup_link, link] at gate
    exact taken.link.gate gate
  · have first := taken.slots i
    have second := entered.slots i
    rw [Act.enterMode_slots] at second
    rw [show loaded.slots.get i = (a.slots.get i).load c i by cases i <;> rfl] at first
    exact first.trans second

/-! ### The end of an attempt -/

section
variable {s : State} {b : List Byte} {n : Nat}

theorem exec_configAttemptEnd_none (h : s.act.startup.attempt = none) (b : List Byte) :
    exec (.configAttemptEnd b) s = .next s.finish := by
  have ended : s.attemptEnded b = s := by
    unfold State.attemptEnded
    rw [h]
  exact congrArg (fun t => Host.Outcome.next (State.finish t)) ended

variable (whole : b.length = 256) (attempt : s.act.startup.attempt = some n)
include whole attempt

theorem exec_configAttemptEnd_retried (h : readCorrect b = false) (early : n < 3) : exec (.configAttemptEnd b) s =
    .next (State.finish { s with act := s.act.setStartup { s.act.startup with load := .reading (n + 1) } }) := by
  have ended : s.attemptEnded b = s.onAct fun _ a => a.setStartup { a.startup with load := .reading (n + 1) } := by
    unfold State.attemptEnded
    rw [attempt, blockOf_eq whole]
    dsimp only
    rw [h, if_pos early]
    rfl
  exact congrArg (fun t => Host.Outcome.next (State.finish t)) ended

theorem exec_configAttemptEnd_exhausted (h : readCorrect b = false) (late : 3 ≤ n) : exec (.configAttemptEnd b) s =
    .next (State.finish { s with act := s.act.rejectLoad s.env 1 0 }) := by
  have ended : s.attemptEnded b = s.onAct fun e a => a.rejectLoad e 1 0 := by
    unfold State.attemptEnded
    rw [attempt, blockOf_eq whole]
    dsimp only
    rw [h, if_neg (Nat.not_lt.mpr late)]
    rfl
  exact congrArg (fun t => Host.Outcome.next (State.finish t)) ended

theorem exec_configAttemptEnd_rejected (h : readCorrect b = true) {reason offset : Nat}
    (fails : configFailure b = some (reason, offset)) : exec (.configAttemptEnd b) s =
      .next (State.finish { s with act := s.act.rejectLoad s.env reason offset }) := by
  have ended : s.attemptEnded b = { s with act := s.act.rejectLoad s.env reason offset } := by
    unfold State.attemptEnded
    rw [attempt, blockOf_eq whole]
    dsimp only
    rw [h, fails]
    rfl
  exact congrArg (fun t => Host.Outcome.next (State.finish t)) ended

theorem exec_configAttemptEnd_accepted (h : readCorrect b = true) (sound : configFailure b = none) :
    exec (.configAttemptEnd b) s =
      .next (State.finish { s with
        env := { s.env with cfg := some (readBlock b) }
        act := s.act.acceptLoad { s.env with cfg := some (readBlock b) } (readBlock b) n }) := by
  have ended : s.attemptEnded b = { s with
        env := { s.env with cfg := some (readBlock b) }
        act := s.act.acceptLoad { s.env with cfg := some (readBlock b) } (readBlock b) n } := by
    unfold State.attemptEnded
    rw [attempt, blockOf_eq whole]
    dsimp only
    rw [h, sound]
    rfl
  exact congrArg (fun t => Host.Outcome.next (State.finish t)) ended

end

/-- R163: a load that is rejected ends in SAFE, with nothing more read. -/
theorem State.finish_rejected {s : State} {reason : Nat} (load : s.act.startup.load = .rejected reason)
    (mode : s.act.startup.mode = .safe) : s.finish.act.memoryRead = none ∧ s.finish.env = s.env
      ∧ s.finish.act.startup.load = .rejected reason ∧ s.finish.act.startup.mode = .safe := by
  have safe := State.finish_mode mode nofun
  exact ⟨Act.memoryRead_none (.inl (by rw [safe]; nofun)), rfl, s.finish_startup.load.trans load, safe⟩

/-- R164: the first row that fails gives the reason, and with none the configuration is accepted. -/
theorem configFailure_rows {b : List Byte} {address slot thresholds profiles temperature : Prop}
    (rows : ∃ r2 r3 r4 r5 r6, checkRows b = [(2, r2), (3, r3), (4, r4), (5, r5), (6, r6)]
      ∧ (r2 = [] ↔ address) ∧ (r3 = [] ↔ slot) ∧ (r4 = [] ↔ thresholds) ∧ (r5 = [] ↔ profiles)
      ∧ (r6 = [] ↔ temperature)) :
    (configFailure b = none ↔ address ∧ slot ∧ thresholds ∧ profiles ∧ temperature)
    ∧ (¬ address → (configFailure b).map Prod.fst = some 2)
    ∧ (address → ¬ slot → (configFailure b).map Prod.fst = some 3)
    ∧ (address → slot → ¬ thresholds → (configFailure b).map Prod.fst = some 4)
    ∧ (address → slot → thresholds → ¬ profiles → (configFailure b).map Prod.fst = some 5)
    ∧ (address → slot → thresholds → profiles → ¬ temperature → (configFailure b).map Prod.fst = some 6) := by
  obtain ⟨r2, r3, r4, r5, r6, rows, hAddress, hSlot, hThresholds, hProfiles, hTemperature⟩ := rows
  rw [← hAddress, ← hSlot, ← hThresholds, ← hProfiles, ← hTemperature]
  refine ⟨?_, fun f => ?_, fun a f => ?_, fun a c f => ?_, fun a c d f => ?_, fun a c d x f => ?_⟩
  · rw [configFailure_none_iff, rows]
    simp
  · exact configFailure_reason b (before := []) rows nofun f
  · exact configFailure_reason b (before := [(2, r2)]) rows (by simp [a]) f
  · exact configFailure_reason b (before := [(2, r2), (3, r3)]) rows (by simp [a, c]) f
  · exact configFailure_reason b (before := [(2, r2), (3, r3), (4, r4)]) rows (by simp [a, c, d]) f
  · exact configFailure_reason b (before := [(2, r2), (3, r3), (4, r4), (5, r5)]) rows (by simp [a, c, d, x]) f

/-- Settles O31. -/
theorem configurationLoad : Obligations.ConfigurationLoad := by
  refine ⟨?_, fun pins s => ?_, fun b => configFailure_rows (checkRows_eq b)⟩
  · intro s b whole reads bad
    refine ⟨fun n start reading => ?_, fun idle => ?_⟩
    · have attempt := Startup.attempt_reading start reading
      have rejected (reason offset : Nat) :
          let c : State := { s with act := s.act.rejectLoad s.env reason offset }
          bad reason offset c ∧ c.finish.act.memoryRead = none ∧ c.finish.env = s.env
            ∧ c.finish.act.startup.load = .rejected reason ∧ c.finish.act.startup.mode = .safe := by
        intro c
        obtain ⟨startup, logs⟩ := s.act.rejectLoad_spec s.env reason offset
        exact ⟨logs, c.finish_rejected (congrArg Startup.load startup) (congrArg Startup.mode startup)⟩
      refine ⟨Act.memoryRead_reading attempt, fun misread early => ⟨?_, ?_⟩, fun misread late => ?_,
        fun reason offset correct fails => ?_, fun correct sound => ?_⟩
      · exact exec_configAttemptEnd_retried whole attempt misread early
      · exact Act.memoryRead_reading (Startup.attempt_reading (State.finish_mode start nofun) (State.finish_startup _).load)
      · exact ⟨_, _, exec_configAttemptEnd_exhausted whole attempt misread late, rfl, rejected 1 0⟩
      · exact ⟨_, _, exec_configAttemptEnd_rejected whole attempt correct fails, rfl, rejected reason offset⟩
      · let e := { s.env with cfg := some (readBlock b) }
        let c : State := { s with env := e, act := s.act.acceptLoad e (readBlock b) n }
        obtain ⟨startup, logs, address, gate, slots⟩ : Act.LoadAccepted (readBlock b) n s.act c.act :=
          Act.acceptLoad_accepted ..
        obtain ⟨d, settled, finished⟩ := c.finish_settles
        have listen := State.finish_mode (congrArg Startup.mode startup) nofun
        have kept (i : Slot) := (slots i).trans (settled.slots i)
        refine ⟨c, c.finish, exec_configAttemptEnd_accepted whole attempt correct sound, rfl, logs,
          Act.memoryRead_none (.inl (by rw [listen]; nofun)), rfl,
          c.finish_startup.load.trans (congrArg Startup.load startup), listen,
          c.finish_startup.listenTimer.trans (congrArg Startup.listenTimer startup), ?_⟩
        rw [finished]
        exact ⟨settled.link.address.trans address, fun opened => gate (settled.link.gate opened), (kept .zero).dA,
          (kept .one).dA, (kept .zero).head, (kept .one).head, (kept .zero).p0, (kept .zero).gain, (kept .one).p0,
          (kept .one).gain⟩
    · have run := exec_configAttemptEnd_none (Startup.attempt_none idle) b
      exact ⟨Act.memoryRead_none idle, run, fun quiet => by rw [run, quiet.finish]⟩
  · obtain ⟨l, taken, finished, -⟩ := State.powerOn_finish_eq pins s
    refine ⟨(s.powerOn pins).finish, rfl, ?_⟩
    rw [finished]
    rfl

end Sys2Proof.Machine

namespace Sys2Proof.Machine

/-! ## Start-up Controller: the link reset (R170) -/

/-! ### What a reset leaves (R35, R161) -/

/-- R161: the reading at a reset's end. -/
theorem Act.afterReset_readingTaken (e : Env) (x : Startup) (slots : Pair SlotRec) (address : Option Nat)
    (logs : List LogEntry) : (Act.afterReset e x slots address logs).ice.readingTaken =
      decide (-50 ≤ e.pins.temperature ∧ e.pins.temperature ≤ 100) := by
  unfold Act.afterReset Act.takeReading
  split
  · rename_i fits
    exact (decide_eq_true fits).symm
  · rename_i unfit
    rw [decide_eq_false unfit]
    dsimp only
    split <;> rfl

theorem Breaker.atReset_lastTrip (pins : Pins) : (Breaker.atReset pins).lastTrip = none := by
  unfold Breaker.atReset
  split <;> rfl

/-- R35: behind a breaker found CLOSED the isolators await its opening. -/
theorem switchgearAtReset_closed {pins : Pins} (closed : pins.breakerClosed = true) :
    (Breaker.atReset pins).state = .opening ∧ (Breaker.atReset pins).timer = some 100
    ∧ ∀ i, (Isolator.atReset pins i).state = .opening false ∧ (Isolator.atReset pins i).timer = none := by
  have breaker : Breaker.atReset pins = Breaker.reset := if_pos closed
  have isolator (i : Slot) : Isolator.atReset pins i = Isolator.reset := if_pos closed
  simp only [breaker, isolator]
  exact ⟨rfl, rfl, fun _ => ⟨rfl, rfl⟩⟩

/-- R35: behind a breaker found OPEN the isolators are opened, or driven until their contacts show it. -/
theorem switchgearAtReset_open {pins : Pins} (opened : pins.breakerClosed = false) :
    (Breaker.atReset pins).state = .opened ∧ (Breaker.atReset pins).timer = none
    ∧ ∀ i, if pins.isolators.get i = .opened then
        (Isolator.atReset pins i).state = .opened ∧ (Isolator.atReset pins i).timer = none
      else (Isolator.atReset pins i).state = .opening true ∧ (Isolator.atReset pins i).timer = some 300 := by
  have breaker : Breaker.atReset pins = { Breaker.reset with state := .opened, timer := none } :=
    if_neg (by simp [opened])
  have isolator (i : Slot) : Isolator.atReset pins i = Isolator.reset.driven (pins.isolators.get i) :=
    if_neg (by simp [opened])
  rw [breaker]
  refine ⟨rfl, rfl, fun i => ?_⟩
  rw [isolator]
  split
  · rename_i shown
    rw [Isolator.driven_shown shown]
    exact ⟨rfl, rfl⟩
  · rename_i travels
    rw [Isolator.driven_travels travels]
    exact ⟨rfl, rfl⟩

/-! ### The event of a link reset -/

/-- R170: the Start-up Controller after a link reset. -/
def Startup.afterLinkReset (x : Startup) : Startup :=
  { mode := .listen, load := x.load, listenTimer := some 500, joinTimer := none, pendingClose := false, armedBy := none
    armingTimer := none }

/-- R170: the inputs with the reading at the reset's end. -/
def State.pinsReading (t : Int) (s : State) : Pins := { s.env.pins with temperature := t }

/-- R35, R55, R74, R110, R122, R146, R161, R170: the part after a link reset. -/
theorem State.linkReset_finish_eq (src : Nat) (t : Int) (s : State) : ∃ es, (s.linkReset src t).finish =
    { s with
      env := { s.env with pins := s.pinsReading t, cls := Classifier.reset, pv := PeerView.reset s.env.now }
      act :=
        { selector := { state := selectorAtReset s.env.pins.selector, timer := none, waiters := [] }
          isolators := ⟨Isolator.atReset (s.pinsReading t) .zero, Isolator.atReset (s.pinsReading t) .one⟩
          breaker := Breaker.atReset (s.pinsReading t), test := RoofTest.reset
          slots := slotsAtReset (s.pinsReading t) ⟨s.act.slots.zero.latch, s.act.slots.one.latch⟩ s.act.slots
          preferred := none, link := Link.reset s.act.link.address, bids := BidUnit.reset
          notices := NoticeQueue.reset, seq := Sequencer.reset
          ice :=
            { IceUnit.reset with
              lastTemp := if -50 ≤ t ∧ t ≤ 100 then some t else none
              readingTaken := decide (-50 ≤ t ∧ t ≤ 100) }
          startup := s.act.startup.afterLinkReset, inbox := Inbox.empty, logs := [] }
      ring := s.ring.writeAll s.env.now
        (s.act.logs ++ s.act.entry .reset src (n16 src) (n32 s.act.startup.mode.code) :: es)
      port := Port.reset }
    ∧ ((Switches.closedAt s.env.pins.selector).length ≤ 1 → es = []) := by
  let e := (s.linkReset src t).env
  obtain ⟨es, taken, left, silent⟩ := Act.afterReset_eq e s.act.startup.afterLinkReset
    (slotsAtReset e.pins ⟨s.act.slots.zero.latch, s.act.slots.one.latch⟩ s.act.slots) s.act.link.address
    (s.act.log .reset src (n16 src) (n32 s.act.startup.mode.code)).logs
  have act : (s.linkReset src t).act = _ := left
  have reading : taken = decide (-50 ≤ t ∧ t ≤ 100) :=
    (congrArg (·.ice.readingTaken) left).symm.trans (Act.afterReset_readingTaken ..)
  have settled : (s.linkReset src t).act.settle e settleFuel = { (s.linkReset src t).act with inbox := Inbox.empty } :=
    Act.settle_atReset (pins := e.pins) (by rw [act]) (.inl rfl) 255
  refine ⟨es, ?_, silent⟩
  unfold State.finish
  dsimp only
  rw [settled, act, reading, Act.log_entry, List.append_assoc]
  rfl

/-- R84, R170: the RESET that the arming cab sends the station. -/
theorem exec_reset_armed {s : State} {own : Nat} {dst src : Byte} (admitted : s.Admits own .reset dst src)
    (station : dst.toNat = own) (numbered : own ≠ 0) (armed : s.act.startup.armedBy = some src.toNat) (mask : Byte)
    (arg : Half) (t : Int) : exec (.reset dst src mask arg t) s = .next (s.linkReset src.toNat t).finish := by
  have received : s.receive dst src (.order .reset mask arg) t = s.acceptOrder dst.toNat src.toNat .reset mask t :=
    State.receive_heard admitted.hears rfl t
  have ordered : s.orderAdmitted .reset dst.toNat src.toNat = true := by
    have here := (State.addressed_iff admitted.hears.address dst.toNat).mpr admitted.addressed
    have source : s.env.pv.authority = some src.toNat := admitted.source
    simp [State.orderAdmitted, here, State.orderSource, State.fromAuthority, source]
  have obeyed : s.acceptOrder dst.toNat src.toNat .reset mask t = s.linkReset src.toNat t := by
    unfold State.acceptOrder State.resetOrder
    dsimp only
    rw [if_pos ⟨.inr rfl, ordered⟩, if_neg nofun, if_neg (station ▸ numbered), if_pos armed]
  exact congrArg (fun u => Host.Outcome.next (State.finish u)) (received.trans obeyed)

/-- Settles O8. -/
theorem armedResetIsALinkReset : Obligations.ArmedResetIsALinkReset := by
  intro s own dst src mask arg temp admitted station numbered armed shown
  obtain ⟨es, finished, silent⟩ := s.linkReset_finish_eq src.toNat temp
  refine ⟨(s.linkReset src.toNat temp).finish, es, exec_reset_armed admitted station numbered armed mask arg temp, ?_⟩
  rw [finished]
  have isolators (i : Slot) {pins : Pins} :
      Pair.get ⟨Isolator.atReset pins .zero, Isolator.atReset pins .one⟩ i = Isolator.atReset pins i := by cases i <;> rfl
  refine ⟨rfl, rfl, rfl, rfl, rfl, rfl, rfl, fun i => by cases i <;> rfl, rfl, rfl, admitted.hears.address, rfl, rfl, rfl,
    rfl, rfl, rfl, rfl, rfl, rfl, rfl, rfl, rfl, rfl, rfl, rfl, rfl, rfl, rfl, selectorAtReset_none,
    fun p => selectorAtReset_one, (selectorAtReset_fault_iff _).mpr, Breaker.atReset_lastTrip _, fun closed => ?_,
    fun opened => ?_, rfl, rfl, rfl, rfl, silent, rfl⟩
  · simp only [isolators]
    exact switchgearAtReset_closed closed
  · simp only [isolators]
    exact switchgearAtReset_open opened

end Sys2Proof.Machine

namespace Sys2Proof.Machine

/-! ## Start-up Controller: the arming record (R169) -/

/-! ### What leaves the arming record -/

/-- R169: `b` has the arming record of `a`. -/
structure Act.KeepsArming (a b : Act) : Prop where
  cab : b.startup.armedBy = a.startup.armedBy
  timer : b.startup.armingTimer = a.startup.armingTimer

namespace Act.KeepsArming

variable {a b c : Act} {e : Env}

theorem refl (a : Act) : Act.KeepsArming a a := ⟨rfl, rfl⟩

theorem trans (h : Act.KeepsArming a b) (k : Act.KeepsArming b c) : Act.KeepsArming a c :=
  ⟨k.cab.trans h.cab, k.timer.trans h.timer⟩

/-- A write beside the Start-up Controller. -/
theorem same (h : Act.KeepsArming a b) (k : c.startup = b.startup := by rfl) : Act.KeepsArming a c :=
  h.trans ⟨by rw [k], by rw [k]⟩

/-- No reaction writes the arming record. -/
theorem settles (k : Act.Settles e b c) (h : Act.KeepsArming a b) : Act.KeepsArming a c :=
  h.trans ⟨k.startup.armedBy, k.startup.armingTimer⟩

theorem ite {p : Prop} [Decidable p] (h : Act.KeepsArming a b) (k : Act.KeepsArming a c) :
    Act.KeepsArming a (if p then b else c) := by split <;> assumption

theorem log {k : EventCode} {x : Nat} {d : Half} {y : Word} (h : Act.KeepsArming a b) :
    Act.KeepsArming a (b.log k x d y) := h.same

theorem push {r : Report} (h : Act.KeepsArming a b) : Act.KeepsArming a (b.push r) := h.same (Act.push_startup ..)

theorem updateSlot {i : Slot} {f : SlotRec → SlotRec} (h : Act.KeepsArming a b) : Act.KeepsArming a (b.updateSlot i f) :=
  h.same (Act.push_startup ..)

theorem lower {i : Slot} {w : List Requester} (h : Act.KeepsArming a b) : Act.KeepsArming a (b.lower e i w) :=
  h.settles ((Act.Settles.refl (e := e) b).lower)

theorem recomputeProfile (h : Act.KeepsArming a b) : Act.KeepsArming a (b.recomputeProfile e) :=
  h.settles (Act.Settles.refl b).recomputeProfile

/-! ### Orders (R34, R47 to R50, R144, R167, R168) -/

theorem lockSlot {src : Nat} {i : Slot} (h : Act.KeepsArming a b) : Act.KeepsArming a (b.lockSlot e src i) := by
  have locked : Act.KeepsArming a (if (b.slots.get i).locked then b
      else (b.updateSlot i fun r => { r with locked := true }).log .slotLock i.code 1 (n32 src)) := h.ite h.updateSlot.log
  unfold Act.lockSlot
  dsimp only
  split
  · exact locked.lower
  · exact locked.lower
  · exact locked
  · exact locked
  · exact locked

theorem clearSlot {i : Slot} (h : Act.KeepsArming a b) : Act.KeepsArming a (b.clearSlot e i) := by
  unfold Act.clearSlot
  dsimp only
  split
  · exact h.updateSlot.log.ite h
  · exact h.updateSlot.log.ite h
  · exact h
  · exact h
  · exact h

theorem onMask {mask : Byte} {f : Slot → Act → Act} (k : ∀ i x, Act.KeepsArming a x → Act.KeepsArming a (f i x))
    (h : Act.KeepsArming a b) : Act.KeepsArming a (b.onMask mask f) := by
  have first : Act.KeepsArming a (if maskNames mask .zero then f .zero b else b) := (k _ _ h).ite h
  exact (k _ _ first).ite first

theorem clearSwitchgear (h : Act.KeepsArming a b) : Act.KeepsArming a (b.clearSwitchgear e) := by
  have selector : Act.KeepsArming a b.clearSelector := h.same (by rw [Act.clearSelector_frame])
  have isolators : Act.KeepsArming a (b.clearIsolators e) := selector.same (by rw [(b.clearIsolators_opens e).frame])
  have breaker : Act.KeepsArming a ((b.clearIsolators e).clearBreaker e) :=
    Act.KeepsArming.ite (isolators.same.push) isolators
  rw [Act.clearSwitchgear_eq]
  exact breaker.ite breaker.log

theorem resumeOrder {src : Nat} (h : Act.KeepsArming a b) : Act.KeepsArming a (b.resumeOrder e src) := by
  unfold Act.resumeOrder
  split
  · exact h.log
  · dsimp only
    split
    · exact h.same.settles (Act.Settles.refl _).enterSensing
    · exact h.same.settles (Act.Settles.refl _).enterPrepare

theorem setMode {m : Mode} (h : Act.KeepsArming a b) : Act.KeepsArming a (b.setMode e m) := by
  refine h.trans ?_
  constructor <;> rw [Act.setMode_startup]

theorem muteOrder {dst src : Nat} (h : Act.KeepsArming a b) : Act.KeepsArming a (b.muteOrder e dst src) := by
  have muting := h.setMode (e := e) (m := .muting)
  unfold Act.muteOrder
  refine h.log.ite ?_
  split
  · exact Act.KeepsArming.push ⟨muting.cab, muting.timer⟩
  · exact Act.KeepsArming.push ⟨muting.cab, muting.timer⟩
  · exact h
  · exact h
  · exact h.log
  · exact h.log
  · exact h.log

theorem unmuteOrder {dst src : Nat} (h : Act.KeepsArming a b) : Act.KeepsArming a (b.unmuteOrder e dst src) := by
  let joined := (b.setMode e .join).cancelClose
  have join : Act.KeepsArming a joined := ⟨h.setMode.cab, h.setMode.timer⟩
  have gate : Act.KeepsArming a
      (if joined.link.gateOpen then (joined.offerStateRoof .other e).2 else joined.openGate e) :=
    (join.settles (Act.Settles.refl (e := e) joined).offerStateRoof).ite (join.same (joined.openGate_appends e).2)
  unfold Act.unmuteOrder
  refine h.log.ite ?_
  split
  · exact ⟨gate.cab, gate.timer⟩
  · exact ⟨gate.cab, gate.timer⟩
  · exact h.log
  · exact h.log
  · exact h.log
  · exact h.log
  · exact h.log

/-! ### Notices (R112 to R116), ice level and controls (R85, R102, R119, R151, R153) -/

theorem insertNotice {n : Notice} {late : Bool} {rest : List HeldNotice} (h : Act.KeepsArming a b) :
    Act.KeepsArming a (b.insertNotice n late rest) := h.same (Act.push_startup ..)

theorem admitNotice {n : Notice} {late : Bool} (h : Act.KeepsArming a b) : Act.KeepsArming a (b.admitNotice n late) := by
  unfold Act.admitNotice
  refine h.log.ite (h.insertNotice.ite ?_)
  split
  · exact h.log.insertNotice.ite h.log
  · exact h.insertNotice

theorem routeTaken {n : Notice} (h : Act.KeepsArming a b) : Act.KeepsArming a (b.routeTaken e n) := by
  unfold Act.routeTaken
  split
  · exact h.log
  · exact h.log.ite h.admitNotice

theorem cancelTaken {id : Byte} (h : Act.KeepsArming a b) : Act.KeepsArming a (b.cancelTaken id) := by
  unfold Act.cancelTaken
  split
  · exact h.log
  · exact h.log.ite (h.same (Act.push_startup ..))

theorem setLevel {m n : Nat} (h : Act.KeepsArming a b) : Act.KeepsArming a (b.setLevel e m n) := by
  have changed := ((h.same (c := b.setIce { b.ice with level := m })).log (k := .iceLevel) (x := 255)
    (d := n16 (bytes2 m b.ice.level)) (y := n32 (halves2 n b.ice.trainRate))).settles
      ((Act.Settles.refl (e := e) _).recompute.iceDue.evalDue)
  exact h.ite ((changed.settles (Act.Settles.refl (e := e) _).retractScrapers).ite changed)

theorem iceModeChanged (h : Act.KeepsArming a b) : Act.KeepsArming a (b.iceModeChanged e) := by
  unfold Act.iceModeChanged Act.reforce
  split
  · exact h.same
  · exact h.ite h.same.setLevel

theorem peerDropped (h : Act.KeepsArming a b) : Act.KeepsArming a (b.peerDropped e) := h.same.setLevel.ite h

theorem controlsChanged {old : PeerView} (h : Act.KeepsArming a b) : Act.KeepsArming a (b.controlsChanged old e) := by
  have follows {x : Act} (k : Act.KeepsArming a x) : Act.KeepsArming a (x.controlsFollow old e) := by
    have profiled := (k.recomputeProfile (e := e)).same (c := (x.recomputeProfile e).evalDue)
    exact (profiled.ite k).ite (profiled.ite k).iceModeChanged
  rw [Act.controlsChanged_eq]
  exact follows (h.push.same.ite h)

theorem cabTaken (h : Act.KeepsArming a b) : Act.KeepsArming a (b.cabTaken e) := by
  have computed := h.settles (Act.Settles.refl (e := e) b).recompute
  exact (computed.same (by rw [Act.reviewNotices_frame])).push

theorem bidDelivered {src : Nat} {x : BidPayload} (h : Act.KeepsArming a b) :
    Act.KeepsArming a (b.bidDelivered e src x) := by
  unfold Act.bidDelivered
  dsimp only
  split
  · exact (h.same.settles (Act.Settles.refl (e := e) b.evalDue).cede).ite h.same
  · exact h.same

end Act.KeepsArming

/-! ### Delivery leaves the arming record -/

/-- R72, R84: a frame handed to its blocks, after its report for arming. -/
def State.deliver (dst src : Nat) (f : Frame) (s : State) : State :=
  match f with
  | .order v mask _ => s.whenAdmitted dst src 8 v.code (s.orderSource v src) fun s => s.obey dst src v mask
  | .stateRoof p => s.stateHeard src (.roof p)
  | .stateCab p => s.stateHeard src (.cab p)
  | .bid b => s.bidHeard src b
  | .cede n => s.cedeHeard src n
  | .alert x => s.alertHeard src x
  | .route n => s.whenAdmitted dst src 6 0 (s.fromAuthority src) fun s => s.onAct fun e a => a.routeTaken e n
  | .cancel id => s.whenAdmitted dst src 7 0 (s.fromAuthority src) fun s => s.onAct fun _ a => a.cancelTaken id

/-- R169: no order that is admitted to arm or to reset. -/
def State.Delivers (dst src : Nat) (f : Frame) (s : State) : Prop :=
  ∀ v mask arg, f = .order v mask arg → v = .resetArm ∨ v = .reset → ¬ s.orderAdmitted v dst src = true

/-- R169: such a frame is reported for arming and then delivered. -/
theorem State.accept_delivers {s : State} {dst src : Nat} {f : Frame} (h : s.Delivers dst src f) (t : Int) :
    s.accept dst src f t = (s.reportArming dst src).deliver dst src f := by
  cases f with
  | order v mask arg => exact if_neg fun resets => h v mask arg rfl resets.1 resets.2
  | stateRoof | stateCab | bid | cede | alert | route | cancel => rfl

section
variable {dst src : Nat} {s : State}

theorem State.whenAdmitted_arming {k : State → State} (h : ∀ u, Act.KeepsArming u.act (k u).act) (kind verb : Nat)
    (source : Bool) (s : State) : Act.KeepsArming s.act (s.whenAdmitted dst src kind verb source k).act := by
  unfold State.whenAdmitted
  split
  · exact .refl _
  · split
    · exact h s
    · exact (Act.KeepsArming.refl _).log

theorem State.obey_arming (v : Verb) (mask : Byte) (s : State) : Act.KeepsArming s.act (s.obey dst src v mask).act := by
  have same := Act.KeepsArming.refl s.act
  cases v with
  | lock =>
    have locked := same.onMask (mask := mask) (f := fun i a => a.lockSlot s.env src i) fun _ _ k => k.lockSlot
    exact locked.push.ite locked
  | unlock => exact same.onMask fun _ _ k => k.updateSlot.log.ite k
  | clearFault => exact (same.onMask fun _ _ k => k.clearSlot).ite same.clearSwitchgear
  | prefer =>
    have preferred : (s.act.preferOrder src mask).startup = s.act.startup := by rw [Act.preferOrder_frame]
    exact same.same preferred
  | resume => exact same.resumeOrder
  | mute => exact same.muteOrder
  | unmute => exact same.unmuteOrder
  | resetArm | reset => exact same

theorem State.stateHeard_arming (x : StatePayload) (s : State) : Act.KeepsArming s.act (s.stateHeard src x).act := by
  have placed : Act.KeepsArming s.act (s.placePeer src x).act := by
    have stored : Act.KeepsArming s.act (s.storePeer src x).act :=
      (Act.KeepsArming.refl _).same (by rw [(s.storePeer_stored src x).act])
    unfold State.placePeer
    split
    · exact stored.same (by rw [State.reauthorize_eq])
    · exact stored
  cases x with
  | roof p => exact placed.controlsChanged
  | cab c =>
    rw [State.stateHeard_placed_cab]
    dsimp only
    split
    · have taken := ((s.placePeer src (.cab c)).takeGeometry_taken c).2
      exact (placed.same (by rw [taken.frame])).controlsChanged.cabTaken
    · exact placed.controlsChanged

theorem State.updatePeer_arming (f : Peer → Peer) (s : State) : Act.KeepsArming s.act (s.updatePeer src f).act := by
  have same := Act.KeepsArming.refl s.act
  unfold State.updatePeer
  split
  · exact same
  · dsimp only
    split
    · exact same.same
    · exact same

theorem State.alertHeard_arming (x : Alert) (s : State) : Act.KeepsArming s.act (s.alertHeard src x).act := by
  have kept : Act.KeepsArming s.act (s.keepAlert src x).act := by
    unfold State.keepAlert
    split <;> exact .refl s.act
  unfold State.alertHeard
  dsimp only
  split
  · exact kept.peerDropped
  · exact kept

/-- R169: what a frame brings about in the blocks leaves the arming record. -/
theorem State.deliver_arming (f : Frame) (s : State) : Act.KeepsArming s.act (s.deliver dst src f).act := by
  cases f with
  | order v mask => exact State.whenAdmitted_arming (fun u => u.obey_arming v mask) ..
  | stateRoof p => exact s.stateHeard_arming (.roof p)
  | stateCab c => exact s.stateHeard_arming (.cab c)
  | bid b => exact (s.updatePeer_arming _).bidDelivered
  | cede n => exact (s.updatePeer_arming _).same
  | alert x => exact s.alertHeard_arming x
  | route n => exact State.whenAdmitted_arming (fun u => (Act.KeepsArming.refl u.act).routeTaken) ..
  | cancel id => exact State.whenAdmitted_arming (fun u => (Act.KeepsArming.refl u.act).cancelTaken) ..

end

theorem State.finish_arming (s : State) : Act.KeepsArming s.act s.finish.act :=
  ⟨s.finish_startup.armedBy, s.finish_startup.armingTimer⟩

/-! ### The report of a frame for arming -/

section
variable {s : State} {dst src own : Nat}

/-- R169: the record as a disarming leaves it, with RESET_DISARMED. -/
theorem Act.disarm_armed {a : Act} {c : Nat} (armed : a.startup.armedBy = some c) (why : Nat) : a.disarm why =
    { a with
      startup := { a.startup with armedBy := none, armingTimer := none }
      logs := a.logs ++ [a.entry .resetDisarmed c (n16 why) 0] } := by
  unfold Act.disarm
  rw [armed]
  rfl

/-- R169: frames of other sources and frames to other nodes are no matter of the record. -/
theorem State.reportArming_aside (address : s.act.link.address = some own)
    (h : s.act.startup.armedBy = some src → ¬ (dst = 0 ∨ dst = own)) : s.reportArming dst src = s := by
  have station : s.act.station = own := by simp [Act.station, address]
  have aside : s.act.armingFrame dst src = s.act := if_neg fun ⟨armed, here⟩ => h armed (station ▸ here)
  unfold State.reportArming State.onAct
  dsimp only
  rw [aside]

/-- R169: a frame of the arming cab disarms the record. -/
theorem State.reportArming_armed (address : s.act.link.address = some own) (armed : s.act.startup.armedBy = some src)
    (here : dst = 0 ∨ dst = own) : s.reportArming dst src = { s with act := s.act.disarm 1 } := by
  have station : s.act.station = own := by simp [Act.station, address]
  have disarms : s.act.armingFrame dst src = s.act.disarm 1 := if_pos ⟨armed, station.symm ▸ here⟩
  unfold State.reportArming State.onAct
  dsimp only
  rw [disarms]

/-- R84: RESET_ARM and RESET are admitted from the authority only, and to all or to the station only. -/
theorem State.delivers_of {f : Frame} (address : s.act.link.address = some own)
    (h : ∀ v mask arg, f = .order v mask arg → v = .resetArm ∨ v = .reset →
      s.env.pv.authority ≠ some src ∨ ¬ (dst = 0 ∨ dst = own)) : s.Delivers dst src f := by
  intro v mask arg order resets admitted
  obtain ⟨here, source⟩ := (Bool.and_eq_true _ _).mp admitted
  have authority : s.env.pv.authority = some src := by
    rcases resets with rfl | rfl <;> simpa [State.orderSource, State.fromAuthority] using source
  exact (h v mask arg order resets).elim (· authority) (· ((State.addressed_iff address dst).mp here))

end

/-! ### Commands that carry a frame -/

/-- R72: the command is the frame's arrival; `t` is read by RESET only. -/
def CommandCarries (dst src : Byte) (f : Frame) (c : Instr) : Prop :=
  ∃ t : Env → Int, ∀ s, exec c s = .next (s.receive dst src f (t s.env)).finish

theorem orderCommand_carries (v : Verb) (dst src mask : Byte) (arg : Half) (temp : Int) :
    CommandCarries dst src (.order v mask arg) (orderCommand v dst src mask arg temp) := by
  cases v with
  | reset => exact ⟨fun _ => temp, fun _ => rfl⟩
  | lock | unlock | clearFault | prefer | resume | resetArm | mute | unmute =>
    exact ⟨fun e => e.pins.temperature, fun _ => rfl⟩

/-- What holds of every command that carries a frame of a good form, orders being of the verbs `ok`. -/
theorem forall_frame_commands {dst src mask : Byte} {arg : Half} {temp : Int} {ok : Verb → Prop} {holds : Instr → Prop}
    (clears : ok .clearFault)
    (h : ∀ f c, frameValid f = true → (∀ v m x, f = .order v m x → ok v) → CommandCarries dst src f c → holds c) :
    (∀ p, frameValid (.stateRoof p) = true → holds (.stateRoof dst src p))
    ∧ (∀ p, holds (.stateCab dst src p))
    ∧ (∀ b, frameValid (.bid b) = true → holds (.bid dst src b))
    ∧ (∀ n, holds (.cede dst src n))
    ∧ (∀ x : Alert, x.slotFits = true → holds (.alert dst src x))
    ∧ (∀ n : Notice, n.id ≠ 0 → holds (.route dst src n) ∧ holds (.cancel dst src n.id))
    ∧ holds (.clearFaultSwitchgear dst src mask arg)
    ∧ ∀ v, ok v → holds (orderCommand v dst src mask arg temp) := by
  have order {v : Verb} (k : ok v) : ∀ w m x, Frame.order v mask arg = .order w m x → ok w := fun w m x same => by
    cases same
    exact k
  have carries {c : Instr} {f : Frame}
      (run : ∀ s, exec c s = .next (s.receive dst src f s.env.pins.temperature).finish) : CommandCarries dst src f c :=
    ⟨fun e => e.pins.temperature, run⟩
  refine ⟨fun p valid => h (.stateRoof p) _ valid nofun (carries fun _ => rfl),
    fun p => h (.stateCab p) _ rfl nofun (carries fun _ => rfl),
    fun b valid => h (.bid b) _ valid nofun (carries fun _ => rfl),
    fun n => h (.cede n) _ rfl nofun (carries fun _ => rfl),
    fun x fits => h (.alert x) _ fits nofun (carries fun _ => rfl), fun n named => ?_,
    h (.order .clearFault mask arg) _ rfl (order clears) (carries fun _ => rfl),
    fun v k => h (.order v mask arg) _ rfl (order k) (orderCommand_carries v dst src mask arg temp)⟩
  have valid : (n.id != 0) = true := by simpa using named
  exact ⟨h (.route n) _ valid nofun (carries fun _ => rfl), h (.cancel n.id) _ valid nofun (carries fun _ => rfl)⟩

section
variable {s : State} {own : Nat} {dst src : Byte} {f : Frame} {c : Instr}

/-- R72, R169: a frame that is heard, and neither arms nor resets by right. -/
theorem exec_delivers (hears : s.Hears own dst src) (valid : frameValid f = true) (carries : CommandCarries dst src f c)
    (delivers : s.Delivers dst.toNat src.toNat f) :
    exec c s = .next ((s.reportArming dst.toNat src.toNat).deliver dst.toNat src.toNat f).finish := by
  obtain ⟨t, run⟩ := carries
  rw [run, State.receive_heard hears valid, State.accept_delivers delivers]

/-- R169: such a frame, where its report is no matter of the record, leaves the record. -/
theorem exec_delivers_leaves (hears : s.Hears own dst src) (valid : frameValid f = true)
    (carries : CommandCarries dst src f c) (delivers : s.Delivers dst.toNat src.toNat f)
    (aside : s.reportArming dst.toNat src.toNat = s) : ∃ t, exec c s = .next t
      ∧ t.act.startup.armedBy = s.act.startup.armedBy ∧ t.act.startup.armingTimer = s.act.startup.armingTimer := by
  have run := exec_delivers hears valid carries delivers
  rw [aside] at run
  obtain ⟨cab, timer⟩ := (s.deliver_arming f).trans (State.finish_arming _)
  exact ⟨_, run, cab, timer⟩

/-- R84, R169: an admitted RESET_ARM or RESET. -/
theorem exec_arms_or_resets {v : Verb} (resets : v = .resetArm ∨ v = .reset) (admitted : s.Admits own v dst src)
    (mask : Byte) (arg : Half) (temp : Int) : exec (orderCommand v dst src mask arg temp) s = .next (State.finish
      (if v = .resetArm then s.armOrder dst.toNat src.toNat else s.resetOrder dst.toNat src.toNat temp)) := by
  have ordered : s.orderAdmitted v dst.toNat src.toNat = true := by
    have here := (State.addressed_iff admitted.hears.address dst.toNat).mpr admitted.addressed
    have source := admitted.source
    rcases resets with rfl | rfl <;> simpa [State.orderAdmitted, here, State.orderSource, State.fromAuthority] using source
  have received (m : Byte) (t : Int) : s.receive dst src (.order v m arg) t =
      if v = .resetArm then s.armOrder dst.toNat src.toNat else s.resetOrder dst.toNat src.toNat t :=
    (State.receive_heard admitted.hears rfl t).trans (if_pos ⟨resets, ordered⟩)
  rcases resets with rfl | rfl
  · exact congrArg (fun u => Host.Outcome.next (State.finish u)) (received ..)
  · exact congrArg (fun u => Host.Outcome.next (State.finish u)) (received ..)

/-- R169: with destination 0 both end the record that stands. -/
theorem exec_arms_or_resets_all {v : Verb} (resets : v = .resetArm ∨ v = .reset) (admitted : s.Admits own v dst src)
    (all : dst.toNat = 0) (mask : Byte) (arg : Half) (temp : Int) : exec (orderCommand v dst src mask arg temp) s =
      .next (State.finish { s with act := s.act.armingForAll src.toNat v }) := by
  rw [exec_arms_or_resets resets admitted]
  unfold State.armOrder State.resetOrder
  rcases resets with rfl | rfl
  · rw [if_pos rfl, if_pos all]
    rfl
  · rw [if_neg nofun, if_pos all]
    rfl

end

/-! ### The arming record -/

/-- Settles O30. -/
theorem armingRecord : Obligations.ArmingRecord := by
  intro s own dst src mask arg temp numbered a ignored disarmed addressed frames leaves
  have disarms {x : Act} {c : Nat} (armed : x.startup.armedBy = some c) (why : Nat) : x.disarm why = disarmed c why x :=
    Act.disarm_armed armed why
  refine ⟨fun admitted station => ?_, fun v resets admitted all => ⟨fun idle => ?_, fun c armed => ?_⟩,
    fun admitted station stranger => ?_, fun hears armed here => ?_, fun hears armed away => ?_,
    fun hears other => ?_, fun n c timer armed => ?_⟩
  · rw [show Instr.resetArm dst src mask arg = orderCommand .resetArm dst src mask arg temp from rfl,
      exec_arms_or_resets (.inl rfl) admitted, if_pos rfl]
    unfold State.armOrder
    rw [if_neg (station ▸ numbered)]
    rfl
  · have ignores : s.act.armingForAll src.toNat v = (ignored v 1).act := if_neg fun k => by
      rw [show s.act.startup.armedBy = none from idle] at k
      cases k
    rw [exec_arms_or_resets_all resets admitted all, ignores]
  · have some : s.act.startup.armedBy.isSome = true := by
      rw [show s.act.startup.armedBy = _ from armed]
      rfl
    have ends : s.act.armingForAll src.toNat v = disarmed c 1 s.act := (if_pos some).trans (disarms armed 1)
    rw [exec_arms_or_resets_all resets admitted all, ends]
  · rw [show Instr.reset dst src mask arg temp = orderCommand .reset dst src mask arg temp from rfl,
      exec_arms_or_resets (.inr rfl) admitted, if_neg nofun]
    unfold State.resetOrder
    rw [if_neg (station ▸ numbered), if_neg stranger]
    rfl
  · intro left
    have reported : s.reportArming dst.toNat src.toNat = left := by
      rw [State.reportArming_armed hears.address armed here, disarms armed]
    have unarmed : left.Unarmed := rfl
    have same : left.Hears own dst src := ⟨hears.listening, hears.address, hears.source, hears.destination, hears.other⟩
    refine ⟨unarmed, forall_frame_commands (ok := fun v => v = .resetArm ∨ v = .reset → s.env.pv.authority ≠ some src.toNat)
      (holds := fun c => exec c s = exec c left ∧ ∃ t, exec c s = .next t ∧ t.act.startup.armedBy = none)
      (fun resets => resets.elim nofun nofun) fun f c valid verbs carries => ?_⟩
    have delivers : s.Delivers dst.toNat src.toNat f :=
      State.delivers_of hears.address fun v m x order resets => .inl (verbs v m x order resets)
    have delivered : left.Delivers dst.toNat src.toNat f :=
      State.delivers_of same.address fun v m x order resets => .inl (verbs v m x order resets)
    obtain ⟨t, run, cab, -⟩ := exec_delivers_leaves same valid carries delivered (State.reportArming_unarmed unarmed ..)
    have both : exec c s = exec c left := by
      rw [exec_delivers hears valid carries delivers, exec_delivers same valid carries delivered, reported,
        State.reportArming_unarmed unarmed]
    exact ⟨both, t, both.trans run, cab⟩
  · exact forall_frame_commands (ok := fun _ => True) (holds := leaves) trivial fun f c valid _ carries =>
      exec_delivers_leaves hears valid carries (State.delivers_of hears.address fun _ _ _ _ _ => .inr away)
        (State.reportArming_aside hears.address fun _ => away)
  · exact forall_frame_commands
      (ok := fun v => v = .resetArm ∨ v = .reset → s.env.pv.authority ≠ some src.toNat ∨ ¬ addressed)
      (holds := leaves) (fun resets => resets.elim nofun nofun) fun f c valid verbs carries =>
      exec_delivers_leaves hears valid carries (State.delivers_of hears.address verbs)
        (State.reportArming_aside hears.address fun armed => absurd armed other)
  · have ends := disarms (x := s.act.elapse n) armed 2
    show Host.Outcome.next (s.onExpiry s.act.startup.armingTimer _).finish = _
    rw [show s.act.startup.armingTimer = some n from timer]
    exact congrArg (fun x => Host.Outcome.next (State.finish { s.elapse n with act := x })) ends

end Sys2Proof.Machine

namespace Sys2Proof.Machine

/-! ## MUTE and UNMUTE (R167, R168) -/

/-! ### A lower request, slot by slot (R43) -/

section
variable (e : Env) (i : Slot) (w : List Requester) (a : Act)

/-- R43: the other slot keeps all but its setpoints. -/
theorem Act.lower_other : ((a.lower e i w).slots.get i.other).bare = (a.slots.get i.other).bare := by
  cases lift : (a.slots.get i).lift with
  | down => rw [Act.lower_met (.inl lift), (Act.answerAll_reports ..).frame]
  | dropped => rw [Act.lower_met (.inr lift), (Act.answerAll_reports ..).frame]
  | lowering p => rw [Act.lower_joined lift, Act.setSlot_slots, Pair.get_set, if_neg (Slot.other_ne i)]
  | rising | up =>
    rw [Act.lower_raised (by simp [SlotRec.Raised, lift])]
    obtain ⟨x, ⟨-, other⟩, -⟩ := a.startDown_moves e i w
    exact other

/-- R43: a slot on its way down answers whoever asked for it. -/
theorem Act.lower_waits {p : LoweringPhase} (down : ((a.lower e i w).slots.get i).lift = .lowering p) {y : Requester}
    (m : y ∈ w) : y ∈ ((a.lower e i w).slots.get i).lowerWaiters := by
  have begun {x : SlotRec} (moves : Act.Moves i x a (a.startDown e i w))
      (waits : x.lowerWaiters = (a.slots.get i).lowerWaiters ++ w) :
      y ∈ ((a.startDown e i w).slots.get i).lowerWaiters := by
    have same : ((a.startDown e i w).slots.get i).lowerWaiters = x.lowerWaiters :=
      (congrArg SlotRec.lowerWaiters moves.1 :)
    rw [same, waits]
    exact List.mem_append_right _ m
  cases lift : (a.slots.get i).lift with
  | down =>
    rw [Act.lower_met (.inl lift), (Act.answerAll_reports ..).frame] at down
    cases lift.symm.trans down
  | dropped =>
    rw [Act.lower_met (.inr lift), (Act.answerAll_reports ..).frame] at down
    cases lift.symm.trans down
  | lowering q =>
    rw [Act.lower_joined lift, Act.setSlot_slots, Pair.get_set, if_pos rfl]
    exact List.mem_append_right _ m
  | rising | up =>
    rw [Act.lower_raised (by simp [SlotRec.Raised, lift])] at down ⊢
    by_cases opened : (a.isolators.get i).state = .opened
    · cases housed : e.pins.down.get i with
      | false => exact begun (Act.startDown_travels opened housed w) rfl
      | true =>
        have lands : ((a.startDown e i w).slots.get i).lift = .down :=
          congrArg SlotRec.lift (Act.startDown_housed opened housed w).1.1
        cases lands.symm.trans down
    · exact begun (Act.startDown_awaits opened e w).1 rfl

end

/-- R167: the lower requests of a MUTE. -/
def Act.lowerBoth (e : Env) (a : Act) : Act := (a.lower e .zero [.startup]).lower e .one [.startup]

section
variable (e : Env) (a : Act)

theorem Act.muteSlots_eq : a.muteSlots e = (a.lowerBoth e).mutedTest e := rfl

theorem Act.lowerBoth_startup : (a.lowerBoth e).startup = a.startup :=
  (congrArg Act.startup ((Act.lower_lifts e .zero [.startup] a).lower (e := e) (i := .one) (w := [.startup])).frame :)

theorem Act.lowerBoth_rests (i : Slot) : ¬ ((a.lowerBoth e).slots.get i).Raised := by
  cases i with
  | zero =>
    have second := (Act.Settles.refl (e := e) (a.lower e .zero [.startup])).lower (i := .one) (w := [.startup])
    exact (second.slots .zero).resting (Act.lower_rests _ _ _ _)
  | one => exact Act.lower_rests _ _ _ _

theorem Act.lowerBoth_waits {i : Slot} {p : LoweringPhase} (down : ((a.lowerBoth e).slots.get i).lift = .lowering p) :
    .startup ∈ ((a.lowerBoth e).slots.get i).lowerWaiters := by
  have first := Act.lower_other e .one [.startup] (a.lower e .zero [.startup])
  cases i with
  | zero =>
    have lift : ((a.lower e .zero [.startup]).slots.get .zero).lift = .lowering p :=
      (congrArg SlotRec.lift first).symm.trans down
    have waiters : ((a.lowerBoth e).slots.get .zero).lowerWaiters =
        ((a.lower e .zero [.startup]).slots.get .zero).lowerWaiters := (congrArg SlotRec.lowerWaiters first :)
    rw [waiters]
    exact Act.lower_waits e .zero _ a lift (List.mem_singleton.mpr rfl)
  | one => exact Act.lower_waits e .one _ _ down (List.mem_singleton.mpr rfl)

end

/-! ### An offered STATE_ROOF in the queue (R59, R60) -/

/-- R60: an entry of the queue holds this frame, and answers this requester among others. -/
def Link.Carries (f : Frame) (r : TxRequester) (k : Link) : Prop :=
  ∃ x, (k.head.map TxHead.entry = some x ∨ x ∈ k.waiting) ∧ r ∈ x.requesters ∧ x.frame = f

section
variable {f : Frame} {r : TxRequester} {k : Link}

theorem Link.enqueue_carries : (k.enqueue { frame := f, requesters := [r] }).Carries f r := by
  refine ⟨{ frame := f, requesters := [r] }, ?_, List.mem_singleton.mpr rfl, rfl⟩
  unfold Link.enqueue
  split
  · exact .inl rfl
  · exact .inr (List.mem_append_right _ (List.mem_singleton.mpr rfl))

theorem replaceStateRoof_carries {l m : List TxEntry} (place : replaceStateRoof f r l = some m) :
    ∃ x ∈ m, r ∈ x.requesters ∧ x.frame = f := by
  induction l generalizing m with
  | nil => cases place
  | cons y l ih =>
    unfold replaceStateRoof at place
    split at place
    · cases place
      exact ⟨_, List.mem_cons_self, List.mem_append_right _ (List.mem_singleton.mpr rfl), rfl⟩
    · obtain ⟨n, later, rfl⟩ := Option.map_eq_some_iff.mp place
      obtain ⟨x, among, carries⟩ := ih later
      exact ⟨x, List.mem_cons_of_mem _ among, carries⟩

theorem Link.replaceInPlace_carries {m : Link} (place : k.replaceInPlace f r = some m) : m.Carries f r := by
  unfold Link.replaceInPlace at place
  split at place
  · split at place
    · cases place
      exact ⟨_, .inl rfl, List.mem_append_right _ (List.mem_singleton.mpr rfl), rfl⟩
    · obtain ⟨w, waits, rfl⟩ := Option.map_eq_some_iff.mp place
      obtain ⟨x, among, carries⟩ := replaceStateRoof_carries waits
      exact ⟨x, .inr among, carries⟩
  · cases place

/-- R60: no STATE_ROOF of the queue can be replaced where there is none. -/
theorem Link.replaceInPlace_none (head : ∀ h, k.head = some h → h.entry.isStateRoof = false)
    (waiting : ∀ x ∈ k.waiting, x.isStateRoof = false) : k.replaceInPlace f r = none := by
  cases h : k.head with
  | none => simp only [Link.replaceInPlace, h]
  | some x =>
    have busy : ¬ x.Defers := fun defers => Bool.false_ne_true ((head x h).symm.trans defers.1)
    rw [Link.replaceInPlace_waits h busy, replaceStateRoof_none waiting]
    rfl

variable {a : Act} {e : Env}

/-- R59, R60: behind an OPEN gate a queue with room takes the frame, in place of another or at its tail. -/
theorem Act.offerStateRoof_taken (gate : a.link.gateOpen = true) (room : a.link.length < 8) :
    (a.offerStateRoof r e).1 = true ∧ (a.offerStateRoof r e).2.link.Carries (.stateRoof (a.composeStateRoof e)) r := by
  unfold Act.offerStateRoof
  dsimp only
  rw [if_neg (by simp [gate])]
  split
  · exact ⟨rfl, Link.replaceInPlace_carries ‹_›⟩
  · rw [Act.offerTail, if_neg (by simp [gate]), if_pos room]
    exact ⟨rfl, Link.enqueue_carries⟩

/-- R59: a full queue with no frame to replace refuses the offer. -/
theorem Act.offerStateRoof_refused (gate : a.link.gateOpen = true) (full : 8 ≤ a.link.length)
    (head : ∀ h, a.link.head = some h → h.entry.isStateRoof = false)
    (waiting : ∀ x ∈ a.link.waiting, x.isStateRoof = false) : (a.offerStateRoof r e).1 = false := by
  unfold Act.offerStateRoof
  dsimp only
  rw [if_neg (by simp [gate]), Link.replaceInPlace_none head waiting]
  dsimp only
  rw [Act.offerTail, if_neg (by simp [gate]), if_neg (Nat.not_lt.mpr full)]

theorem Act.offerStateRoof_slots : (a.offerStateRoof r e).2.slots = a.slots := by
  unfold Act.offerStateRoof
  dsimp only
  split
  · rfl
  · split
    · rfl
    · rw [Act.offerTail_frame]

end

/-! ### The closing of the gate (R58, R167) -/

section
variable (a : Act)

theorem Act.answerAllTx_reports (ans : TxAnswer) (l : List TxEntry) :
    Act.Reports a (l.foldl (fun a x => a.answerTx x ans) a) := by
  induction l generalizing a with
  | nil => exact .refl a
  | cons x l ih => exact (Act.answerTx_reports ..).trans (ih _)

/-- R58: the closing writes gate, STATE timer and queue, and answers. -/
theorem Act.closeGate_frame : a.closeGate =
    { a with
      link := { a.link with
        gateOpen := false, stateTimer := none, head := if a.link.headOnTheWire then a.link.head else none, waiting := [] }
      inbox := a.closeGate.inbox } := (Act.answerAllTx_reports ..).frame

@[simp] theorem Act.closeGate_startup : a.closeGate.startup = a.startup := by rw [Act.closeGate_frame]
@[simp] theorem Act.closeGate_slots : a.closeGate.slots = a.slots := by rw [Act.closeGate_frame]

theorem Act.closeGate_closed :
    a.closeGate.link.gateOpen = false ∧ a.closeGate.link.stateTimer = none ∧ a.closeGate.link.waiting = [] := by
  rw [Act.closeGate_frame]
  exact ⟨rfl, rfl, rfl⟩

theorem Act.finalLeft_idle {a : Act} (h : a.startup.pendingClose = false) : a.finalLeft = a := if_neg (by simp [h])

theorem Act.finalLeft_pending {a : Act} (h : a.startup.pendingClose = true) :
    a.finalLeft = (a.setStartup { a.startup with pendingClose := false }).closeGate := if_pos h

end

/-! ### The Bid Unit at a change of mode (R108, R165) -/

section
variable (e : Env) (m : Mode) (a : Act)

theorem Act.bidsEnd_none {a : Act} (none : a.bids.bid = none) : a.bidsEnd e = a := by
  unfold Act.bidsEnd
  rw [none]

theorem Act.offerTail_inbox (f : Frame) (r : TxRequester) : (a.offerTail f r).2.inbox = a.inbox := by
  rw [Act.offerTail_frame]

/-- R102: a bid that is ceded ends in one report. -/
theorem Act.cedeFor_sends (h : HeldBid) (reason : Nat) :
    (a.cedeFor h reason).inbox.reports = (a.push (.outcome h.kind .ceded)).inbox.reports := by
  by_cases phase : h.phase = .offered
  · cases withdrawn : a.link.withdrawBid h.number with
    | some k =>
      rw [Act.cedeFor_withdrawn phase withdrawn]
      simp only [Act.endsBid, Act.evalDue, Act.push_inbox, Act.log]
    | none =>
      rw [Act.cedeFor_owed phase withdrawn]
      simp only [Act.endsBid, Act.evalDue, Act.push_inbox, Act.log]
  · rw [Act.cedeFor_announced phase]
    simp only [Act.endsBid, Act.evalDue, Act.push_inbox, Act.log, Act.offerTail_inbox]

/-- R108: the end of the bids ends at most one bid. -/
theorem Act.bidsEnd_ends : (a.bidsEnd e).slots = a.slots ∧ ((a.bidsEnd e).inbox.reports = a.inbox.reports
    ∨ ∃ k o, (a.bidsEnd e).inbox.reports = (a.push (.outcome k o)).inbox.reports) := by
  cases held : a.bids.bid with
  | none =>
    rw [Act.bidsEnd_none e held]
    exact ⟨rfl, .inl rfl⟩
  | some h =>
    by_cases committed : h.phase = .committed
    · rw [Act.bidsEnd_committed held committed]
      refine ⟨Act.push_slots .., .inr ⟨h.kind, .failed, ?_⟩⟩
      simp only [Act.push_inbox]
    · have own : h.ownPhase = true := by
        rw [HeldBid.ownPhase_iff]
        cases k : h.phase <;> simp_all
      rw [Act.bidsEnd_held held own, Act.cede_held held own]
      exact ⟨(Act.cedeFor_ceded ..).slots, .inr ⟨_, _, Act.cedeFor_sends ..⟩⟩

theorem Act.setMode_slots : (a.setMode e m).slots = a.slots := by
  rw [Act.setMode_eq]
  split
  · exact Act.enterMode_slots ..
  · exact ((a.enterMode m).bidsEnd_ends e).1.trans (Act.enterMode_slots ..)

/-- R165: behind an empty inbox the change of mode is the oldest report, and at most a bid's outcome comes behind it. -/
theorem Act.setMode_sends {a : Act} (empty : a.inbox.reports = []) : ∃ l, (a.setMode e m).inbox.reports = .modeChanged :: l
    ∧ l.length ≤ 1 ∧ ∀ r ∈ l, ∃ k o, r = .outcome k o := by
  have first : (a.enterMode m).inbox.reports = [.modeChanged] := by
    simp only [Act.enterMode, Act.evalDue, Act.push_inbox, Act.log, Act.setStartup, empty]
    rfl
  rw [Act.setMode_eq]
  split
  · exact ⟨[], first, Nat.zero_le 1, nofun⟩
  · obtain ⟨-, same | ⟨k, o, one⟩⟩ := (a.enterMode m).bidsEnd_ends e
    · exact ⟨[], same.trans first, Nat.zero_le 1, nofun⟩
    · refine ⟨[.outcome k o], ?_, Nat.le_refl 1, fun r m => ⟨k, o, List.mem_singleton.mp m⟩⟩
      rw [one, Act.push_inbox]
      simp [first]

theorem Act.setMode_gateOpen : (a.setMode e m).link.gateOpen = a.link.gateOpen :=
  (congrArg Link.gateOpen (a.setMode_link e m) :)

/-- R165: where no bid is held the queue stays. -/
theorem Act.setMode_link_bidless {a : Act} (none : a.bids.bid = none) : (a.setMode e m).link = a.link := by
  rw [Act.setMode_eq, Act.bidsEnd_none e ((congrArg BidUnit.bid (Act.enterMode_bids ..)).trans none), ite_self]
  exact Act.enterMode_link ..

end

/-! ### The test of MUTING (R167) -/

theorem SlotRec.restsDown_iff (r : SlotRec) : r.restsDown = true ↔ r.lift = .down ∨ r.lift = .dropped := by
  simp [SlotRec.restsDown]

/-- R167: both slots are DOWN or DROPPED. -/
def Act.Rests (a : Act) : Prop := ∀ i, (a.slots.get i).lift = .down ∨ (a.slots.get i).lift = .dropped

/-- R167: the offer of the final STATE_ROOF. -/
def Act.offerFinal (e : Env) (a : Act) : Bool × Act := (a.setMode e .muted).offerStateRoof .final e

section
variable {e : Env} {a : Act}

theorem Act.rests_iff : a.Rests ↔ a.slots.zero.restsDown = true ∧ a.slots.one.restsDown = true := by
  rw [SlotRec.restsDown_iff, SlotRec.restsDown_iff]
  exact ⟨fun h => ⟨h .zero, h .one⟩, fun h i => by cases i <;> [exact h.1; exact h.2]⟩

theorem Act.mutedTest_elsewhere (h : a.startup.mode ≠ .muting ∨ ¬ a.Rests) : a.mutedTest e = a := by
  rw [Act.rests_iff] at h
  exact if_neg fun ⟨muting, zero, one⟩ => h.elim (· muting) (· ⟨zero, one⟩)

/-- R167: MUTED, with the close pending on the offer or made at once. -/
theorem Act.mutedTest_muting (muting : a.startup.mode = .muting) (rests : a.Rests) : a.mutedTest e =
    if (a.offerFinal e).1 then
      (a.offerFinal e).2.setStartup { (a.offerFinal e).2.startup with pendingClose := true }
    else (a.offerFinal e).2.closeGate := by
  obtain ⟨zero, one⟩ := Act.rests_iff.mp rests
  have taken : a.mutedTest e = match a.offerFinal e with
      | (true, a) => a.setStartup { a.startup with pendingClose := true }
      | (false, a) => a.closeGate := if_pos ⟨muting, zero, one⟩
  rw [taken]
  rcases a.offerFinal e with ⟨_ | _, b⟩ <;> rfl

theorem Act.offerFinal_startup : (a.offerFinal e).2.startup = { a.startup with mode := .muted } :=
  ((Act.Queues.refl _).offerStateRoof).startup.trans (Act.setMode_startup ..)

theorem Act.offerFinal_gateOpen : (a.offerFinal e).2.link.gateOpen = a.link.gateOpen := by
  have offered : (a.offerFinal e).2.link.gateOpen = (a.setMode e .muted).link.gateOpen :=
    (congrArg Link.gateOpen ((Act.Queues.refl (a.setMode e .muted)).offerStateRoof (r := .final) (e := e)).link :)
  exact offered.trans (Act.setMode_gateOpen ..)

theorem Act.mutedTest_taken (muting : a.startup.mode = .muting) (rests : a.Rests) (taken : (a.offerFinal e).1 = true) :
    a.mutedTest e = (a.offerFinal e).2.setStartup { (a.offerFinal e).2.startup with pendingClose := true } :=
  (Act.mutedTest_muting muting rests).trans (if_pos taken)

theorem Act.mutedTest_refused (muting : a.startup.mode = .muting) (rests : a.Rests) (refused : (a.offerFinal e).1 = false) :
    a.mutedTest e = (a.offerFinal e).2.closeGate :=
  (Act.mutedTest_muting muting rests).trans (if_neg (by simp [refused]))

theorem Act.mutedTest_mode (muting : a.startup.mode = .muting) (rests : a.Rests) :
    (a.mutedTest e).startup.mode = .muted := by
  have mode : (a.offerFinal e).2.startup.mode = .muted := congrArg Startup.mode Act.offerFinal_startup
  rw [Act.mutedTest_muting muting rests]
  split
  · exact mode
  · rw [Act.closeGate_startup]
    exact mode

theorem Act.mutedTest_slots : (a.mutedTest e).slots = a.slots := by
  by_cases muted : a.startup.mode = .muting ∧ a.Rests
  · have offered : (a.offerFinal e).2.slots = a.slots := Act.offerStateRoof_slots.trans (Act.setMode_slots ..)
    rw [Act.mutedTest_muting muted.1 muted.2]
    split
    · exact offered
    · rw [Act.closeGate_slots]
      exact offered
  · rw [Act.mutedTest_elsewhere (not_and_or.mp muted)]

theorem Act.offerFinal_shut (shut : a.link.gateOpen = false) : (a.offerFinal e).1 = false := by
  have closed : (a.setMode e .muted).link.gateOpen = false := (Act.setMode_gateOpen ..).trans shut
  exact congrArg Prod.fst (Act.offerStateRoof_closed closed)

theorem Act.offerFinal_taken (gate : a.link.gateOpen = true) (bidless : a.bids.bid = none) (room : a.link.length < 8) :
    (a.offerFinal e).1 = true ∧ ∃ p, (a.offerFinal e).2.link.Carries (.stateRoof p) .final ∧ p.mode = .muted := by
  have link := Act.setMode_link_bidless e .muted bidless
  obtain ⟨taken, carries⟩ := Act.offerStateRoof_taken (a := a.setMode e .muted) (e := e) (r := .final)
    ((congrArg Link.gateOpen link).trans gate) (by rw [link]; exact room)
  exact ⟨taken, _, carries, congrArg Startup.mode (Act.setMode_startup e .muted a)⟩

theorem Act.offerFinal_refused (gate : a.link.gateOpen = true) (bidless : a.bids.bid = none) (full : 8 ≤ a.link.length)
    (head : ∀ h, a.link.head = some h → h.entry.isStateRoof = false)
    (waiting : ∀ x ∈ a.link.waiting, x.isStateRoof = false) : (a.offerFinal e).1 = false := by
  have link := Act.setMode_link_bidless e .muted bidless
  rw [← link] at gate full head waiting
  exact Act.offerStateRoof_refused gate full head waiting

theorem Act.muteSlots_slots : (a.muteSlots e).slots = (a.lowerBoth e).slots := Act.mutedTest_slots

theorem Act.muteSlots_rests (i : Slot) : ¬ ((a.muteSlots e).slots.get i).Raised := by
  rw [Act.muteSlots_slots]
  exact a.lowerBoth_rests e i

/-- R167: the mode is MUTED exactly where both slots have come down. -/
theorem Act.muteSlots_mode (muting : a.startup.mode = .muting) :
    ((a.muteSlots e).Rests → (a.muteSlots e).startup.mode = .muted)
    ∧ (¬ (a.muteSlots e).Rests → (a.muteSlots e).startup.mode = .muting) := by
  have mode : (a.lowerBoth e).startup.mode = .muting := (congrArg Startup.mode (a.lowerBoth_startup e)).trans muting
  unfold Act.Rests
  rw [Act.muteSlots_slots, Act.muteSlots_eq]
  refine ⟨fun rests => Act.mutedTest_mode mode rests, fun travels => ?_⟩
  rw [Act.mutedTest_elsewhere (.inr travels)]
  exact mode

end

end Sys2Proof.Machine

namespace Sys2Proof.Machine

/-! ### What the way to DORMANT leaves of the reports (R125) -/

namespace Act.Queues

variable {a0 a : Act} {e : Env}

theorem seqTo {q : Sequencer} (h : Act.Queues a0 a) : Act.Queues a0 (a.setSeq q) := h.trans ⟨.of_eq, rfl, rfl⟩

theorem cede {n : Nat} (h : Act.Queues a0 a) : Act.Queues a0 (a.cede e n) := by
  unfold Act.cede
  split
  · split
    · exact h.cedeFor
    · exact h
  · exact h

theorem withdrawRequest {k : BidKind} (h : Act.Queues a0 a) : Act.Queues a0 (a.withdrawRequest e k) := by
  have asked : Act.Queues a0 (a.setRequest k none) := by cases k <;> exact h.bidsTo
  unfold Act.withdrawRequest
  dsimp only
  split
  · exact asked.evalDue.cede
  · exact asked.evalDue

theorem arrive {st : SeqState} (h : Act.Queues a0 a) : Act.Queues a0 (a.arrive e st) := by
  refine Act.Queues.seqTo ?_
  unfold Act.leaveState
  split
  · exact h.seqTo.withdrawRequest
  · exact h.seqTo
  · exact h

end Act.Queues

section
variable {e : Env} {a : Act}

theorem Act.clearMark_appends : Act.Appends a a.clearMark := by
  unfold Act.clearMark
  split
  · exact .of_eq
  · have unmarked : Act.Appends a { a with notices := { a.notices with current := none } } :=
      ⟨⟨[], (List.append_nil _).symm, nofun⟩, ⟨[], (List.append_nil _).symm⟩, id⟩
    exact unmarked.trans ((Act.Queues.refl _).push).toAppends

theorem Act.standDown_appends : Act.Appends a (a.standDown e) := by
  have withdrawn : Act.Appends a (a.withdrawRequest e .collect) := ((Act.Queues.refl a).withdrawRequest).toAppends
  have opened := (Act.Follows.refl (e := e) (a.withdrawRequest e .collect)).openBreaker (w := [])
    |>.openIsolator (i := .zero) (w := []) |>.openIsolator (i := .one) (w := [])
  have lowered := (opened.lower (i := .zero) (w := [])).lower (i := .one) (w := [])
  exact (withdrawn.trans lowered.toAppends).trans Act.clearMark_appends

theorem Act.seqReported_appends : Act.Appends a (a.seqReported e) :=
  ((Act.Adjusts.recomputeProfile a).follows (Act.Follows.refl (e := e) _).iceDue.evalDue).toAppends

theorem Act.enterDormant_appends (cause : Nat) : Act.Appends a (a.enterDormant e cause) := by
  have arrived : Act.Appends a (a.arrive e .dormant) := ((Act.Queues.refl a).arrive).toAppends
  have turned : Act.Appends (a.arrive e .dormant) ((a.arrive e .dormant).turnDormant e) :=
    Act.standDown_appends.trans .of_eq
  rw [Act.enterDormant_eq, Act.enter_eq]
  refine Act.Appends.trans ?_ Act.seqReported_appends
  exact (arrived.trans turned).trans ((Act.Queues.refl _).log).toAppends

theorem Act.goDormant_appends (r : Report) : Act.Appends a (a.goDormant e r) := by
  rw [Act.goDormant_eq]
  split
  · exact .of_eq
  · exact Act.enterDormant_appends _

/-! ### The reports of a taken MUTE (R125, R167) -/

/-- R125: the mode's report brings DORMANT, and leaves the reports behind it where they are. -/
theorem Act.handle_modeChanged_away (away : a.startup.mode ≠ .ready) :
    (Act.handle e .modeChanged a).seq.state = .dormant ∧ Act.Appends a (Act.handle e .modeChanged a) := by
  refine ⟨Act.handle_brings (.inr (.inr (.inl ⟨rfl, away, rfl⟩))), ?_⟩
  have aside : Act.Aside False a (a.goDormant e .modeChanged) := by
    rw [Act.goDormant_eq]
    split
    · exact .refl a
    · exact (Act.Aside.refl a).enterDormant
  have stays : Act.handle e .modeChanged a = a.goDormant e .modeChanged :=
    Act.leaveDormant_unfit (.inr (aside.mode away))
  rw [stays]
  exact Act.goDormant_appends _

/-- R125: in DORMANT a bid's outcome changes nothing but that the Ice Unit may review. -/
theorem Act.handle_outcome_dormant (dormant : a.seq.state = .dormant) (k : BidKind) (o : Outcome) :
    (Act.handle e (.outcome k o) a).seq = a.seq
    ∧ (Act.handle e (.outcome k o) a).inbox.reports = a.inbox.reports := by
  cases k with
  | collect =>
    have same : a.seqOutcome e o = a := by
      unfold Act.seqOutcome
      rw [dormant]
    rw [show Act.handle e (.outcome .collect o) a = a from same]
    exact ⟨rfl, rfl⟩
  | scrape => exact ⟨rfl, rfl⟩

theorem Act.handle_muteTaken_dormant (dormant : a.seq.state = .dormant) :
    Act.handle e .muteTaken a = a.muteSlots e := by
  have same : a.goDormant e .muteTaken = a := (Act.goDormant_eq _).trans (if_pos (.inl dormant))
  show (a.goDormant e .muteTaken).muteSlots e = _
  rw [same]

/-- R167: in DORMANT, once the outcomes before it are handed on, the report of the MUTE brings the slots down. -/
theorem Act.settle_muteTaken {l m : List Report} (outcomes : ∀ r ∈ l, ∃ k o, r = .outcome k o) {n : Nat}
    (enough : l.length < n) (dormant : a.seq.state = .dormant) (reports : a.inbox.reports = l ++ .muteTaken :: m) :
    ∃ c k, Act.Settles e a c ∧ a.settle e n = (c.muteSlots e).settle e k := by
  induction l generalizing a n with
  | nil =>
    obtain ⟨n, rfl⟩ := Nat.exists_eq_add_one_of_ne_zero (Nat.ne_of_gt enough)
    let c : Act := { a with inbox := { a.inbox with reports := m } }
    have brings : Act.handle e .muteTaken c = c.muteSlots e := Act.handle_muteTaken_dormant dormant
    exact ⟨c, n, (Act.Settles.refl a).inbox, (Act.settle_reports reports n).trans (congrArg (Act.settle e n) brings)⟩
  | cons r l ih =>
    obtain ⟨n, rfl⟩ := Nat.exists_eq_add_one_of_ne_zero (Nat.ne_of_gt (Nat.zero_lt_of_lt enough))
    obtain ⟨⟨k, o, rfl⟩, others⟩ := List.forall_mem_cons.mp outcomes
    let b : Act := { a with inbox := { a.inbox with reports := l ++ .muteTaken :: m } }
    obtain ⟨seq, rest⟩ := Act.handle_outcome_dormant (e := e) (a := b) dormant k o
    obtain ⟨c, j, settles, run⟩ := ih others (Nat.lt_of_succ_lt_succ enough)
      ((congrArg Sequencer.state seq).trans dormant) rest
    exact ⟨c, j, ((Act.Settles.refl a).inbox.handle).trans settles, (Act.settle_reports reports _).trans run⟩

/-- R167: MUTED stays to the end of the event. -/
theorem Startup.Kept.muted {x y : Startup} (h : Startup.Kept x y) (k : x.mode = .muted) : y.mode = .muted :=
  h.mode.elim (·.trans k) And.right

theorem Act.Settles.rests {b : Act} (h : Act.Settles e a b) (k : a.Rests) : b.Rests := fun i =>
  (SlotRec.restsDown_iff _).mp ((h.slots i).down ((SlotRec.restsDown_iff _).mpr (k i)))

/-- R125, R167: what a taken MUTE, the only cause of reports, has brought about at the end of its event. -/
theorem Act.settle_mute {l : List Report} (muting : a.startup.mode = .muting)
    (reports : a.inbox.reports = .modeChanged :: (l ++ [.muteTaken])) (outcomes : ∀ r ∈ l, ∃ k o, r = .outcome k o)
    {n : Nat} (enough : l.length < n) :
    (∀ i, ¬ ((a.settle e (n + 1)).slots.get i).Raised) ∧ (a.Rests → (a.settle e (n + 1)).startup.mode = .muted) := by
  let told : Act := { a with inbox := { a.inbox with reports := l ++ [.muteTaken] } }
  have away : told.startup.mode ≠ .ready := by
    rw [show told.startup.mode = .muting from muting]
    nofun
  obtain ⟨dormant, appends⟩ := Act.handle_modeChanged_away (e := e) (a := told) away
  obtain ⟨more, sent, -⟩ := appends.reports
  obtain ⟨c, k, settles, run⟩ := Act.settle_muteTaken (e := e) (m := more) outcomes enough dormant
    (by rw [sent, show told.inbox.reports = _ from rfl, List.append_assoc]; rfl)
  have before : Act.Settles e a c := ((Act.Settles.refl a).inbox.handle).trans settles
  have muted : Act.Settles e c (c.muteSlots e) := (Act.Settles.refl c).muteSlots
  have after : Act.Settles e (c.muteSlots e) ((c.muteSlots e).settle e k) := (Act.Settles.refl _).settle k
  rw [Act.settle_reports reports, run]
  refine ⟨fun i => (after.slots i).resting (Act.muteSlots_rests i), fun rests => after.startup.muted ?_⟩
  rcases before.startup.mode with same | ⟨-, already⟩
  · exact (Act.muteSlots_mode (same.trans muting)).1 ((before.trans muted).rests rests)
  · exact muted.startup.muted already

end

/-! ### The orders (R167, R168) -/

section
variable {e : Env} {dst src : Nat} {a : Act}

/-- R167: what a MUTE that is taken does itself. -/
def Act.takeMute (e : Env) (a : Act) : Act :=
  ((a.setMode e .muting).setStartup { (a.setMode e .muting).startup with joinTimer := none }).push .muteTaken

theorem Act.muteOrder_all : a.muteOrder e 0 src = a.orderIgnored src .mute 1 := rfl

theorem Act.muteOrder_ignored (one : dst ≠ 0) (mode : a.startup.mode = .listen ∨ a.startup.mode = .safe) :
    a.muteOrder e dst src = a.orderIgnored src .mute 3 := by
  unfold Act.muteOrder
  rw [if_neg one]
  rcases mode with mode | mode <;> rw [mode]

theorem Act.muteOrder_again (one : dst ≠ 0) (mode : a.startup.mode = .muting ∨ a.startup.mode = .muted) :
    a.muteOrder e dst src = a := by
  unfold Act.muteOrder
  rw [if_neg one]
  rcases mode with mode | mode <;> rw [mode]

theorem Act.muteOrder_taken (one : dst ≠ 0) (mode : a.startup.mode = .join ∨ a.startup.mode = .ready) :
    a.muteOrder e dst src = a.takeMute e := by
  unfold Act.muteOrder
  rw [if_neg one]
  rcases mode with mode | mode <;> rw [mode] <;> rfl

theorem Act.takeMute_startup : (a.takeMute e).startup = { a.startup with mode := .muting, joinTimer := none } := by
  rw [Act.takeMute, Act.push_startup]
  exact congrArg (fun x : Startup => { x with joinTimer := none }) (a.setMode_startup e .muting)

theorem Act.takeMute_slots : (a.takeMute e).slots = a.slots := (Act.push_slots ..).trans (Act.setMode_slots ..)

theorem Act.takeMute_tells : (a.takeMute e).Tells .muteTaken ∧ (a.takeMute e).Tells .modeChanged :=
  ⟨Act.push_tells .., (Act.push_reports ..).tells _ (a.setMode_tells e .muting)⟩

/-- R167: behind an empty inbox the mode's report goes first and the MUTE's last, with a bid's outcome between. -/
theorem Act.takeMute_sends (empty : a.inbox.reports = []) : ∃ l,
    (a.takeMute e).inbox.reports = .modeChanged :: (l ++ [.muteTaken]) ∧ l.length ≤ 1
    ∧ ∀ r ∈ l, ∃ k o, r = .outcome k o := by
  obtain ⟨l, sent, short, outcomes⟩ := Act.setMode_sends e .muting empty
  have fresh : .muteTaken ∉ (a.setMode e .muting).inbox.reports := by
    rw [sent]
    intro among
    rcases List.mem_cons.mp among with mode | among
    · cases mode
    · obtain ⟨k, o, other⟩ := outcomes _ among
      cases other
  refine ⟨l, ?_, short, outcomes⟩
  rw [Act.takeMute, Act.push_inbox]
  refine (if_neg fresh).trans ?_
  show (a.setMode e .muting).inbox.reports ++ [.muteTaken] = _
  rw [sent, List.cons_append]

theorem Act.unmuteOrder_all : a.unmuteOrder e 0 src = a.orderIgnored src .unmute 1 := rfl

theorem Act.unmuteOrder_ignored (one : dst ≠ 0) (muting : a.startup.mode ≠ .muting) (muted : a.startup.mode ≠ .muted) :
    a.unmuteOrder e dst src = a.orderIgnored src .unmute 3 := by
  unfold Act.unmuteOrder
  rw [if_neg one]
  split
  · exact absurd ‹_› muting
  · exact absurd ‹_› muted
  all_goals rfl

/-- R168: the way to JOIN, with no close pending. -/
def Act.unmuted (e : Env) (a : Act) : Act := (a.setMode e .join).cancelClose

/-- R168: an OPEN gate shows the new mode, a CLOSED one is opened. -/
def Act.showJoin (e : Env) (a : Act) : Act :=
  if a.link.gateOpen then (a.offerStateRoof .other e).2 else a.openGate e

theorem Act.unmuteOrder_taken (one : dst ≠ 0) (mode : a.startup.mode = .muting ∨ a.startup.mode = .muted) :
    a.unmuteOrder e dst src =
      ((a.unmuted e).showJoin e).setStartup { ((a.unmuted e).showJoin e).startup with joinTimer := some 200 } := by
  unfold Act.unmuteOrder
  rw [if_neg one]
  rcases mode with mode | mode <;> rw [mode] <;> rfl

theorem Act.unmuted_startup : (a.unmuted e).startup = { a.startup with mode := .join, pendingClose := false } :=
  congrArg (fun x : Startup => { x with pendingClose := false }) (a.setMode_startup e .join)

theorem Act.unmuted_address : (a.unmuted e).link.address = a.link.address :=
  (congrArg Link.address (a.setMode_link e .join) :)

/-- R58, R168: the gate is OPEN then. -/
theorem Act.showJoin_open {own : Nat} (address : a.link.address = some own) :
    (a.showJoin e).link.gateOpen = true ∧ (a.showJoin e).startup = a.startup := by
  unfold Act.showJoin
  split
  · have offered := (Act.Queues.refl a).offerStateRoof (r := .other) (e := e)
    have same : (a.offerStateRoof .other e).2.link.gateOpen = a.link.gateOpen := (congrArg Link.gateOpen offered.link :)
    exact ⟨same.trans ‹_›, offered.startup⟩
  · have opened := Act.openGate_queues address e
    exact ⟨(congrArg Link.gateOpen opened.link :), opened.startup⟩

end

/-- R84: an unarmed station obeys an admitted order. -/
theorem exec_ordered {s : State} {own : Nat} {v : Verb} {dst src : Byte} (admitted : s.Admits own v dst src)
    (plain : v ≠ .resetArm ∧ v ≠ .reset) (unarmed : s.Unarmed) (mask : Byte) (arg : Half) (temp : Int) :
    exec (orderCommand v dst src mask arg temp) s = .next (s.obey dst.toNat src.toNat v mask).finish := by
  obtain ⟨t, run⟩ := orderCommand_carries v dst src mask arg temp
  rw [run, State.receive_obeys admitted plain unarmed]

/-- R125, R167: the end of the event of a MUTE taken while no report is on its way. -/
theorem State.takeMute_quiet {s b : State} (taken : b = { s with act := s.act.takeMute s.env }) (quiet : s.Quiet) :
    b.finish.act.seq.state = .dormant ∧ (∀ i, ¬ (b.finish.act.slots.get i).Raised)
    ∧ (s.act.Rests → b.finish.act.startup.mode = .muted) := by
  subst taken
  obtain ⟨empty, -⟩ := quiet
  obtain ⟨l, sent, short, outcomes⟩ := s.act.takeMute_sends (e := s.env) (congrArg Inbox.reports empty)
  have muting : (s.act.takeMute s.env).startup.mode = .muting := congrArg Startup.mode Act.takeMute_startup
  obtain ⟨rests, muted⟩ := Act.settle_mute (e := s.env) (n := 255) muting sent outcomes (by omega)
  refine ⟨State.finish_dormant (s := { s with act := s.act.takeMute s.env }) sent (.inr ⟨rfl, ?_⟩) fun v q among => ?_,
    rests, fun down => muted fun i => ?_⟩
  · dsimp only
    rw [muting]
    nofun
  · rcases List.mem_append.mp among with among | among
    · obtain ⟨k, o, other⟩ := outcomes _ among
      cases other
    · cases List.mem_singleton.mp among
  · rw [Act.takeMute_slots]
    exact down i

/-- Settles O29. -/
theorem muteAndUnmute : Obligations.MuteAndUnmute := by
  refine ⟨fun s own dst src mask arg unarmed numbered => ?_, fun e a => ?_⟩
  · intro a ignored
    have mute (admitted : s.Admits own .mute dst src) {x : Act} (does : a.muteOrder s.env dst.toNat src.toNat = x) :
        exec (.mute dst src mask arg) s = .next (State.finish { s with act := x }) :=
      does ▸ exec_ordered admitted ⟨nofun, nofun⟩ unarmed mask arg 0
    have unmute (admitted : s.Admits own .unmute dst src) {x : Act} (does : a.unmuteOrder s.env dst.toNat src.toNat = x) :
        exec (.unmute dst src mask arg) s = .next (State.finish { s with act := x }) :=
      does ▸ exec_ordered admitted ⟨nofun, nofun⟩ unarmed mask arg 0
    refine ⟨fun admitted => ⟨fun all => mute admitted (by rw [all]; rfl), fun station => ?_⟩,
      fun admitted => ⟨fun all => unmute admitted (by rw [all]; rfl), fun station => ?_⟩⟩
    · have one : dst.toNat ≠ 0 := station ▸ numbered
      refine ⟨fun mode => mute admitted (Act.muteOrder_ignored one mode),
        fun mode => mute admitted (Act.muteOrder_again one mode), fun mode => ?_⟩
      let b : State := { s with act := a.takeMute s.env }
      have startup : b.act.startup = { a.startup with mode := .muting, joinTimer := none } := Act.takeMute_startup
      have muting : b.act.startup.mode = .muting := congrArg Startup.mode startup
      obtain ⟨muteTold, modeTold⟩ := a.takeMute_tells (e := s.env)
      have kept := b.finish_startup
      refine ⟨b, mute admitted (Act.muteOrder_taken one mode), rfl, muting, congrArg Startup.joinTimer startup,
        muteTold, modeTold, ?_, kept.joinTimer.trans (congrArg Startup.joinTimer startup), fun muted => ?_,
        fun quiet => ?_⟩
      · exact kept.mode.imp (·.trans muting) And.right
      · obtain ⟨c, settled, finished⟩ := b.finish_settles
        rw [finished] at muted ⊢
        refine (settled.muted muted).resolve_left fun already => ?_
        rw [muting] at already
        cases already
      · obtain ⟨dormant, rests, muted⟩ := State.takeMute_quiet (b := b) rfl quiet
        exact ⟨dormant, rests, fun down => muted fun i => (SlotRec.restsDown_iff _).mp (down i)⟩
    · have one : dst.toNat ≠ 0 := station ▸ numbered
      refine ⟨fun mode => unmute admitted (Act.unmuteOrder_ignored one mode.1 mode.2), fun mode => ?_⟩
      let joined := (a.unmuted s.env).showJoin s.env
      let b : State := { s with act := joined.setStartup { joined.startup with joinTimer := some 200 } }
      obtain ⟨gate, same⟩ := Act.showJoin_open (e := s.env) (a.unmuted_address.trans admitted.hears.address)
      have startup : b.act.startup = { a.startup with mode := .join, pendingClose := false, joinTimer := some 200 } :=
        congrArg (fun x : Startup => { x with joinTimer := some 200 }) (same.trans a.unmuted_startup)
      exact ⟨b, unmute admitted (Act.unmuteOrder_taken one mode), rfl, gate, congrArg Startup.pendingClose startup,
        State.finish_mode (congrArg Startup.mode startup) nofun,
        b.finish_startup.joinTimer.trans (congrArg Startup.joinTimer startup)⟩
  · intro down
    refine ⟨rfl, fun i => rfl, ⟨Act.muteSlots_rests, fun i p lowering => ?_, Act.muteSlots_mode⟩,
      ⟨Act.mutedTest_elsewhere, fun muting rests => ⟨Act.mutedTest_mode muting rests, fun shut => ?_,
        fun gate bidless => ⟨fun room => ?_, fun full head waiting => ?_⟩⟩⟩, Act.finalLeft_idle, fun pending => ?_⟩
    · rw [Act.muteSlots_slots] at lowering ⊢
      exact a.lowerBoth_waits e lowering
    · obtain ⟨closed, -, emptied⟩ := (a.offerFinal e).2.closeGate_closed
      rw [Act.mutedTest_refused muting rests (Act.offerFinal_shut shut)]
      exact ⟨closed, emptied⟩
    · obtain ⟨taken, p, ⟨x, queued, final, frame⟩, mode⟩ := Act.offerFinal_taken (e := e) gate bidless room
      rw [Act.mutedTest_taken muting rests taken]
      exact ⟨rfl, Act.offerFinal_gateOpen.trans gate, x, p, queued, final, frame, mode⟩
    · obtain ⟨closed, -, emptied⟩ := (a.offerFinal e).2.closeGate_closed
      rw [Act.mutedTest_refused muting rests (Act.offerFinal_refused gate bidless full head waiting)]
      exact ⟨closed, emptied⟩
    · show (a.finalLeft).startup.pendingClose = false ∧ _
      rw [show Act.handle e .finalLeft a = a.finalLeft from rfl, Act.finalLeft_pending pending, Act.closeGate_startup]
      exact ⟨rfl, Act.closeGate_closed _⟩

end Sys2Proof.Machine

namespace Sys2Proof.Machine

/-! ## The event ring (R172 to R174)

Only the passing of time, a power-on reset and ACK write the ring within a command; the event's records join it at its end.
`exec_ring` says this once for every command. -/

/-! ### Operations that leave the ring as it is -/

@[simp] theorem State.reauthorize_ring (s : State) : s.reauthorize.ring = s.ring := rfl

@[simp] theorem State.takeGeometry_ring (c : CabPayload) (s : State) : (s.takeGeometry c).ring = s.ring := by
  unfold State.takeGeometry
  dsimp only
  split <;> rfl

@[simp] theorem State.stateHeard_ring (address : Nat) (x : StatePayload) (s : State) :
    (s.stateHeard address x).ring = s.ring := by
  unfold State.stateHeard
  dsimp only
  split
  · split_ifs <;> rfl
  · split_ifs <;> simp

@[simp] theorem State.updatePeer_ring (address : Nat) (f : Peer → Peer) (s : State) :
    (s.updatePeer address f).ring = s.ring := by
  unfold State.updatePeer
  split
  · rfl
  · dsimp only
    split <;> rfl

@[simp] theorem State.alertHeard_ring (src : Nat) (x : Alert) (s : State) : (s.alertHeard src x).ring = s.ring := by
  unfold State.alertHeard
  dsimp only
  split <;> split <;> rfl

@[simp] theorem State.peerAged_ring (address : Nat) (s : State) : (s.peerAged address).ring = s.ring := by
  unfold State.peerAged
  split
  · rfl
  · dsimp only
    split <;> rfl

@[simp] theorem State.peerRemoved_ring (address : Nat) (s : State) : (s.peerRemoved address).ring = s.ring := by
  unfold State.peerRemoved
  split
  · rfl
  · dsimp only
    split <;> rfl

@[simp] theorem State.holdExpired_ring (s : State) : s.holdExpired.ring = s.ring := by
  unfold State.holdExpired
  split <;> rfl

@[simp] theorem State.attemptEnded_ring (buffer : List Byte) (s : State) : (s.attemptEnded buffer).ring = s.ring := by
  unfold State.attemptEnded
  split
  · dsimp only
    split <;> split <;> rfl
  · rfl

@[simp] theorem State.travelEnded_ring (s : State) : s.travelEnded.ring = s.ring := by
  unfold State.travelEnded
  split <;> rfl

@[simp] theorem State.obey_ring (dst src : Nat) (v : Verb) (mask : Byte) (s : State) :
    (s.obey dst src v mask).ring = s.ring := by
  cases v <;> rfl

theorem State.whenAdmitted_ring {k : State → State} (h : ∀ s, (k s).ring = s.ring)
    (dst src kind verb : Nat) (source : Bool) (s : State) :
    (s.whenAdmitted dst src kind verb source k).ring = s.ring := by
  unfold State.whenAdmitted
  split
  · rfl
  · split
    · exact h s
    · rfl

/-- R170: the ring goes on through a link reset. -/
@[simp] theorem State.acceptOrder_ring (dst src : Nat) (v : Verb) (mask : Byte) (t : Int) (s : State) :
    (s.acceptOrder dst src v mask t).ring = s.ring := by
  unfold State.acceptOrder
  dsimp only
  split
  · split
    · unfold State.armOrder
      split <;> rfl
    · unfold State.resetOrder
      split
      · rfl
      · split <;> rfl
  · exact State.whenAdmitted_ring (State.obey_ring dst src v mask) ..

@[simp] theorem State.accept_ring (dst src : Nat) (f : Frame) (t : Int) (s : State) :
    (s.accept dst src f t).ring = s.ring := by
  cases f with
  | order v mask arg => exact State.acceptOrder_ring ..
  | stateRoof p => exact State.stateHeard_ring ..
  | stateCab p => exact State.stateHeard_ring ..
  | bid b => exact State.updatePeer_ring ..
  | cede n => exact State.updatePeer_ring ..
  | alert x => exact State.alertHeard_ring ..
  | route n => exact State.whenAdmitted_ring (by intro; rfl) ..
  | cancel id => exact State.whenAdmitted_ring (by intro; rfl) ..

@[simp] theorem State.checkFrame_ring (dst src kind : Nat) (f : Option Frame) (t : Int) (s : State) :
    (s.checkFrame dst src kind f t).ring = s.ring := by
  unfold State.checkFrame
  split
  · rfl
  · split
    · rfl
    · split
      · rfl
      · split
        · exact State.accept_ring ..
        · rfl

theorem State.hear_ring {k : State → State} (h : ∀ s, (k s).ring = s.ring) (s : State) : (s.hear k).ring = s.ring := by
  unfold State.hear
  split
  · rfl
  · exact h s

@[simp] theorem State.receive_ring (dst src : Byte) (f : Frame) (t : Int) (s : State) :
    (s.receive dst src f t).ring = s.ring := State.hear_ring (fun _ => State.checkFrame_ring ..) s

@[simp] theorem State.receiveRaw_ring (dst src kind : Byte) (payload : List Byte) (s : State) :
    (s.receiveRaw dst src kind payload).ring = s.ring := State.hear_ring (fun _ => State.checkFrame_ring ..) s

@[simp] theorem State.receiveBytes_ring (bytes : List Byte) (s : State) : (s.receiveBytes bytes).ring = s.ring := by
  refine State.hear_ring (fun s => ?_) s
  split
  · split
    · rfl
    · dsimp only
      split
      · exact State.checkFrame_ring ..
      · rfl
  · rfl

/-! ### What a command can make of the ring -/

/-- What one command can make of the ring before its event ends: nothing, the passing of time, a power-on reset, or ACK. -/
inductive State.RingMade (s : State) : Ring → Prop
  | kept : RingMade s s.ring
  | elapsed (n : Nat) : RingMade s (s.ring.elapse n)
  | reset : RingMade s Ring.reset
  | acked (k : Nat) : RingMade s (s.ackRing k)

namespace State.RingMade

variable {s : State}

theorem of_eq {r : Ring} (h : r = s.ring) : s.RingMade r := h ▸ .kept

/-- R172 to R174: each of these keeps the ring's invariant. -/
theorem inv {r : Ring} (h : s.RingMade r) (i : s.ring.Inv) : r.Inv := by
  cases h with
  | kept => exact i
  | elapsed n => exact Ring.elapse_inv i n
  | reset => exact Ring.reset_inv
  | acked k => exact State.ackRing_inv i k

theorem onExpiry {k : State → State} (h : ∀ s, (k s).ring = s.ring) (timer : Timer) :
    s.RingMade (s.onExpiry timer k).ring := by
  cases timer with
  | none => exact .kept
  | some n => exact h (s.elapse n) ▸ .elapsed n

theorem onPeerExpiry {k : State → State} (h : ∀ s, (k s).ring = s.ring) (address : Nat) (timer : Peer → Timer) :
    s.RingMade (s.onPeerExpiry address timer k).ring := by
  unfold State.onPeerExpiry
  split
  · exact onExpiry h _
  · exact .kept

theorem capReached : s.RingMade s.capReached.ring := by
  unfold State.capReached
  dsimp only
  split
  · exact .kept
  · exact .elapsed _

/-- R176: of the service commands only ACK writes the ring. -/
theorem takeCommand (code : Byte) (arg : Half) : s.RingMade (s.takeCommand code arg).ring := by
  unfold State.takeCommand
  split
  case h_3 => exact .acked _
  all_goals exact .kept

theorem judge (b0 c1 c2 d0 d1 : Byte) : s.RingMade (s.judge b0 c1 c2 d0 d1).ring := by
  unfold State.judge
  split
  · exact takeCommand ..
  · exact .kept

theorem gather (b : Byte) : s.RingMade (s.gather b).ring := by
  unfold State.gather
  split
  · exact judge ..
  · exact .kept

theorem command {f : State → State} (h : s.RingMade (f s).ring) : s.RingMade (s.command f).ring := by
  unfold State.command
  split
  · exact .kept
  · exact h

end State.RingMade

/-- Every command makes one of `State.RingMade` of the ring, and then its event ends. -/
theorem exec_ring (c : Instr) (s : State) : ∃ u, exec c s = .next (State.finish u) ∧ s.RingMade u.ring := by
  cases c
  case powerOnReset => exact ⟨_, rfl, .reset⟩
  case ack k => exact ⟨_, rfl, .command (.acked k.toNat)⟩
  case moderationCountEnd => exact ⟨_, rfl, .elapsed _⟩
  case odoStale => exact ⟨_, rfl, .capReached⟩
  case badFrame => exact ⟨_, rfl, .command (.judge ..)⟩
  case unknownCommand => exact ⟨_, rfl, .command (.takeCommand ..)⟩
  case serviceByte => exact ⟨_, rfl, .command (.gather _)⟩
  case status | events | peers | notices | config | counters => exact ⟨_, rfl, .command .kept⟩
  case peerAgeExpiry => exact ⟨_, rfl, .onPeerExpiry (State.peerAged_ring _) _ _⟩
  case peerRemovalExpiry => exact ⟨_, rfl, .onPeerExpiry (State.peerRemoved_ring _) _ _⟩
  case peerBidTimerExpiry => exact ⟨_, rfl, .onPeerExpiry (State.updatePeer_ring _ _) _ _⟩
  case authorityHoldExpiry => exact ⟨_, rfl, .onExpiry State.holdExpired_ring _⟩
  case selectorTravelEnd => exact ⟨_, rfl, .of_eq s.travelEnded_ring⟩
  case configAttemptEnd => exact ⟨_, rfl, .of_eq (State.attemptEnded_ring ..)⟩
  case framingError => exact ⟨_, rfl, .of_eq (State.receiveBytes_ring ..)⟩
  case unknownKind => exact ⟨_, rfl, .of_eq (State.receiveRaw_ring ..)⟩
  case lock | unlock | clearFaultSlots | clearFaultSwitchgear | prefer | resume | mute | unmute | resetArm | reset
      | stateRoof | stateCab | bid | cede | alert | route | cancel =>
    exact ⟨_, rfl, .of_eq (State.receive_ring ..)⟩
  case lossTimerExpiry | silenceTimerExpiry | surgeMaskExpiry | selectorTravelTimeout | isolatorTimeout
      | breakerCloseTimeout | breakerOpenTimeout | riseTimeout | lowerTimeout | armingTimerExpiry | stateTimerExpiry
      | bidWindowExpiry | bidSpacingExpiry | noticeReviewTimerExpiry | seqRetryExpiry | testRetryExpiry
      | powerlessTimerExpiry | noSupplyTimerExpiry | recloseHoldExpiry | seqReviewTimerExpiry | iceIntervalEnd
      | iceReviewTimerExpiry | listenTimerExpiry | joinTimerExpiry | serviceByteGapExpiry =>
    exact ⟨_, rfl, .onExpiry (by intro; rfl) _⟩
  case sampleFrame | selectorEndSwitchChange | isolatorClosed | isolatorOpened | isolatorContactConflict | breakerClosed
      | breakerOpened | breakerContactConflict | breakerTrip | roofTestCompletion | slotUp | slotDown | slotDropped
      | attemptStart | collision | jamEnd | backoffExpiry | frameSent | arcPulse | serviceReplyEnd =>
    exact ⟨_, rfl, .kept⟩

/-- Settles O59: time passes on an empty queue; a command does what `exec_ring` allows, and its records join the ring. -/
theorem eventRingKept : Obligations.EventRingKept := by
  intro s t i h
  cases q : s.pending with
  | nil =>
    simp only [step, q] at h
    cases h
    exact Ring.elapse_inv i 1
  | cons c rest =>
    simp only [step, q] at h
    obtain ⟨u, run, made⟩ := exec_ring c { s with pending := rest }
    rw [run] at h
    cases h
    exact Ring.writeAll_inv (made.inv i) ..

end Sys2Proof.Machine

namespace Sys2Proof.Machine

/-! ## The end of an event (R172; log 1) -/

/-- The Ice Unit as its review leaves it: heaters, what is shed and the candidate are written, the rest stays. -/
theorem IceUnit.Kept.eq {x y : IceUnit} (h : IceUnit.Kept x y) :
    y = { x with heaters := y.heaters, shed := y.shed, candidate := y.candidate } := by
  cases x
  cases y
  cases h
  simp_all

/-- A slot that settling leaves RISING or UP was so before, for settling raises none. -/
theorem SlotRec.Kept.raised {r s : SlotRec} (h : SlotRec.Kept r s) (up : s.Raised) : s.lift = r.lift := by
  rcases h.lift with same | ⟨notRising, notUp, -⟩
  · exact same
  · rcases up with rising | up
    · exact absurd rising notRising
    · exact absurd up notUp

/-- Settles O4. -/
theorem endOfEventFrame : Obligations.EndOfEventFrame := by
  intro s
  obtain ⟨b, settled, finished⟩ := s.finish_settles
  obtain ⟨es, written⟩ := settled.logs
  have link := settled.link
  refine ⟨es, ?_⟩
  rw [finished, written]
  refine ⟨rfl, rfl, rfl, rfl, rfl, rfl, settled.preferred, fun i => ?_, link.address, link.framesSent, link.collisions,
    link.lateCollisions, link.discards, link.crcErrors, link.unknownKinds, settled.ice.eq, settled.selectorFault,
    settled.lockout, settled.isolatorFault⟩
  have slot := settled.slots i
  exact ⟨slot.locked, slot.latch, slot.head, slot.dA, slot.p0, slot.gain, slot.raised⟩

/-! ## Records and moderation (R172 to R174) -/

theorem Ring.write_joins {r : Ring} (room : r.records.length < 128) (now : Nat) (e : LogEntry) :
    r.write now e =
      { r with
        records := r.records ++ [{ seq := r.sequence, time := n32 now, entry := e }]
        sequence := r.sequence + 1 } := if_pos room

theorem Ring.write_drops {r : Ring} (full : 128 ≤ r.records.length) (now : Nat) (e : LogEntry) :
    r.write now e =
      { r with
        dropped := min 4294967295 (r.dropped + 1)
        firstDropped := if r.dropped = 0 then n8 e.code.code else r.firstDropped } := if_neg (Nat.not_lt.mpr full)

/-- R174: attending sets the busy flag where records are held and the counter is 0, and writes nothing else. -/
theorem Ring.attend_eq (r : Ring) :
    r.attend = { r with busy := r.busy || decide (r.records ≠ [] ∧ r.moderation = 0) } := by
  unfold Ring.attend
  split
  · rename_i held
    rw [decide_eq_true held, Bool.or_true]
  · rename_i idle
    rw [decide_eq_false idle, Bool.or_false]

@[simp] theorem Ring.attend_moderation (r : Ring) : r.attend.moderation = r.moderation := by rw [Ring.attend_eq]

@[simp] theorem Ring.write_moderation (now : Nat) (e : LogEntry) (r : Ring) :
    (r.write now e).moderation = r.moderation := by
  unfold Ring.write
  split <;> rfl

/-- R174: records that join leave the moderation counter. -/
theorem Ring.writeAll_moderation (now : Nat) (es : List LogEntry) (r : Ring) :
    (r.writeAll now es).moderation = r.moderation := by
  unfold Ring.writeAll
  induction es generalizing r with
  | nil => rfl
  | cons e es ih => rw [List.foldl_cons, ih, Ring.attend_moderation, Ring.write_moderation]

/-- R174: the time that the counter had left passes, and the line is asserted where records are held. -/
theorem Ring.elapse_moderation (r : Ring) :
    r.elapse r.moderation = { r with moderation := 0, busy := r.busy || decide (r.records ≠ []) } := by
  unfold Ring.elapse
  rw [Ring.attend_eq]
  simp

/-- Settles O58. -/
theorem recordsAndModeration : Obligations.RecordsAndModeration := by
  refine ⟨fun _ => rfl, fun now r e => ⟨fun room => Ring.write_joins room now e,
    fun full => Ring.write_drops full now e, fun _ => rfl⟩, fun s => ?_⟩
  have ended := s.ring.elapse_moderation
  refine ⟨s.moderationEnds.finish, rfl, rfl, ?_, fun empty unwritten => ?_⟩
  · exact (Ring.writeAll_moderation ..).trans (congrArg Ring.moderation ended)
  · have quiet : s.moderationEnds.Quiet := ⟨empty, unwritten⟩
    have ring : s.moderationEnds.ring = _ := ended
    rw [quiet.finish, ring]
    exact ⟨rfl, rfl, rfl, rfl⟩

/-! ## The service port (R175 to R177) -/

/-! ### The form of an answer -/

/-- A command that leaves the reacting blocks has its own effect for next state where nothing was left to settle. -/
theorem State.event_answered {s t : State} {o : Host.Outcome State Fault Refusal} (run : o = .next t.finish)
    (act : t.act = s.act := by rfl) : o = .next t.finish ∧ (s.Quiet → o = .next t) := by
  refine ⟨run, fun quiet => run.trans ?_⟩
  have still : t.Quiet := by
    unfold State.Quiet
    rw [act]
    exact quiet
  rw [still.finish]

theorem State.command_free {s : State} (free : s.port.reply = none) (f : State → State) : s.command f = f s := by
  unfold State.command
  rw [free]
  rfl

/-- R175: while a reply is being sent the bytes of a command are discarded. -/
theorem State.command_busy {s : State} {r : List Byte} (busy : s.port.reply = some r) (f : State → State) :
    s.command f = s := by
  unfold State.command
  rw [busy]
  rfl

/-- The event of a service command `f`, on a free port. -/
theorem State.event_free {s : State} (free : s.port.reply = none) (f : State → State) :
    Host.Outcome.next (φ := Fault) (ρ := Refusal) (s.event fun s => s.command f) = .next (f s).finish :=
  congrArg (fun t => Host.Outcome.next (State.finish t)) (State.command_free free f)

theorem State.event_busy {s : State} {r : List Byte} (busy : s.port.reply = some r) (f : State → State) :
    Host.Outcome.next (φ := Fault) (ρ := Refusal) (s.event fun s => s.command f) = .next s.finish :=
  State.event_idle (State.command_busy busy f)

/-! ### ACK (R173, R174, R176) -/

/-- R173, R176: the ring that ACK leaves, with the marker OVERRUN behind the records left where one was removed and some had been
dropped before. A record removed makes room for it. -/
theorem State.ackRing_eq {s : State} (k : Nat) (held : s.ring.records.length ≤ 128) :
    let removed := min k s.ring.records.length
    let marks := 0 < removed ∧ 0 < s.ring.dropped
    let marker : Record := { seq := s.ring.sequence, time := n32 s.env.now, entry := overrunEntry s.ring s.act }
    let left := s.ring.records.drop removed ++ if marks then [marker] else []
    s.ackRing k =
      { s.ring with
        records := left
        sequence := if marks then s.ring.sequence + 1 else s.ring.sequence
        dropped := if marks then 0 else s.ring.dropped
        moderation := s.interval
        busy := decide (left ≠ [] ∧ s.interval = 0) } := by
  intro removed marks marker left
  unfold State.ackRing
  dsimp only
  rw [Ring.attend_eq]
  by_cases due : marks
  · have room : (s.ring.records.drop removed).length < 128 := by
      have one : 0 < removed := due.1
      rw [List.length_drop]
      omega
    have behind : left = s.ring.records.drop removed ++ [marker] := congrArg (_ ++ ·) (if_pos due)
    rw [behind, if_pos due, if_pos due, if_pos due, Ring.write_joins room]
    simp only [Bool.false_or]
    rfl
  · have none : left = s.ring.records.drop removed := by simp only [left, if_neg due, List.append_nil]
    rw [none, if_neg due, if_neg due, if_neg due]
    simp only [Bool.false_or]
    rfl

/-- Settles O57. -/
theorem ackRemovesRecords : Obligations.AckRemovesRecords := by
  intro s k free r removed marks interval marker left held
  have run : exec (.ack k) s = .next (s.ackCommand k).finish := State.event_free free _
  obtain ⟨event, alone⟩ := State.event_answered (s := s) run
  have ring : (s.ackCommand k).ring = s.ackRing k.toNat := rfl
  have reply : (s.ackCommand k).port.reply = some (replyBytes 3 0 (ackBytes removed (s.ackRing k.toNat))) := rfl
  rw [State.ackRing_eq k.toNat held] at ring reply
  refine ⟨s.ackCommand k, event, alone, rfl, ?_⟩
  rw [ring, reply]
  exact ⟨rfl, rfl, rfl, rfl, rfl, rfl, rfl⟩

end Sys2Proof.Machine

namespace Sys2Proof.Machine

/-! ### What the five bytes of a command give (R175, R176) -/

/-- R176: EVENTS asks for 1 to 16 records. -/
theorem eventsArg_eq (n : Nat) : eventsArg n = if n = 0 then 1 else if 16 < n then 16 else n := by
  unfold eventsArg
  split_ifs with zero many
  · rfl
  · exact Nat.min_eq_left many.le
  · exact Nat.min_eq_right (Nat.not_lt.mp many)

theorem State.judge_bad {c0 c1 c2 d0 d1 : Byte} (wrong : le16 (crc [c0, c1, c2]) ≠ [d0, d1]) (s : State) :
    s.judge c0 c1 c2 d0 d1 = s.badFrame c0 := if_neg wrong

theorem State.judge_good {c0 c1 c2 d0 d1 : Byte} (right : le16 (crc [c0, c1, c2]) = [d0, d1]) (s : State) :
    s.judge c0 c1 c2 d0 d1 = s.takeCommand c0 (join16 c1 c2) := if_pos right

/-- R175: a code that is none of the seven. -/
theorem State.takeCommand_unknown {code : Byte} (unknown : code.toNat = 0 ∨ 7 < code.toNat) (arg : Half) (s : State) :
    s.takeCommand code arg = s.unknownCommand code := by
  unfold State.takeCommand
  split
  case h_8 => rfl
  all_goals omega

/-- R175: a byte that is not the fifth is gathered, and the gap timer starts anew. -/
theorem State.gather_short {s : State} (short : s.port.gathered.length < 4) (b : Byte) :
    s.gather b = { s with port := { s.port with gathered := s.port.gathered ++ [b], gapTimer := some 5 } } := by
  unfold State.gather
  split
  · rename_i five
    have count := congrArg List.length five
    simp only [List.length_append, List.length_cons, List.length_nil] at count
    omega
  · rfl

/-- R175: the fifth byte gives the command that the five spell. -/
theorem State.gather_fifth {s : State} {c0 c1 c2 d0 : Byte} (four : s.port.gathered = [c0, c1, c2, d0]) (d1 : Byte) :
    s.gather d1 = s.judge c0 c1 c2 d0 d1 := by
  unfold State.gather
  rw [four]
  rfl

/-- The fifth byte of a command with a right CRC is the command `c` where code and argument of the five bytes say what `c` does. -/
theorem exec_fifthByte {s : State} {c0 c1 c2 d0 d1 : Byte} {c : Instr} {f : State → State} (free : s.port.reply = none)
    (four : s.port.gathered = [c0, c1, c2, d0]) (right : le16 (crc [c0, c1, c2]) = [d0, d1])
    (run : exec c s = .next (s.event fun s => s.command f)) (same : s.takeCommand c0 (c2 ++ c1) = f s) :
    exec (.serviceByte d1) s = exec c s := by
  have taken : s.gather d1 = f s := ((State.gather_fifth four d1).trans (State.judge_good right s)).trans same
  rw [run, State.event_free free f, ← taken]
  exact State.event_free free _

/-- R177: the reply to CONFIG while none is loaded, and the load was not rejected. -/
theorem State.configReply_unread {s : State} (none : s.env.cfg = none)
    (unrejected : ∀ r, s.act.startup.load ≠ .rejected r) : s.configReply = (3, [0]) := by
  unfold State.configReply
  rw [none]
  split
  · contradiction
  · rename_i r _ rejected
    exact absurd rejected (unrejected r)
  · rfl

theorem State.configReply_rejected {s : State} {r : Nat} (none : s.env.cfg = none)
    (rejected : s.act.startup.load = .rejected r) : s.configReply = (3, [n8 r]) := by
  unfold State.configReply
  rw [none, rejected]
  rfl

theorem State.configReply_loaded {s : State} {c : Loaded} (loaded : s.env.cfg = some c) :
    s.configReply = (0, c.bytes) := by
  unfold State.configReply
  rw [loaded]

/-! ### The commands -/

/-- R175: on a free port a command that comes to a reply changes nothing but the port. -/
theorem exec_replies {s : State} {c : Instr} {f : State → State} {code status : Nat} {payload : List Byte}
    (free : s.port.reply = none) (run : exec c s = .next (s.event fun s => s.command f))
    (reply : f s = s.reply code status payload) :
    exec c s = .next (s.reply code status payload).finish
    ∧ (s.Quiet → exec c s = .next (s.reply code status payload)) := by
  refine State.event_answered (run.trans ?_)
  rw [State.event_free free f, reply]

/-- R175: while a reply is being sent a command does nothing. -/
theorem exec_discards {s : State} {r : List Byte} {c : Instr} {f : State → State} (busy : s.port.reply = some r)
    (run : exec c s = .next (s.event fun s => s.command f)) :
    exec c s = .next s.finish ∧ (s.Quiet → exec c s = .next s) :=
  State.event_answered (run.trans (State.event_busy busy f))

/-- R177: CONFIG. -/
theorem exec_config {s : State} {status : Nat} {payload : List Byte} (free : s.port.reply = none)
    (reply : s.configReply = (status, payload)) :
    exec .config s = .next (s.reply 6 status payload).finish
    ∧ (s.Quiet → exec .config s = .next (s.reply 6 status payload)) :=
  exec_replies free rfl (congrArg (fun x : Nat × List Byte => s.reply 6 x.1 x.2) reply)

/-- R176: EVENTS gives the oldest records, as many as asked for. -/
theorem State.eventsCommand_eq (n : Half) (s : State) :
    s.eventsCommand n = s.reply 2 0
      ((s.ring.records.take (if n.toNat = 0 then 1 else if 16 < n.toNat then 16 else n.toNat)).flatMap recordBytes) := by
  rw [← eventsArg_eq]
  rfl

/-- Settles O56. -/
theorem serviceCommands : Obligations.ServiceCommands := by
  refine ⟨fun s => ⟨fun free => ?_, fun r busy => ?_⟩, fun s => ⟨fun b free short => ?_,
    fun c0 c1 c2 d0 d1 free four => ⟨fun wrong => ?_, fun right => ?_⟩, fun n gap => ?_, ?_⟩⟩
  · exact ⟨exec_replies free rfl rfl, fun n => exec_replies free rfl (s.eventsCommand_eq n), exec_replies free rfl rfl,
      exec_replies free rfl rfl, fun _ loaded => exec_config free (State.configReply_loaded loaded),
      fun _ none rejected => exec_config free (State.configReply_rejected none rejected),
      fun none unrejected => exec_config free (State.configReply_unread none unrejected), exec_replies free rfl rfl,
      fun _ _ _ _ _ wrong => exec_replies free rfl (State.judge_bad wrong s),
      fun _ arg unknown => exec_replies free rfl (State.takeCommand_unknown unknown arg s)⟩
  · refine ⟨fun c among => ?_, fun n => ⟨exec_discards busy rfl, exec_discards busy rfl⟩,
      fun c0 c1 c2 d0 d1 => exec_discards busy rfl, fun code arg => exec_discards busy rfl,
      fun b => exec_discards busy rfl⟩
    rcases among with rfl | rfl | rfl | rfl | rfl <;> exact exec_discards busy rfl
  · have run : exec (.serviceByte b) s = .next (s.gather b).finish := State.event_free free _
    rw [State.gather_short short] at run
    exact State.event_answered run
  · have bad : exec (.badFrame c0 c1 c2 d0 d1) s = .next (s.judge c0 c1 c2 d0 d1).finish := State.event_free free _
    rw [bad, ← State.gather_fifth four]
    exact State.event_free free _
  · refine ⟨?_, ?_, ?_, ?_, ?_, ?_, ?_, fun _ => exec_fifthByte free four right rfl rfl⟩
    all_goals
      rintro rfl
      exact exec_fifthByte free four right rfl rfl
  · have run : exec .serviceByteGapExpiry s = .next (State.finish (s.onExpiry s.port.gapTimer State.gapExpired)) := rfl
    rw [run, gap, State.onExpiry_some]
    rfl
  · exact State.event_answered rfl

end Sys2Proof.Machine

namespace Sys2Proof.Machine

/-! ## A step and the queue of commands (log 2)

A step takes the front command or lets a millisecond pass. No operation of a command writes the queue: each `_pending`
lemma says so of one operation, and `exec_pending` says it of every command. -/

/-! ### One step -/

theorem step_front {s : State} {c : Instr} {rest : List Instr} (front : s.pending = c :: rest) :
    step s = exec c { s with pending := rest } := by
  unfold step
  rw [front]

theorem step_idle {s : State} (empty : s.pending = []) : step s = .next (s.elapse 1) := by
  unfold step
  rw [empty]

/-- R174: the counter stands at 0 after a millisecond just if it stood at 0 or 1. -/
theorem Ring.elapse_one (r : Ring) :
    r.elapse 1 =
      { r with
        moderation := r.moderation - 1
        busy := r.busy || decide (r.records ≠ [] ∧ r.moderation ≤ 1) } := by
  have reached : r.moderation - 1 = 0 ↔ r.moderation ≤ 1 := Nat.sub_eq_zero_iff_le
  unfold Ring.elapse Ring.attend
  simp only [reached]
  split <;> simp [*]

/-- Settles O1. -/
theorem stepRunsTheFrontCommand : Obligations.StepRunsTheFrontCommand := fun _ _ _ => step_front rfl

/-- Settles O2: of what a millisecond does only the ring's part is not said field by field by `State.elapse`. -/
theorem emptyQueuePassesOneMillisecond : Obligations.EmptyQueuePassesOneMillisecond := by
  intro s empty
  have ring := s.ring.elapse_one
  rw [step_idle empty]
  unfold State.elapse
  rw [ring]
  rfl

/-! ### Operations that leave the queue as it is -/

theorem State.ite_pending {s t u : State} {p : Prop} [Decidable p] (h : t.pending = s.pending)
    (k : u.pending = s.pending) : (if p then t else u).pending = s.pending := by split <;> assumption

theorem State.placePeer_pending (src : Nat) (x : StatePayload) (s : State) :
    (s.placePeer src x).pending = s.pending := ite_pending (ite_pending rfl rfl) (ite_pending rfl rfl)

theorem State.takeGeometry_pending (c : CabPayload) (s : State) : (s.takeGeometry c).pending = s.pending :=
  ite_pending rfl rfl

theorem State.stateHeard_pending (src : Nat) (x : StatePayload) (s : State) :
    (s.stateHeard src x).pending = s.pending := by
  have placed := s.placePeer_pending src x
  cases x with
  | roof p => exact placed
  | cab c => exact ite_pending ((State.takeGeometry_pending c _).trans placed) placed

theorem State.updatePeer_pending (address : Nat) (f : Peer → Peer) (s : State) :
    (s.updatePeer address f).pending = s.pending := by
  unfold State.updatePeer
  split
  · rfl
  · exact ite_pending rfl rfl

theorem State.alertHeard_pending (src : Nat) (x : Alert) (s : State) : (s.alertHeard src x).pending = s.pending := by
  unfold State.alertHeard
  split <;> exact ite_pending rfl rfl

theorem State.peerAged_pending (address : Nat) (s : State) : (s.peerAged address).pending = s.pending := by
  unfold State.peerAged
  split
  · rfl
  · exact ite_pending rfl rfl

theorem State.peerRemoved_pending (address : Nat) (s : State) : (s.peerRemoved address).pending = s.pending := by
  unfold State.peerRemoved
  split
  · rfl
  · exact ite_pending rfl rfl

theorem State.holdExpired_pending (s : State) : s.holdExpired.pending = s.pending := by
  unfold State.holdExpired
  split <;> rfl

theorem State.attemptEnded_pending (buffer : List Byte) (s : State) : (s.attemptEnded buffer).pending = s.pending := by
  unfold State.attemptEnded
  split
  · refine ite_pending (ite_pending rfl rfl) ?_
    split <;> rfl
  · rfl

theorem State.travelEnded_pending (s : State) : s.travelEnded.pending = s.pending := by
  unfold State.travelEnded
  split <;> rfl

theorem State.capReached_pending (s : State) : s.capReached.pending = s.pending := ite_pending rfl rfl

theorem State.onExpiry_pending {k : State → State} (h : ∀ s, (k s).pending = s.pending) (timer : Timer)
    (s : State) : (s.onExpiry timer k).pending = s.pending := by
  cases timer with
  | none => rfl
  | some n => exact h (s.elapse n)

theorem State.onPeerExpiry_pending {k : State → State} (h : ∀ s, (k s).pending = s.pending) (address : Nat)
    (timer : Peer → Timer) (s : State) : (s.onPeerExpiry address timer k).pending = s.pending := by
  unfold State.onPeerExpiry
  split
  · exact State.onExpiry_pending h _ s
  · rfl

/-! ### Frames -/

theorem State.obey_pending (dst src : Nat) (v : Verb) (mask : Byte) (s : State) :
    (s.obey dst src v mask).pending = s.pending := by
  cases v <;> rfl

theorem State.whenAdmitted_pending {k : State → State} (h : ∀ s, (k s).pending = s.pending)
    (dst src kind verb : Nat) (source : Bool) (s : State) :
    (s.whenAdmitted dst src kind verb source k).pending = s.pending := ite_pending rfl (ite_pending (h s) rfl)

/-- R170: the commands that wait stay through a link reset. -/
theorem State.acceptOrder_pending (dst src : Nat) (v : Verb) (mask : Byte) (t : Int) (s : State) :
    (s.acceptOrder dst src v mask t).pending = s.pending :=
  have arming : (s.armOrder dst src).pending = s.pending := ite_pending rfl rfl
  have resetting : (s.resetOrder dst src t).pending = s.pending := ite_pending rfl (ite_pending rfl rfl)
  ite_pending (ite_pending arming resetting) (State.whenAdmitted_pending (State.obey_pending dst src v mask) ..)

theorem State.accept_pending (dst src : Nat) (f : Frame) (t : Int) (s : State) :
    (s.accept dst src f t).pending = s.pending := by
  cases f with
  | order v mask arg => exact State.acceptOrder_pending ..
  | stateRoof p => exact State.stateHeard_pending ..
  | stateCab p => exact State.stateHeard_pending ..
  | bid b => exact State.updatePeer_pending ..
  | cede n => exact State.updatePeer_pending ..
  | alert x => exact State.alertHeard_pending ..
  | route n => exact State.whenAdmitted_pending (State.onAct_pending _) ..
  | cancel id => exact State.whenAdmitted_pending (State.onAct_pending _) ..

theorem State.checkFrame_pending (dst src kind : Nat) (f : Option Frame) (t : Int) (s : State) :
    (s.checkFrame dst src kind f t).pending = s.pending := by
  unfold State.checkFrame
  split
  · rfl
  · refine ite_pending rfl (ite_pending rfl ?_)
    split
    · exact State.accept_pending ..
    · rfl

theorem State.hear_pending {k : State → State} (h : ∀ s, (k s).pending = s.pending) (s : State) :
    (s.hear k).pending = s.pending := ite_pending rfl (h s)

theorem State.receive_pending (dst src : Byte) (f : Frame) (t : Int) (s : State) :
    (s.receive dst src f t).pending = s.pending := State.hear_pending (fun _ => State.checkFrame_pending ..) s

theorem State.receiveRaw_pending (dst src kind : Byte) (payload : List Byte) (s : State) :
    (s.receiveRaw dst src kind payload).pending = s.pending :=
  State.hear_pending (fun _ => State.checkFrame_pending ..) s

theorem State.receiveBytes_pending (bytes : List Byte) (s : State) : (s.receiveBytes bytes).pending = s.pending := by
  refine State.hear_pending (fun s => ?_) s
  split
  · exact ite_pending rfl (ite_pending (State.checkFrame_pending ..) rfl)
  · rfl

/-! ### The service port -/

theorem State.takeCommand_pending (code : Byte) (arg : Half) (s : State) :
    (s.takeCommand code arg).pending = s.pending := by
  unfold State.takeCommand
  split <;> rfl

theorem State.judge_pending (b0 c1 c2 d0 d1 : Byte) (s : State) : (s.judge b0 c1 c2 d0 d1).pending = s.pending :=
  ite_pending (State.takeCommand_pending ..) rfl

theorem State.gather_pending (b : Byte) (s : State) : (s.gather b).pending = s.pending := by
  unfold State.gather
  split
  · exact State.judge_pending ..
  · rfl

theorem State.command_pending {f : State → State} (h : ∀ s, (f s).pending = s.pending) (s : State) :
    (s.command f).pending = s.pending := ite_pending rfl (h s)

/-! ### Every command -/

/-- Every command has a next state, whose queue is the one it found: the end of the event does not touch it. -/
theorem exec_pending (c : Instr) (s : State) : ∃ t, exec c s = .next t ∧ t.pending = s.pending := by
  cases c
  case selectorTravelEnd => exact ⟨_, rfl, s.travelEnded_pending⟩
  case configAttemptEnd buffer => exact ⟨_, rfl, s.attemptEnded_pending buffer⟩
  case odoStale => exact ⟨_, rfl, s.capReached_pending⟩
  case framingError bytes => exact ⟨_, rfl, s.receiveBytes_pending bytes⟩
  case unknownKind => exact ⟨_, rfl, State.receiveRaw_pending ..⟩
  case lock | unlock | clearFaultSlots | clearFaultSwitchgear | prefer | resume | mute | unmute | resetArm | reset
      | stateRoof | stateCab | bid | cede | alert | route | cancel =>
    exact ⟨_, rfl, State.receive_pending ..⟩
  case peerAgeExpiry a => exact ⟨_, rfl, State.onPeerExpiry_pending (State.peerAged_pending a) ..⟩
  case peerRemovalExpiry a => exact ⟨_, rfl, State.onPeerExpiry_pending (State.peerRemoved_pending a) ..⟩
  case peerBidTimerExpiry a => exact ⟨_, rfl, State.onPeerExpiry_pending (State.updatePeer_pending a _) ..⟩
  case authorityHoldExpiry => exact ⟨_, rfl, State.onExpiry_pending State.holdExpired_pending ..⟩
  case badFrame => exact ⟨_, rfl, State.command_pending (fun _ => State.judge_pending ..) s⟩
  case unknownCommand => exact ⟨_, rfl, State.command_pending (fun _ => State.takeCommand_pending ..) s⟩
  case serviceByte b => exact ⟨_, rfl, State.command_pending (State.gather_pending b) s⟩
  case status | events | ack | peers | notices | config | counters =>
    exact ⟨_, rfl, State.command_pending (by intro; rfl) s⟩
  -- what follows a running-out timer writes a block, the port or the classifier
  case lossTimerExpiry | silenceTimerExpiry | surgeMaskExpiry | selectorTravelTimeout | isolatorTimeout
      | breakerCloseTimeout | breakerOpenTimeout | riseTimeout | lowerTimeout | armingTimerExpiry | stateTimerExpiry
      | bidWindowExpiry | bidSpacingExpiry | noticeReviewTimerExpiry | seqRetryExpiry | testRetryExpiry
      | powerlessTimerExpiry | noSupplyTimerExpiry | recloseHoldExpiry | seqReviewTimerExpiry | iceIntervalEnd
      | iceReviewTimerExpiry | listenTimerExpiry | joinTimerExpiry | serviceByteGapExpiry =>
    exact ⟨_, rfl, State.onExpiry_pending (by intro; rfl) ..⟩
  -- commands that write one part of the state whatever they find
  case powerOnReset | sampleFrame | selectorEndSwitchChange | isolatorClosed | isolatorOpened | isolatorContactConflict
      | breakerClosed | breakerOpened | breakerContactConflict | breakerTrip | roofTestCompletion | slotUp | slotDown
      | slotDropped | attemptStart | collision | jamEnd | backoffExpiry | frameSent | arcPulse | moderationCountEnd
      | serviceReplyEnd =>
    exact ⟨_, rfl, rfl⟩

/-- Settles O3. -/
theorem everyCommandAnswersANextState : Obligations.EveryCommandAnswersANextState := exec_pending

end Sys2Proof.Machine
